-- ==== Sys2Proof/Word.lean ====
section
/-! DEFINITION. The byte and bit-field vocabulary of the model (R4: bit 0 is the least significant bit of every
field; multi-byte fields are little-endian). Raw values of objects, descriptors and records are natural numbers;
their fields are cut out here and nowhere else. -/

namespace Sys2Proof

/-- One byte of a memory, a record or a transfer. -/
abbrev Byte := BitVec 8

/-- Bits `[lo + w - 1 : lo]` of a raw value (R4). -/
def bits (v lo w : Nat) : Nat := (v / 2 ^ lo) % 2 ^ w

/-- Bit `i` of a raw value (R4). -/
def bit (v i : Nat) : Bool := v.testBit i

/-- The raw value with bit `i` set. -/
def setBit (v i : Nat) : Nat := v ||| 2 ^ i

/-- The raw value with bit `i` cleared. -/
def clrBit (v i : Nat) : Nat := if v.testBit i then v - 2 ^ i else v

/-- The raw value with bit `i` made `b`. -/
def putBit (v i : Nat) (b : Bool) : Nat := if b then setBit v i else clrBit v i

/-- `v` with the field of width `w` at `lo` replaced by `x` (taken modulo the width). -/
def putBits (v lo w x : Nat) : Nat := v - bits v lo w * 2 ^ lo + (x % 2 ^ w) * 2 ^ lo

/-- A field of width `w` at `lo` holding `x`, for building layouts field by field. -/
def fld (lo w x : Nat) : Nat := (x % 2 ^ w) * 2 ^ lo

/-- 1 for true, 0 for false. -/
def b2n (b : Bool) : Nat := if b then 1 else 0

/-- Addition that stops at `top` (the saturating counters). -/
def satAdd (top a b : Nat) : Nat := min top (a + b)

/-- The whole part of the square root of a number below 2^128. -/
def isqrt (n : Nat) : Nat :=
  (List.range 64).foldl (fun r i => if (r + 2 ^ (63 - i)) * (r + 2 ^ (63 - i)) ≤ n then r + 2 ^ (63 - i) else r) 0

/-- `x` rounded up to a multiple of `m`. -/
def roundUp (x m : Nat) : Nat := (x + m - 1) / m * m

/-- `x / m` rounded up. -/
def ceilDiv (x m : Nat) : Nat := (x + m - 1) / m

/-- The two's complement reading of a `w`-bit raw value (R275). -/
def toSigned (w v : Nat) : Int := if v < 2 ^ (w - 1) then (v : Int) else (v : Int) - (2 ^ w : Nat)

/-- The `w`-bit raw value of an integer, modulo 2^w (R275). -/
def ofSigned (w : Nat) (i : Int) : Nat := (i % (2 ^ w : Nat)).toNat

/-- An integer brought into a range by clamping. -/
def clampInt (lo hi i : Int) : Int := max lo (min hi i)

/-- Number of bits set among the low `n` bits. -/
def popCount : Nat → Nat → Nat
  | 0, _ => 0
  | n + 1, v => b2n (v % 2 == 1) + popCount n (v / 2)

/-- Parity of the low `n` bits. -/
def parity (n v : Nat) : Bool := popCount n v % 2 == 1

/-- The lowest set bit among bits `i`, `i+1`, … of the next `n`. -/
def lowestBit : Nat → Nat → Nat → Option Nat
  | 0, _, _ => none
  | n + 1, i, v => if v.testBit i then some i else lowestBit n (i + 1) v

/-- The positions of the set bits among the low `n`, ascending. -/
def setBits (n v : Nat) : List Nat := (List.range n).filter (fun i => v.testBit i)

/-- The mask with exactly the listed bits set. -/
def maskOf (l : List Nat) : Nat := l.foldl setBit 0

/-- The first `n` bytes of a raw value, lowest first (R4). -/
def toBytes : Nat → Nat → List Byte
  | 0, _ => []
  | n + 1, v => BitVec.ofNat 8 v :: toBytes n (v / 256)

/-- The raw value of bytes in little-endian order (R4). -/
def ofBytes : List Byte → Nat
  | [] => 0
  | b :: l => b.toNat + 256 * ofBytes l

/-- The least `n` bits of a value bounded by floor of log2. -/
def log2Ceil (n : Nat) : Nat := if n ≤ 1 then 0 else Nat.log2 (n - 1) + 1

/-- One step of the IEEE 802.3 CRC-32 shift register, reflected form. -/
def crcBit (c : Nat) : Nat := if c % 2 == 1 then (c / 2) ^^^ 0xEDB88320 else c / 2

/-- Eight shift steps. -/
def crcByte (c : Nat) (b : Byte) : Nat :=
  let x := c ^^^ b.toNat
  crcBit (crcBit (crcBit (crcBit (crcBit (crcBit (crcBit (crcBit x)))))))

/-- CRC-32 with the IEEE 802.3 polynomial (R50, R215, R312), all-ones preset and final inversion as 802.3 has them. -/
def crc32 (l : List Byte) : Nat := (l.foldl crcByte 0xFFFFFFFF) ^^^ 0xFFFFFFFF

end Sys2Proof
end

