-- ==== Sys2Proof/Syntax.lean ====
section
/-! DEFINITION. The commands: one constructor per row of spec/opcode_table.json, with the row's operands. A command that
software sends as a transaction carries `Req`, where it came from (R287). An event of the pins, the links, the DUT or
the card carries what the block sees of it. `ecc` operands: 0 no error, 1 corrected single-bit, 2 uncorrectable. -/

namespace Sys2Proof

/-- Where a request came from (R287, R289): the port it arrived on (0 upstream, 1 downstream), the sending node, its
TAG, and whether it was addressed to node 63 (R290). -/
structure Req where
  port  : Nat
  src   : Nat
  tag   : Nat
  bcast : Bool
  deriving DecidableEq, Repr

/-- What the comparator inputs of one channel show during a VP (R153, R155). `s1`, `s2`: CMPL and CMPH at the STB1 and
STB2 sampling times, as CMPH + 2·CMPL; `win`: the states seen for 30 ps or more between the strobes (R119), `brief`:
those seen for a shorter time only. -/
structure Sample where
  chan  : Nat
  s1    : Nat
  s2    : Nat
  win   : List Nat
  brief : List Nat
  deriving DecidableEq, Repr

/-- A frame of a port (R312): its header of 128 bits (R313), the words of its payload, and its trailer word. -/
structure Frame where
  head  : Nat
  body  : List Nat
  trail : Nat
  deriving DecidableEq, Repr

/-- A GAL_SEQ frame as it arrives: the relays behind it (R326) and the frame (R311). -/
structure Relayed where
  hops  : Nat
  frame : Frame
  deriving DecidableEq, Repr

/-- A capabilities frame (R310), with the smallest round trip of the echo frames in fs on a Gallery port (R325). -/
structure Caps where
  vendor  : Nat
  device  : Nat
  majors  : Nat
  minor1  : Nat
  minor2  : Nat
  feats   : Nat
  role    : Nat
  galNode : Nat
  round   : Nat
  deriving DecidableEq, Repr

/-- A TIME frame as it arrives (R340): its port, the frame, and its stamp points in fs after the present value of each base
(R345): the raw ingress stamp, and the raw egress stamp of what the frame makes the node send. -/
structure TimeMsg where
  port  : Nat
  frame : Frame
  raw   : Int
  eg    : Int
  deriving DecidableEq, Repr

/-- What a GAL_TIMED frame carries (R325). -/
inductive GalTimed where
  | bondValue (group entry iter member : Nat) (value : Bool)
  | stopNotice (group member kind : Nat)      -- kind 0 STOP, 1 PAUSE, 2 ABORTED
  | skewMarker
  | epochCount (count : Nat)
  deriving DecidableEq, Repr

/-- What a GAL_SEQ frame carries (R325). -/
inductive GalSeq where
  | memberState (group member state : Nat)
  | membership (group member rl hops : Nat)
  | startInstant (group tick : Nat)
  | stopNotice (group member kind tick : Nat)
  deriving DecidableEq, Repr

/-- The commands of the block: every row of spec/opcode_table.json. -/
inductive Instr where
  -- transactions
  | dictRead (r : Req) (index sub : Nat)
  | dictWrite (r : Req) (index sub len value : Nat)
  | openWrite (r : Req) (index sub total : Nat)
  | openRead (r : Req) (index sub len : Nat)
  | data (r : Req) (index sub offset len : Nat) (payload : List Byte)
  | close (r : Req) (index sub : Nat)
  | cancel (r : Req) (index sub : Nat)
  | blockTimeout (index sub : Nat)
  | bulkWrite (r : Req) (addr : Nat) (posted : Bool) (payload : List Byte)
  | bulkRead (r : Req) (addr len : Nat)
  | enumClear (r : Req)
  | enumAssign (r : Req) (nextId : Nat)
  | transFrameReceived (port : Nat) (f : Frame)
  | frameForward (port : Nat)
  | ackOnly (port : Nat) (f : Frame)
  | replayTimeout (port : Nat)
  | pauseOn (port : Nat)
  | pauseOff (port : Nat)
  | noticeSend
  -- chip, reset and boot
  | chipEnable (r : Req)
  | chipDisable (r : Req)
  | serviceEnter (r : Req)
  | serviceExit (r : Req)
  | resetNAssert
  | resetNRelease (bootMode : Nat)
  | reboot (r : Req)
  | commitRollback (r : Req)
  | flashBoot
  | flashProgrammed
  -- power
  | pdOn (r : Req) (d : Nat)
  | pdOff (r : Req) (d : Nat)
  | domainRampDone (d : Nat)
  | domainRamp (d : Nat)
  | railCrossing (rail level : Nat) (below : Bool)
  | pwrWarnNChange (low : Bool)
  | shedLevelRise
  | shedLevelFall
  | adcCmd (r : Req) (mask : Nat)
  | adcConverted (code : Nat)
  | railOn (r : Req) (rail : Nat)
  | railOff (r : Req) (rail : Nat)
  | railRead (r : Req) (rail : Nat)
  | railMvWrite (r : Req) (rail mv : Nat)
  | pmbusTransactionDone (m : Nat) (acked linear16 : Bool) (vout iout status : Nat)
  | pmbAlert (m : Nat)
  | ssqRun (r : Req) (q : Nat)
  | ssqStepDone (q : Nat)
  | waitUsExpiry (q : Nat)
  | waitBelowPoll (q mv : Nat) (expired : Bool)
  | spiXfer (r : Req) (p value rx : Nat)
  | wlRun (r : Req) (w : Nat)
  | wlEntryDone (w rx : Nat)
  -- clocks, faults, canary
  | refclkLost
  | pllUnlock (k : Nat)
  | pllLock (k : Nat)
  | faultClear (r : Req) (value : Nat) (reads : List (Nat × Option Nat))
  | flogClear (r : Req)
  | canaryToggle
  | wdtExpiry
  | hfRestartDone
  -- Winder
  | wndRun (r : Req)
  | wndAbort (r : Req)
  | safePoint
  | winderHang
  | thermTrackDue
  | thermTrack (temps : List Nat)
  | laneAdapt (lane preReq postReq presetReq : Nat)
  | shedSeq
  | microNext (ecc : Nat)
  | microJmp (ecc : Nat)
  | microJcc (ecc : Nat)
  | microCall (ecc : Nat)
  | microRet (ecc : Nat)
  | microSafe (ecc : Nat)
  | microWaite (ecc : Nat) (done : Bool)
  | microLoop (ecc : Nat)
  | microHalt (ecc : Nat)
  | microTrap (ecc : Nat)
  -- sequencers
  | seqArm (r : Req) (n : Nat)
  | seqDisarm (r : Req) (n : Nat)
  | seqStart (r : Req) (n : Nat)
  | seqPause (r : Req) (n : Nat)
  | seqResume (r : Req) (n : Nat)
  | seqStop (r : Req) (n : Nat)
  | seqJump (r : Req) (n : Nat)
  | startInstant (n : Nat)
  | trigInEdge (line : Nat) (rising : Bool)
  | jumpRequestArrival (n : Nat)
  | vpIssue (n : Nat) (samples : List Sample)
  | holdEnd (n : Nat)
  | vpRetire (n : Nat) (late : List Nat)
  | sitePark (r : Req) (m : Nat)
  | siteMask (r : Req) (m : Nat)
  | trigOutEnd (line : Nat)
  -- decompressor and refill
  | lit (n seam ecc : Nat)
  | rep (n seam ecc : Nat)
  | dict (n seam ecc : Nat)
  | delta (n seam ecc : Nat)
  | scan (n seam ecc : Nat)
  | run (n seam ecc : Nat)
  | refillLines (n w ecc : Nat)
  -- timing
  | tsetSeal (r : Req) (n mask : Nat)
  | speTargetWrite (r : Req) (k value : Nat)
  | tmuStart (r : Req) (k : Nat)
  | tmuAbort (r : Req) (k : Nat)
  | tmuSample (k interval : Nat)
  | tmuTimeout (k : Nat)
  | armEpoch (r : Req)
  | cancelEpoch (r : Req)
  | syncInEpoch
  | galTimed (p hops : Nat) (fr : Frame) (f : GalTimed)
  | galSeq (p : Nat) (r : Relayed) (f : GalSeq)
  -- Hewer instructions
  | nop (h : Nat)
  | halt (h : Nat)
  | jmp (h : Nat)
  | jfs (h : Nat)
  | jfc (h : Nat)
  | loop (h : Nat)
  | call (h : Nat)
  | ret (h : Nat)
  | ldi (h : Nat)
  | ldbl (h : Nat)
  | ldbh (h : Nat)
  | addi (h : Nat)
  | mov (h : Nat)
  | swapbg (h : Nat)
  | notbg (h : Nat)
  | setf (h : Nat)
  | clrf (h : Nat)
  | jrz (h : Nat)
  | jrnz (h : Nat)
  | jlt (h : Nat)
  | swxy (h : Nat)
  | wseg (h : Nat)
  -- Assay and Dowser
  | asyArm (r : Req) (u : Nat)
  | asyDisarm (r : Req) (u : Nat)
  | force (r : Req) (u : Nat)
  | rearmEnd (u : Nat)
  | eviction (u bytes ecc : Nat)
  | dwsStart (r : Req) (d : Nat)
  | dwsAbort (r : Req) (d : Nat)
  | dwsStepSeal (d : Nat)
  -- Overman
  | clusterOffline (r : Req) (k : Nat)
  | clusterOnline (r : Req) (k : Nat)
  | graphStart (r : Req) (g : Nat)
  | graphStop (r : Req) (g : Nat)
  | graphDrain (r : Req) (g : Nat)
  | inputRecord (g k : Nat)
  | parcelWaitExpiry (g inst : Nat)
  | operationDispatch (c : Nat)
  | operationComplete (c ecc : Nat) (trap : Bool) (kernel : List (List Nat))
  | itemWrite (g : Nat)
  | opTimeout (c : Nat)
  | agePromotion (op : Nat)
  | streamBind (r : Req) (s : Nat)
  | streamUnbind (r : Req) (s : Nat)
  -- Tarn, staging, Sump, Tram
  | qEnable (r : Req) (q : Nat)
  | qDisable (r : Req) (q : Nat)
  | qFlush (r : Req) (q : Nat)
  | qPop (r : Req) (q : Nat)
  | qPush (r : Req) (q value : Nat)
  | qPushEnd (r : Req) (q value : Nat)
  | qWeirWrite (r : Req) (q value : Nat)
  | stagingDeliver (k : Nat)
  | startEndAdmit (k : Nat)
  | sumpBind (r : Req) (x : Nat)
  | sumpUnbind (r : Req) (x : Nat)
  | sumpDrain (x : Nat)
  | sumpRdWrite (r : Req) (x value : Nat)
  | tramStart (r : Req) (c : Nat)
  | tramRestart (r : Req) (c : Nat)
  | tramAbort (r : Req) (c : Nat)
  | descFetch (c : Nat)
  | descComplete (c : Nat) (eccAt : Option Nat) (host : List Byte) (hostAbort : Bool)
  -- DDR4
  | ddrInit (r : Req)
  | srEnter (r : Req)
  | srExit (r : Req)
  | release (r : Req)
  | burstAdmit (c port : Nat)
  | burstIssue (c ecc : Nat)
  | portAgeExpiry (c port : Nat)
  | trefiTick (c rank : Nat)
  | refIssue (c rank : Nat)
  | scrubIntervalExpiry (c ecc : Nat)
  | alertN (c : Nat) (replays : Nat) (recovered : Bool)
  -- ports and lanes (port 0 upstream, 1 downstream, 2 + p Gallery p)
  | portEnable (r : Req) (p : Nat)
  | portDisable (r : Req) (p : Nat)
  | portRetrain (r : Req) (p : Nat)
  | receiverDetect (p : Nat) (lanes : Nat)
  | trainingFrame (lane word : Nat)
  | stageTimeout (p : Nat)
  | backoffExpiry (p : Nat)
  | capabilitiesFrame (p : Nat) (c : Caps)
  | blockLockLost (lane : Nat)
  | widthReq (p mask : Nat)
  | widthAck (p mask : Nat)
  | stabilityHoldEnd (lane : Nat)
  | rejoinReq (p mask : Nat)
  | rejoinAck (p mask : Nat)
  | loopEnter (r : Req) (lane : Nat)
  | loopExit (r : Req) (lane : Nat)
  | eyeStart (r : Req) (lane : Nat)
  | eyeAbort (r : Req) (lane : Nat)
  | inject (r : Req) (lane : Nat)
  | eyePointDone (lane mismatches : Nat)
  | periodicInject (lane : Nat)
  -- Wellhead
  | tbInit (r : Req) (b : Nat)
  | tbStop (r : Req) (b : Nat)
  | rateWrite (r : Req) (b value : Nat)
  | sync (m : TimeMsg)
  | followUp (m : TimeMsg)
  | delayReq (m : TimeMsg)
  | delayResp (m : TimeMsg)
  | mark (port : Nat) (fr : Frame) (raw eg : Int)
  | tsMark (r : Req) (value : Nat) (eg : Int)
  | tsqPop (r : Req) (value : Nat)
  | almArm (r : Req) (s : Nat)
  | almDisarm (r : Req) (s : Nat)
  | alarmFiring (s : Nat)
  -- self-test and boundary scan
  | bistStart (r : Req)
  | bistAbort (r : Req)
  | bypass
  | idcode
  | samplePreload (cells : List Bool)
  | extest
  | extestPulse
  | extestTrain
  | clamp
  | highz
  -- lanes and lines, continued
  | laneLock (lane : Nat)
  | tbusEdge (line : Nat) (asserted : Bool)
  | prbsCheckerLock (lane : Nat) (locked : Bool)
  deriving DecidableEq, Repr

end Sys2Proof
end

