-- ==== Sys2Proof/Config.lean ====
section
/-! DEFINITION. What an implementation fixes and the free values: constants without a body, which nothing in Lean can
evaluate. A statement about a free value holds whatever it is. Each is named in the assumption log (entry 4). -/

namespace Sys2Proof.Config

/-- A byte of a memory that nothing has written since its domain came on (R37: undefined data); argument: the model's
free-value counter at the read, then the address. -/
opaque freeByte : Nat → Nat → BitVec 8

/-- A free bit, for an outcome the spec leaves open (R84, R119, R126); argument: the free-value counter. -/
opaque freeBit : Nat → Bool

/-- Whether a Lode line nothing has written since its bank came on reads with uncorrectable check bits (R37: undefined data
and check bits); arguments: the free-value counter, the line. -/
opaque freeCheck : Nat → Nat → Bool

/-- A free 64-bit value the spec states no rule for (signatures, measured figures, nano-word results); argument: the
free-value counter. -/
opaque freeWord : Nat → BitVec 64

/-- The per-unit serial number less one, which gives every unit of R296 its SERIAL. -/
opaque unit : Nat

/-- SERIAL (R296): 64 bits, unique to the unit and never 0. -/
def serial : BitVec 64 := BitVec.ofNat 64 (unit % (2 ^ 64 - 1) + 1)

/-- COLLIER_FW of the image that runs at reset (R393; log entry 1). -/
opaque collierFw : List (BitVec 8)

/-- The payload words of a GAL_SEQ frame, in a layout the spec does not give (R325); argument: its hop count. -/
opaque galSeqWords : Nat → GalSeq → List (BitVec 64)

/-- The payload words of a GAL_TIMED frame, in a layout the spec does not give (R325); argument: its hop count. -/
opaque galTimedWords : Nat → GalTimed → List (BitVec 64)

/-- The expected signature of a self-test (R420): of the image's BIST_SIGNATURES section, in a layout the spec does not give, for
a BIST_TARGET; logic (false) or memory (true). -/
opaque bistExpected : List (BitVec 8) → Nat → Bool → BitVec 64

/-- Which of the 17 segments of a seam's logic MISR differ, or which two spare engines failed (R420), between a signature and
the expected one: the spec gives no layout of the segments. -/
opaque misrSegments : BitVec 64 → BitVec 64 → BitVec 17

/-- The boundary cell of a ball, by the ball's number (R424): the order of the cells stands in a file outside the spec. -/
opaque cellOf : Nat → Nat

/-- SHA-384 of a byte string, as a number (R394 check 4); FIPS 180-4 is outside the spec's text. -/
opaque sha384 : List (BitVec 8) → Nat

/-- Whether an ECDSA P-384 signature over SHA-384 verifies: public key, signed bytes, signature (R393, R394 check 5). -/
opaque ecdsaVerifies : List (BitVec 8) → List (BitVec 8) → List (BitVec 8) → Bool

/-- AES key unwrap (RFC 3394) under this unit's device-unique key (R393); none where it fails. -/
opaque keyUnwrap : List (BitVec 8) → Option (List (BitVec 8))

/-- AES-256-GCM decryption: body key, IV, tag, ciphertext; none where the tag does not verify (R393, R394 check 8). -/
opaque gcmDecrypt : List (BitVec 8) → Nat → Nat → List (BitVec 8) → Option (List (BitVec 8))

/-- The hash of root key slot i held in eFuse (R394 check 4). -/
opaque rootKeyHash : Nat → Nat

/-- JEDEC ID of the card's boot flash; 0 none (R396). -/
opaque flashJedecId : BitVec 32

/-- CAUSE of the event a hand-over raises (R122 gives none). -/
opaque causeHandover : BitVec 8

/-- CAUSE of the event a reserved code raises (R30 gives none). -/
opaque causeCodeEvent : BitVec 8

/-- CAUSE of the event a HALT with IMM [0] 1 raises (R140 gives none). -/
opaque causeHalt : BitVec 8

/-- CAUSE of the event of a fault whose chapter numbers no cause, by fault kind (R100, R151, R234). -/
opaque causeOfFault : Nat → BitVec 8

/-- Event information of a hand-over: entry index and set mask in a layout the spec does not give (R122). -/
opaque infoHandover : Nat → Nat → BitVec 64

/-- Event information of an alarm firing: slot and match time in a layout the spec does not give (R351). -/
opaque infoAlarm : Nat → Nat → BitVec 64

/-- Event information of a shed level change (level, SHED_CAUSE) and of a Winder event (routine, step), in layouts the spec
does not give (R372, R397). -/
opaque infoShed : Nat → Nat → BitVec 64
opaque infoWinder : Nat → Nat → BitVec 64

/-- The parameter table of a graph image (R238: it gives subindices, types and defaults, in a layout the spec does not
give): highest subindex of parameter p; for p and a subindex, whether it exists, with the place of its type in R275's list
of fixed-length types (`Ty.ofCode`) and whether it is RO; whether a value is within its stated range; its default; and the
node and the place among the node's parameters it maps onto. -/
opaque paramTop : List (BitVec 8) → Nat → BitVec 8
opaque paramRow : List (BitVec 8) → Nat → Nat → Option (Nat × Bool)
opaque paramIn : List (BitVec 8) → Nat → Nat → Nat → Bool
opaque paramDefault : List (BitVec 8) → Nat → Nat → BitVec 80
opaque paramPlace : List (BitVec 8) → Nat → Nat → Nat × Nat

end Sys2Proof.Config
end

