-- ==== Sys2Proof/Machine/Table.lean ====
section
/-! DEFINITION. Sparse tables: sorted lists of key and value, for the object store and for the state of numbered
instances. A key that is not listed has the value the reader names. -/

namespace Sys2Proof.Machine

/-- A sparse table by number. -/
abbrev Table (α : Type) := List (Nat × α)

/-- The value at a key, if listed. -/
def Table.find {α : Type} : Table α → Nat → Option α
  | [], _ => none
  | (j, v) :: t, k => if j = k then some v else Table.find t k

/-- The value at a key, or the value an unlisted key has. -/
def Table.at {α : Type} (t : Table α) (d : α) (k : Nat) : α := (Table.find t k).getD d

/-- The table with the value at one key replaced; keys stay ascending. -/
def Table.put {α : Type} : Table α → Nat → α → Table α
  | [], k, v => [(k, v)]
  | (j, w) :: t, k, v =>
    if k < j then (k, v) :: (j, w) :: t
    else if k = j then (k, v) :: t
    else (j, w) :: Table.put t k v

/-- The table without one key. -/
def Table.del {α : Type} (t : Table α) (k : Nat) : Table α := t.filter (fun p => p.1 ≠ k)

theorem Table.find_put_same {α : Type} (t : Table α) (k : Nat) (v : α) : Table.find (Table.put t k v) k = some v := by
  induction t with
  | nil => simp [Table.put, Table.find]
  | cons p t ih =>
    obtain ⟨j, w⟩ := p
    unfold Table.put
    split
    · simp [Table.find]
    · split
      · simp [Table.find]
      · rename_i h1 h2; simp [Table.find, ih, Ne.symm h2]

theorem Table.find_put_ne {α : Type} (t : Table α) (k j : Nat) (v : α) (h : j ≠ k) :
    Table.find (Table.put t k v) j = Table.find t j := by
  induction t with
  | nil => simp [Table.put, Table.find, Ne.symm h]
  | cons p t ih =>
    obtain ⟨i, w⟩ := p
    unfold Table.put
    split
    · simp [Table.find, Ne.symm h]
    · split
      · rename_i h1 h2; subst h2; simp [Table.find, Ne.symm h]
      · simp [Table.find, ih]

@[simp] theorem Table.at_put_same {α : Type} (t : Table α) (d : α) (k : Nat) (v : α) :
    Table.at (Table.put t k v) d k = v := by simp [Table.at, Table.find_put_same]

theorem Table.at_put_ne {α : Type} (t : Table α) (d : α) (k j : Nat) (v : α) (h : j ≠ k) :
    Table.at (Table.put t k v) d j = Table.at t d j := by simp [Table.at, Table.find_put_ne _ _ _ _ h]

@[simp] theorem Table.at_nil {α : Type} (d : α) (k : Nat) : Table.at ([] : Table α) d k = d := rfl

end Sys2Proof.Machine
end

