-- ==== Sys2Proof/Machine/Dictionary.lean ====
section
/-! DEFINITION. The object dictionary as the object tables of the spec give it (R273, R275, R276): for every index its
objects, each with its subindices, type, access code, default and the values a write may give it. The own checks of an
object that read other state are in Machine/Objects. -/

namespace Sys2Proof.Machine

/-- Object types (R275); the number is the length in bytes. -/
inductive Ty where
  | bool | u (n : Nat) | i (n : Nat) | f32 | f64 | time | stamp | str | bits (n : Nat) | addr | domain
  deriving DecidableEq, Repr

/-- Bytes of a value of the type (R275); none where the length varies. -/
def Ty.len : Ty → Option Nat
  | .bool => some 1
  | .u n => some n
  | .i n => some n
  | .f32 => some 4
  | .f64 => some 8
  | .time => some 8
  | .stamp => some 10
  | .str => none
  | .bits n => some n
  | .addr => some 8
  | .domain => none

/-- A value of the type's length that the type itself does not refuse (R275): no NaN or infinity, a STAMP80 of less than a
second's nanoseconds, an address of 40 bits. -/
def Ty.holds : Ty → Nat → Bool
  | .bool, v => decide (v < 2)
  | .f32, v => Sys2Proof.bits v 23 8 != 0xFF
  | .f64, v => Sys2Proof.bits v 52 11 != 0x7FF
  | .stamp, v => decide (v % 2 ^ 32 < 1000000000)
  | .addr, v => decide (v < 2 ^ 40)
  | _, _ => true

/-- The types of fixed length in the order of R275's list. -/
def Ty.ofCode (c : Nat) : Option Ty :=
  [Ty.bool, .u 1, .u 2, .u 4, .u 8, .i 1, .i 2, .i 4, .i 8, .f32, .f64, .time, .stamp, .bits 1, .bits 2, .bits 4, .bits 8, .addr][c]?

/-- Access codes (R276). -/
inductive Acc where
  | ro | rw | wo | rws | rwc | const
  deriving DecidableEq, Repr

/-- One row of an object table: subindices `lo` to `hi`, type, access, default by instance and subindex, and whether a
written value is within the object's own limits (instance, value). -/
structure Row where
  lo   : Nat
  hi   : Nat
  ty   : Ty
  acc  : Acc
  dflt : Nat → Nat → Nat
  ok   : Nat → Nat → Bool

/-- A default that is the same for every instance. -/
def k0 (v : Nat) : Nat → Nat → Nat := fun _ _ => v

/-- No limit beyond the type's. -/
def any : Nat → Nat → Bool := fun _ _ => true
/-- A range. -/
def rng (a b : Nat) : Nat → Nat → Bool := fun _ v => decide (a ≤ v) && decide (v ≤ b)
/-- Reserved bits of a BITS object must be 0 (R5). -/
def resv (mask : Nat) : Nat → Nat → Bool := fun _ v => v &&& mask == 0
/-- An enumeration. -/
def one (l : List Nat) : Nat → Nat → Bool := fun _ v => l.contains v
/-- A number up to `top`, or 0xFF for none. -/
def orFF (top : Nat) : Nat → Nat → Bool := fun _ v => decide (v ≤ top) || v == 0xFF
/-- A Tarn queue 0 to 255, or 0xFFFF for none. -/
def queueOrNone : Nat → Nat → Bool := fun _ v => decide (v ≤ 255) || v == 0xFFFF
/-- An address on an alignment. -/
def al (a : Nat) : Nat → Nat → Bool := fun _ v => v % a == 0
/-- A signed range. -/
def srng (w : Nat) (a b : Int) : Nat → Nat → Bool := fun _ v => decide (a ≤ toSigned w v) && decide (toSigned w v ≤ b)
/-- A signed range on a step. -/
def sstep (w : Nat) (a b st : Int) : Nat → Nat → Bool := fun o v => srng w a b o v && toSigned w v % st == 0

/-- A pin-state code that is not reserved (R28). -/
def codeOk (c : Nat) : Bool := decide (c < 12) || c == 15
/-- SCAN_PAIR: no reserved code (R35). -/
def scanPair : Nat → Nat → Bool := fun _ v => codeOk (v % 16) && codeOk (v / 16)
/-- WIN_CFG: reserved fields (R46). -/
def winCfg : Nat → Nat → Bool := fun _ v => bits v 59 5 == 0 && bits v 21 6 == 0
/-- START_SRC: reserved bits and SOURCE (R71). -/
def startSrc : Nat → Nat → Bool := fun _ v => decide (v < 64) && decide (v % 8 ≤ 3)
/-- BOND_CFG: reserved fields (R93). -/
def bondCfg : Nat → Nat → Bool := fun _ v => bits v 24 8 == 0 && bits v 6 10 == 0
/-- FMT: reserved bits, CMP_MODE and FORMAT (R111). -/
def fmtOk : Nat → Nat → Bool := fun _ v => bits v 10 6 == 0 && bits v 3 5 == 0 && decide (bits v 8 2 < 3) && decide (v % 8 < 6)
/-- EDGE_A and EDGE_B: bit 63 reserved (R111). -/
def edgeOk : Nat → Nat → Bool := fun _ v => bits v 63 1 == 0
/-- TMU event source: KIND, reserved bits and SELECT (R127). -/
def tmuSrc : Nat → Nat → Bool := fun _ v =>
  decide (bits v 12 4 ≤ 8) && bits v 6 6 == 0 &&
  (decide (bits v 12 4 ≤ 4) || (if bits v 12 4 = 7 then decide (v % 64 < 8)
    else if bits v 12 4 = 8 then decide (v % 64 < 4) else v % 64 == 0))
/-- TRIG_SRC of an Assay unit: KIND, reserved bits and SELECT (R181). -/
def trigSrc : Nat → Nat → Bool := fun _ v =>
  decide (bits v 12 4 ≤ 4) && bits v 5 7 == 0 && ((bits v 12 4 != 1 && bits v 12 4 != 2) || decide (v % 32 < 8))
/-- DWS_PARAM: parameter codes (R206). -/
def dwsParam : Nat → Nat → Bool := fun _ v => decide (v % 16 ≤ 6) && decide (v / 16 ≤ 7)
/-- IN_CFG: KIND and reserved bits (R224). -/
def inCfg : Nat → Nat → Bool := fun _ v => decide (bits v 28 4 ≤ 3) && bits v 8 19 == 0
/-- DEVICE_CFG (R262). -/
def deviceCfg : Nat → Nat → Bool := fun _ v => decide (v < 64) && decide (bits v 2 2 < 3) && decide (v % 4 < 2)
/-- FEATURES of the DDR4 controller (R262). -/
def features : Nat → Nat → Bool := fun _ v => decide (v < 32) && decide (bits v 2 2 < 3)
/-- LOOP_CFG (R331). -/
def loopCfg : Nat → Nat → Bool := fun _ v => bits v 10 6 == 0 && decide (bits v 8 2 < 3) && bits v 6 2 == 0 && bits v 1 3 == 0
/-- EYE_CFG (R331). -/
def eyeCfg : Nat → Nat → Bool := fun _ v => bits v 18 14 == 0 && decide (bits v 16 2 < 3) && bits v 6 3 == 0
/-- BIST_TARGET: reserved bits and KIND; a DOMAIN or UNIT out of place is refused at START (R417, R419). -/
def bistTarget : Nat → Nat → Bool := fun _ v =>
  decide (1 ≤ bits v 12 4) && decide (bits v 12 4 ≤ 3) && bits v 6 2 == 0
/-- SSQ_STEP: OP (R388). -/
def ssqStep : Nat → Nat → Bool := fun _ v => decide (bits v 28 4 ≤ 5)
/-- WL_ENTRY: LEN and reserved bits (R390). -/
def wlEntry : Nat → Nat → Bool := fun _ v => bits v 56 2 == 0 && bits v 58 3 != 7
/-- SPI_XFER: LEN 7 is reserved (R390). -/
def xferLen : Nat → Nat → Bool := fun _ v => bits v 58 3 != 7
/-- SHED_THR: thresholds ascending (R382). -/
def shedThr : Nat → Nat → Bool := fun _ v =>
  decide (bits v 0 8 < bits v 8 8) && decide (bits v 8 8 < bits v 16 8) && decide (bits v 16 8 < bits v 24 8)

/-- Default reactions of the fault kinds (R402); the reaction values are those of R399. -/
def faultReactDefault (fk : Nat) : Nat :=
  if fk ∈ [5, 6, 7, 8] then 2
  else if fk ∈ [1, 2, 3, 4, 9, 10, 11, 12, 14, 15, 16, 17, 19, 22, 23] then 3
  else if fk ∈ [28, 29, 30, 31, 32, 37, 38] then 4
  else 0

/-- SCR_PERMk default: byte j holds 8k + j (R134). -/
def permIdentity (k : Nat) : Nat := (List.range 8).foldl (fun a j => a + (8 * k + j) * 256 ^ j) 0

/-- ORDER_CODE TL2564A-FC5184-E, its 16 UTF-8 bytes little-endian (R296). -/
def orderCode : Nat := 0x452D343831354346_2D41343635324C54

/-- FW_VERSION of the running image (R296: major at least 1). The value is the image's; DESIGN CHOICE, log entry 5. -/
def fwVersion : Nat := 0x01000000

/-- Objects at 0x0100 (R296). -/
def identityRows : List Row :=
  [ ⟨0x01, 0x01, (.u 4), .const, (k0 0xCAE1), any⟩,
    ⟨0x02, 0x02, (.u 4), .const, (k0 0x2564), any⟩,
    ⟨0x03, 0x03, (.bits 1), .const, (k0 33), any⟩,
    ⟨0x04, 0x04, .str, .const, (k0 orderCode), any⟩,
    ⟨0x05, 0x05, (.u 8), .const, (fun _ _ => Config.serial.toNat), any⟩,
    ⟨0x06, 0x06, (.bits 4), .ro, (k0 fwVersion), any⟩,
    ⟨0x07, 0x07, (.bits 4), .const, (k0 0x2030100), any⟩,
    ⟨0x08, 0x08, (.bits 2), .const, (k0 6), any⟩,
    ⟨0x09, 0x09, (.bits 2), .const, (k0 2), any⟩,
    ⟨0x0A, 0x0A, (.u 2), .const, (k0 0x100), any⟩,
    ⟨0x0B, 0x0B, (.u 1), .const, (k0 64), any⟩,
    ⟨0x0C, 0x0C, (.u 1), .const, (k0 128), any⟩,
    ⟨0x0D, 0x0D, (.u 4), .const, (k0 0x200000), any⟩,
    ⟨0x0E, 0x0E, (.u 4), .const, (k0 0x10000), any⟩,
    ⟨0x0F, 0x0F, (.u 1), .const, (k0 34), any⟩ ]

/-- Objects at 0x0101 (R297). -/
def groupRevRows : List Row :=
  [ ⟨0x01, 0x22, (.u 2), .ro, (k0 1), any⟩ ]

/-- Objects at 0x0200 (R328). -/
def nodeRows : List Row :=
  [ ⟨0x01, 0x01, (.u 1), .ro, (k0 0), any⟩,
    ⟨0x02, 0x02, .bool, .ro, (k0 1), any⟩,
    ⟨0x03, 0x03, (.u 4), .rwc, (k0 0), any⟩,
    ⟨0x04, 0x04, (.u 8), .rw, (k0 0), (fun _ v => v % 4096 == 0 && v ≤ 2 ^ 40)⟩,
    ⟨0x05, 0x05, (.u 4), .rwc, (k0 0), any⟩ ]

/-- Objects at 0x0201 (R329). -/
def portRows : List Row :=
  [ ⟨0x01, 0x01, (.u 1), .wo, (k0 0), (rng 1 3)⟩,
    ⟨0x02, 0x02, (.u 1), .ro, (fun o _ => if o = 0 then 1 else 0), any⟩,
    ⟨0x03, 0x03, (.u 1), .ro, (k0 0), any⟩,
    ⟨0x04, 0x04, (.bits 1), .ro, (k0 0), any⟩,
    ⟨0x05, 0x05, (.u 1), .rw, (k0 3), (rng 0 3)⟩,
    ⟨0x06, 0x06, (.u 2), .rw, (k0 100), (rng 1 10000)⟩,
    ⟨0x07, 0x07, (.bits 2), .ro, (k0 0), any⟩,
    ⟨0x08, 0x08, (.bits 2), .ro, (k0 0), any⟩,
    ⟨0x09, 0x09, (.u 8), .ro, (k0 0), any⟩,
    ⟨0x0A, 0x0A, (.u 4), .rwc, (k0 0), any⟩,
    ⟨0x0B, 0x0B, (.u 2), .ro, (k0 1), any⟩,
    ⟨0x0C, 0x0C, (.u 4), .rwc, (k0 0), any⟩,
    ⟨0x0D, 0x0D, (.u 4), .rwc, (k0 0), any⟩,
    ⟨0x0E, 0x0E, (.u 8), .rwc, (k0 0), any⟩,
    ⟨0x0F, 0x0F, (.u 8), .rwc, (k0 0), any⟩,
    ⟨0x10, 0x10, (.bits 2), .ro, (k0 0), any⟩,
    ⟨0x11, 0x11, (.u 8), .ro, (k0 0), any⟩,
    ⟨0x12, 0x12, (.u 8), .ro, (k0 0), any⟩,
    ⟨0x13, 0x13, (.u 4), .rwc, (k0 0), any⟩,
    ⟨0x14, 0x14, (.u 4), .rwc, (k0 0), any⟩ ]

/-- Objects at 0x0210 (R330). -/
def galleryPortRows : List Row :=
  [ ⟨0x20, 0x20, .time, .ro, (k0 0), any⟩,
    ⟨0x21, 0x21, .time, .ro, (k0 0), any⟩,
    ⟨0x22, 0x22, (.u 4), .rwc, (k0 0), any⟩,
    ⟨0x23, 0x23, (.u 1), .ro, (k0 0), any⟩ ]

/-- Objects at 0x0214 (R330). -/
def galleryNodeRows : List Row :=
  [ ⟨0x01, 0x01, (.u 1), .rws, (k0 0), (rng 0 15)⟩ ]

/-- Objects at 0x0220 (R331). -/
def laneRows : List Row :=
  [ ⟨0x01, 0x01, (.u 1), .wo, (k0 0), (rng 1 5)⟩,
    ⟨0x02, 0x02, (.u 1), .ro, (k0 0), any⟩,
    ⟨0x03, 0x03, (.bits 2), .ro, (k0 0), any⟩,
    ⟨0x04, 0x04, (.u 4), .rwc, (k0 0), any⟩,
    ⟨0x05, 0x05, (.u 8), .rwc, (k0 0), any⟩,
    ⟨0x06, 0x06, (.u 4), .rwc, (k0 0), any⟩,
    ⟨0x07, 0x07, (.i 2), .ro, (k0 0), any⟩,
    ⟨0x10, 0x10, (.bits 2), .rw, (k0 0), loopCfg⟩,
    ⟨0x11, 0x11, (.u 4), .rw, (k0 0xF4240), (rng 1000 0xFFFFFFFF)⟩,
    ⟨0x12, 0x12, .bool, .ro, (k0 0), any⟩,
    ⟨0x13, 0x13, (.u 8), .ro, (k0 0), any⟩,
    ⟨0x14, 0x14, (.u 8), .ro, (k0 0), any⟩,
    ⟨0x15, 0x15, (.u 8), .ro, (k0 0), any⟩,
    ⟨0x20, 0x20, (.bits 4), .rw, (k0 0), eyeCfg⟩,
    ⟨0x21, 0x21, (.u 4), .rw, (k0 10), (rng 1 10000)⟩,
    ⟨0x22, 0x22, (.u 4), .rw, (k0 0), any⟩,
    ⟨0x23, 0x23, (.u 1), .ro, (k0 0), any⟩,
    ⟨0x24, 0x24, (.u 8), .ro, (k0 0), any⟩,
    ⟨0x25, 0x25, (.u 8), .ro, (k0 0), any⟩,
    ⟨0x26, 0x26, (.i 1), .ro, (k0 0), any⟩,
    ⟨0x27, 0x27, (.i 1), .ro, (k0 0), any⟩ ]

/-- Objects at 0x0300 (R280). -/
def chipRows : List Row :=
  [ ⟨0x01, 0x01, (.u 1), .ro, (k0 2), any⟩,
    ⟨0x02, 0x02, (.u 1), .wo, (k0 0), (rng 1 4)⟩,
    ⟨0x03, 0x03, (.u 1), .ro, (k0 2), any⟩,
    ⟨0x04, 0x04, (.u 4), .rwc, (k0 0), any⟩,
    ⟨0x05, 0x05, (.u 8), .ro, (k0 0), any⟩,
    ⟨0x06, 0x06, (.bits 2), .ro, (k0 0), any⟩,
    ⟨0x07, 0x07, (.u 1), .ro, (k0 0), any⟩,
    ⟨0x08, 0x08, (.bits 8), .ro, (k0 0), any⟩,
    ⟨0x09, 0x09, (.u 4), .rwc, (k0 0), any⟩,
    ⟨0x0A, 0x0A, (.u 4), .ro, (k0 0), any⟩,
    ⟨0x0B, 0x0B, (.u 4), .rwc, (k0 0), any⟩,
    ⟨0x0C, 0x0C, (.u 4), .rwc, (k0 0), any⟩ ]

/-- Objects at 0x0400 (R348). -/
def stampQueueRows : List Row :=
  [ ⟨0x01, 0x01, (.bits 4), .wo, (k0 0), (resv 0xFFCE)⟩,
    ⟨0x02, 0x02, (.u 1), .ro, (k0 0), any⟩,
    ⟨0x03, 0x03, (.bits 4), .ro, (k0 0), any⟩,
    ⟨0x04, 0x04, .stamp, .ro, (k0 0), any⟩,
    ⟨0x05, 0x05, (.u 1), .wo, (k0 0), (rng 1 1)⟩,
    ⟨0x06, 0x06, (.bits 1), .rwc, (k0 0), (resv 0xFE)⟩,
    ⟨0x07, 0x07, (.u 4), .rwc, (k0 0), any⟩,
    ⟨0x08, 0x08, (.bits 4), .ro, (k0 0), any⟩,
    ⟨0x09, 0x09, .stamp, .ro, (k0 0), any⟩,
    ⟨0x0A, 0x0A, (.u 4), .rwc, (k0 0), any⟩ ]

/-- Objects at 0x0401, 0x0403, 0x0404 (R338). -/
def timeBaseRows : List Row :=
  [ ⟨0x01, 0x01, (.u 1), .wo, (k0 0), (rng 1 2)⟩,
    ⟨0x02, 0x02, (.u 1), .ro, (k0 0), any⟩,
    ⟨0x03, 0x03, .stamp, .ro, (k0 0), any⟩,
    ⟨0x04, 0x04, (.bits 1), .ro, (k0 0), any⟩,
    ⟨0x05, 0x05, (.u 1), .rws, (fun o _ => o - 1), (rng 0 127)⟩,
    ⟨0x06, 0x06, (.u 1), .rws, (k0 0), (rng 0 1)⟩,
    ⟨0x07, 0x07, .stamp, .rws, (k0 0), any⟩,
    ⟨0x08, 0x08, (.i 8), .rw, (k0 0), (srng 64 (-1099511627) 1099511627)⟩,
    ⟨0x09, 0x09, (.u 1), .rws, (k0 1), (rng 0 1)⟩,
    ⟨0x0A, 0x0A, (.u 1), .rws, (k0 1), (rng 0 31)⟩,
    ⟨0x0B, 0x0B, (.u 1), .rws, (k0 3), (rng 0 31)⟩,
    ⟨0x0C, 0x0C, (.u 2), .rws, (k0 125), (rng 1 10000)⟩,
    ⟨0x0D, 0x0D, .time, .rws, (k0 0), (sstep 64 (-1000000000) 1000000000 1000)⟩,
    ⟨0x0E, 0x0E, .time, .rws, (k0 0x5F5E100), (rng 1000000 1000000000000)⟩,
    ⟨0x0F, 0x0F, .time, .ro, (k0 0), any⟩,
    ⟨0x10, 0x10, .time, .ro, (k0 0), any⟩,
    ⟨0x11, 0x11, (.u 4), .ro, (k0 0), any⟩,
    ⟨0x12, 0x12, .stamp, .ro, (k0 0), any⟩,
    ⟨0x13, 0x13, .stamp, .ro, (k0 0), any⟩,
    ⟨0x14, 0x14, (.u 4), .rwc, (k0 0), any⟩ ]

/-- Objects at 0x0402 (R339). -/
def tb1Rows : List Row :=
  [ ⟨0x20, 0x20, (.u 8), .ro, (k0 0), any⟩,
    ⟨0x21, 0x21, .stamp, .ro, (k0 0), any⟩ ]

/-- Objects at 0x0440 (R350). -/
def alarmRows : List Row :=
  [ ⟨0x01, 0x01, (.u 1), .wo, (k0 0), (rng 1 2)⟩,
    ⟨0x02, 0x02, (.u 1), .ro, (k0 0), any⟩,
    ⟨0x03, 0x03, (.u 1), .rws, (k0 0), (rng 0 3)⟩,
    ⟨0x04, 0x04, .stamp, .rws, (k0 0), any⟩,
    ⟨0x05, 0x05, .time, .rws, (k0 0), (fun _ v => v == 0 || (1000000000 ≤ v && v ≤ 9000000000000000000 && v % 1000000 == 0))⟩,
    ⟨0x06, 0x06, (.bits 1), .rws, (k0 0), (resv 0xE0)⟩,
    ⟨0x07, 0x07, (.u 8), .rws, (k0 0), any⟩,
    ⟨0x08, 0x08, (.u 1), .rws, (k0 0), any⟩,
    ⟨0x09, 0x09, (.u 2), .rws, (k0 100), (rng 20 65535)⟩,
    ⟨0x0A, 0x0A, (.u 2), .rws, (k0 0), any⟩,
    ⟨0x0B, 0x0B, (.u 4), .ro, (k0 0), any⟩,
    ⟨0x0C, 0x0C, (.u 4), .rwc, (k0 0), any⟩,
    ⟨0x0D, 0x0D, .stamp, .ro, (k0 0), any⟩ ]

/-- Objects at 0x0500 (R377). -/
def powerDomainRows : List Row :=
  [ ⟨0x01, 0x01, (.u 1), .wo, (k0 0), (rng 1 2)⟩,
    ⟨0x02, 0x02, (.u 1), .ro, (fun o _ => if o ∈ [0, 1, 42, 43, 44, 45, 46, 50] then 2 else 0), any⟩,
    ⟨0x03, 0x03, (.u 4), .rwc, (k0 0), any⟩,
    ⟨0x04, 0x04, .time, .const, (k0 0xBEBC200), any⟩ ]

/-- Objects at 0x0540 (R382). -/
def sheddingRows : List Row :=
  [ ⟨0x01, 0x01, (.u 1), .ro, (k0 0), any⟩,
    ⟨0x02, 0x02, (.u 1), .rwc, (k0 0), any⟩,
    ⟨0x03, 0x03, (.bits 2), .ro, (k0 0), any⟩,
    ⟨0x04, 0x04, (.bits 4), .rws, (k0 0x281C140C), shedThr⟩,
    ⟨0x05, 0x05, (.u 2), .rws, (k0 2), (rng 1 1000)⟩,
    ⟨0x06, 0x06, (.u 1), .rws, (k0 2), (rng 1 4)⟩,
    ⟨0x07, 0x07, (.bits 1), .rws, (k0 255), any⟩,
    ⟨0x08, 0x08, (.u 4), .rwc, (k0 0), any⟩ ]

/-- Objects at 0x0541 (R381). -/
def adcRows : List Row :=
  [ ⟨0x01, 0x01, (.u 2), .wo, (k0 0), any⟩,
    ⟨0x02, 0x02, (.bits 2), .ro, (k0 0), any⟩,
    ⟨0x10, 0x1F, (.u 2), .ro, (k0 0), any⟩ ]

/-- Objects at 0x0550 (R387). -/
def railRows : List Row :=
  [ ⟨0x01, 0x01, (.bits 4), .rws, (k0 0), (resv 0xFE00FE80)⟩,
    ⟨0x02, 0x02, (.u 1), .wo, (k0 0), (rng 1 3)⟩,
    ⟨0x03, 0x03, (.u 2), .rw, (k0 0), any⟩,
    ⟨0x04, 0x04, (.u 2), .ro, (k0 0), any⟩,
    ⟨0x05, 0x05, (.i 4), .ro, (k0 0), any⟩,
    ⟨0x06, 0x06, (.u 2), .ro, (k0 0), any⟩,
    ⟨0x07, 0x07, (.u 1), .ro, (k0 0), any⟩ ]

/-- Objects at 0x0570 (R387). -/
def pmbusRows : List Row :=
  [ ⟨0x01, 0x01, (.u 2), .rws, (k0 0x190), (one [100, 400, 1000])⟩,
    ⟨0x02, 0x02, .bool, .rws, (k0 1), any⟩,
    ⟨0x03, 0x03, (.u 4), .rwc, (k0 0), any⟩,
    ⟨0x04, 0x04, (.u 4), .rwc, (k0 0), any⟩ ]

/-- Objects at 0x0580 (R388). -/
def supplySeqRows : List Row :=
  [ ⟨0x01, 0x10, (.bits 4), .rws, (k0 0), ssqStep⟩,
    ⟨0x11, 0x11, (.u 1), .wo, (k0 0), (rng 1 1)⟩,
    ⟨0x12, 0x12, (.u 1), .ro, (k0 0), any⟩,
    ⟨0x13, 0x13, (.u 4), .rwc, (k0 0), any⟩ ]

/-- Objects at 0x0600 (R405). -/
def faultCollectorRows : List Row :=
  [ ⟨0x01, 0x01, (.u 2), .wo, (k0 0), any⟩,
    ⟨0x02, 0x02, (.u 2), .rw, (k0 0x300), any⟩,
    ⟨0x03, 0x03, (.u 8), .ro, (k0 0), any⟩,
    ⟨0x04, 0x04, (.u 8), .ro, (k0 0), any⟩,
    ⟨0x05, 0x05, (.u 2), .ro, (k0 0), any⟩,
    ⟨0x06, 0x06, (.u 1), .wo, (k0 0), (rng 1 1)⟩,
    ⟨0x07, 0x07, (.u 4), .ro, (k0 0), any⟩,
    ⟨0x08, 0x08, (.u 4), .rwc, (k0 0), any⟩,
    ⟨0x09, 0x09, (.u 4), .rwc, (k0 0), any⟩,
    ⟨0x0A, 0x0D, (.u 2), .rws, (k0 0xFFFF), queueOrNone⟩,
    ⟨0x0E, 0x0E, (.u 4), .rws, (k0 0x3E8), (rng 1000 100000)⟩,
    ⟨0x0F, 0x0F, (.u 1), .ro, (k0 2), any⟩,
    ⟨0x10, 0x10, (.u 1), .ro, (k0 0), any⟩,
    ⟨0x11, 0x11, .time, .const, (k0 0x2D79883D2000), any⟩,
    ⟨0x12, 0x12, (.u 4), .ro, (k0 0), any⟩ ]

/-- Objects at 0x0601 (R406). -/
def faultReactRows : List Row :=
  [ ⟨0x01, 0x28, (.u 1), .rws, (fun _ i => faultReactDefault i), (rng 0 4)⟩ ]

/-- Objects at 0x0602 (R406). -/
def faultCountRows : List Row :=
  [ ⟨0x01, 0x28, (.u 4), .rwc, (k0 0), any⟩ ]

/-- Objects at 0x0603 (R406). -/
def faultLogRows : List Row :=
  [ ⟨0x01, 0x01, .domain, .ro, (k0 0), any⟩ ]

/-- EVT_ROUTE (R410): no reserved bit or mode; a NOTICE goes to node 0 to 62, a CLUSTER delivery to cluster 0 to 3. -/
def routeOk (_ v : Nat) : Bool :=
  decide (v % 0x2000 < 0x40) && v / 0x4000 != 3 && (v / 0x4000 != 1 || v % 64 != 63) && (v / 0x4000 != 2 || decide (v % 64 < 4))

/-- Objects at 0x0610 (R409). -/
def eventBitsRows : List Row :=
  [ ⟨0x01, 0x05, (.bits 8), .rwc, (k0 0), any⟩,
    ⟨0x11, 0x14, (.bits 8), .rw, (k0 0), any⟩,
    ⟨0x15, 0x15, (.bits 8), .rw, (k0 0), (resv 0xE080800000000000)⟩ ]

/-- Objects at 0x0620 (R409). -/
def eventRouteRows : List Row :=
  [ ⟨0x01, 0x80, (.bits 2), .rws, (k0 0x4000), routeOk⟩ ]

/-- Objects at 0x0622 (R409). -/
def eventRoute2Rows : List Row :=
  [ ⟨0x01, 0x40, (.bits 2), .rws, (k0 0x4000), routeOk⟩ ]

/-- Objects at 0x0630 (R409). -/
def eventCountRows : List Row :=
  [ ⟨0x01, 0x80, (.u 4), .rwc, (k0 0), any⟩ ]

/-- Objects at 0x0632 (R409). -/
def eventCount2Rows : List Row :=
  [ ⟨0x01, 0x40, (.u 4), .rwc, (k0 0), any⟩ ]

/-- Objects at 0x0700 (R396). -/
def bootRows : List Row :=
  [ ⟨0x01, 0x01, (.u 1), .wo, (k0 0), (rng 1 2)⟩,
    ⟨0x02, 0x02, (.bits 4), .ro, (k0 0), any⟩,
    ⟨0x03, 0x03, (.u 1), .ro, (k0 1), any⟩,
    ⟨0x04, 0x04, (.u 1), .ro, (k0 0), any⟩,
    ⟨0x05, 0x05, (.u 1), .ro, (k0 0), any⟩,
    ⟨0x06, 0x06, (.bits 1), .ro, (k0 0), any⟩,
    ⟨0x07, 0x07, (.u 4), .ro, (k0 0), any⟩,
    ⟨0x08, 0x08, (.u 4), .ro, (fun _ _ => Config.flashJedecId.toNat), any⟩ ]

/-- Objects at 0x0740 (R363). -/
def winderRows : List Row :=
  [ ⟨0x01, 0x01, (.u 1), .wo, (k0 0), (rng 1 2)⟩,
    ⟨0x02, 0x02, (.u 1), .ro, (k0 0), any⟩,
    ⟨0x03, 0x03, (.u 1), .rw, (k0 0), any⟩,
    ⟨0x04, 0x04, (.u 8), .rw, (k0 0), any⟩,
    ⟨0x05, 0x05, (.bits 4), .ro, (k0 0), any⟩,
    ⟨0x06, 0x06, (.u 4), .ro, (k0 0), any⟩,
    ⟨0x07, 0x07, (.u 4), .rwc, (k0 0), any⟩,
    ⟨0x08, 0x08, .bool, .rw, (k0 0), any⟩,
    ⟨0x09, 0x09, (.u 4), .rw, (k0 0x3E8), (rng 10 60000)⟩,
    ⟨0x0A, 0x0A, (.i 4), .ro, (k0 0x4B0), any⟩,
    ⟨0x0B, 0x0B, (.u 4), .rwc, (k0 0), any⟩,
    ⟨0x0C, 0x0F, (.i 2), .ro, (k0 0), any⟩,
    ⟨0x10, 0x10, .time, .rws, (k0 0x5B8D80), (sstep 64 3000000 9000000 500)⟩,
    ⟨0x11, 0x11, (.u 4), .rwc, (k0 0), any⟩ ]

/-- Objects at 0x0800 (R417). -/
def selfTestRows : List Row :=
  [ ⟨0x01, 0x01, (.u 1), .wo, (k0 0), (rng 1 2)⟩,
    ⟨0x02, 0x02, (.u 1), .ro, (k0 0), any⟩,
    ⟨0x03, 0x03, (.bits 2), .rws, (k0 0x3F00), bistTarget⟩,
    ⟨0x04, 0x04, (.bits 4), .ro, (k0 0), any⟩,
    ⟨0x05, 0x05, (.u 8), .ro, (k0 0), any⟩,
    ⟨0x06, 0x06, (.u 8), .ro, (k0 0), any⟩,
    ⟨0x07, 0x07, (.u 8), .ro, (k0 0), any⟩,
    ⟨0x08, 0x08, (.u 8), .ro, (k0 0), any⟩,
    ⟨0x09, 0x09, (.bits 4), .ro, (k0 0xFFFFFFFF), any⟩,
    ⟨0x0A, 0x0A, (.bits 2), .ro, (k0 0), any⟩,
    ⟨0x0B, 0x0B, (.bits 8), .ro, (k0 0), any⟩,
    ⟨0x0C, 0x0C, (.bits 2), .ro, (k0 0), any⟩,
    ⟨0x0D, 0x0D, (.u 4), .rwc, (k0 0), any⟩,
    ⟨0x0E, 0x0E, (.u 4), .rwc, (k0 0), any⟩ ]

/-- Objects at 0x0900 (R262). -/
def ddrRows : List Row :=
  [ ⟨0x01, 0x01, (.u 1), .wo, (k0 0), (rng 1 4)⟩,
    ⟨0x02, 0x02, (.u 1), .ro, (k0 0), any⟩,
    ⟨0x03, 0x03, (.u 2), .rws, (k0 0xC80), (one [2400, 2666, 2933, 3200])⟩,
    ⟨0x04, 0x04, (.bits 1), .rws, (k0 255), (fun _ v => [2, 4, 8].contains (popCount 8 v))⟩,
    ⟨0x05, 0x05, (.bits 1), .rws, (k0 4), deviceCfg⟩,
    ⟨0x06, 0x06, (.bits 1), .rws, (k0 0), features⟩,
    ⟨0x07, 0x07, (.u 8), .ro, (k0 0), any⟩,
    ⟨0x08, 0x08, (.u 1), .rws, (k0 48), (rng 2 64)⟩,
    ⟨0x09, 0x09, (.u 1), .rws, (k0 16), any⟩,
    ⟨0x0A, 0x0A, (.u 4), .rws, (k0 20), (rng 1 10000)⟩,
    ⟨0x0B, 0x0B, (.u 4), .rws, (k0 50), (rng 1 10000)⟩,
    ⟨0x0C, 0x0C, (.u 4), .rws, (k0 50), (rng 1 10000)⟩,
    ⟨0x0D, 0x0D, (.u 4), .rws, (k0 0x13880), (fun _ v => v == 0 || (1000 ≤ v && v ≤ 10000000))⟩,
    ⟨0x0E, 0x0E, (.u 4), .rw, (k0 0), any⟩,
    ⟨0x0F, 0x0F, (.u 4), .rw, (k0 0), any⟩,
    ⟨0x10, 0x10, (.u 4), .rw, (k0 0), any⟩,
    ⟨0x11, 0x11, (.u 4), .rw, (k0 0), any⟩,
    ⟨0x12, 0x12, (.u 4), .rw, (k0 0), any⟩,
    ⟨0x13, 0x13, (.u 4), .rw, (k0 0), any⟩,
    ⟨0x14, 0x14, (.u 4), .rw, (k0 0), any⟩,
    ⟨0x15, 0x15, (.u 4), .rw, (k0 0), any⟩,
    ⟨0x16, 0x16, (.u 4), .rwc, (k0 0), any⟩,
    ⟨0x17, 0x17, (.u 8), .rwc, (k0 0), any⟩ ]

/-- Objects at 0x0901 (R263). -/
def ddrChannelRows : List Row :=
  [ ⟨0x01, 0x01, (.u 1), .ro, (k0 0), any⟩,
    ⟨0x02, 0x02, (.bits 4), .ro, (k0 0), any⟩,
    ⟨0x03, 0x03, (.u 4), .rwc, (k0 0), any⟩,
    ⟨0x04, 0x04, (.u 4), .rwc, (k0 0), any⟩,
    ⟨0x05, 0x05, .addr, .ro, (k0 0), any⟩,
    ⟨0x06, 0x06, (.u 4), .ro, (k0 0), any⟩,
    ⟨0x07, 0x07, (.bits 2), .ro, (k0 0), any⟩,
    ⟨0x08, 0x08, (.u 4), .rwc, (k0 0), any⟩,
    ⟨0x09, 0x09, (.u 8), .rwc, (k0 0), any⟩,
    ⟨0x0A, 0x0A, (.u 8), .rwc, (k0 0), any⟩,
    ⟨0x0B, 0x0B, (.u 4), .rwc, (k0 0), any⟩,
    ⟨0x0C, 0x0C, (.u 1), .rwc, (k0 0), any⟩,
    ⟨0x0D, 0x0D, (.u 4), .rwc, (k0 0), any⟩,
    ⟨0x0E, 0x0E, (.u 4), .rwc, (k0 0), any⟩,
    ⟨0x10, 0x14, (.u 8), .rwc, (k0 0), any⟩ ]

/-- Objects at 0x0A00 (R254). -/
def tramRows : List Row :=
  [ ⟨0x01, 0x01, (.u 1), .wo, (k0 0), (rng 1 3)⟩,
    ⟨0x02, 0x02, (.u 1), .ro, (k0 0), any⟩,
    ⟨0x03, 0x03, .addr, .rws, (k0 0), (al 64)⟩,
    ⟨0x04, 0x04, .addr, .ro, (k0 0), any⟩,
    ⟨0x05, 0x05, .addr, .ro, (k0 0xFFFFFFFFFF), any⟩,
    ⟨0x06, 0x06, (.u 8), .ro, (k0 0), any⟩,
    ⟨0x07, 0x07, (.u 8), .ro, (k0 0), any⟩,
    ⟨0x08, 0x08, (.bits 8), .ro, (k0 0), any⟩,
    ⟨0x09, 0x09, (.u 4), .rwc, (k0 0), any⟩ ]

/-- Objects at 0x0B00 (R243). -/
def tarnRows : List Row :=
  [ ⟨0x01, 0x01, (.u 1), .wo, (k0 0), (rng 1 3)⟩,
    ⟨0x02, 0x02, (.u 1), .ro, (k0 0), any⟩,
    ⟨0x03, 0x03, (.u 1), .rws, (k0 0), (rng 0 9)⟩,
    ⟨0x04, 0x04, (.bits 2), .ro, (k0 0), any⟩,
    ⟨0x05, 0x05, (.u 4), .ro, (k0 0), any⟩,
    ⟨0x06, 0x06, (.u 4), .ro, (k0 0), any⟩,
    ⟨0x07, 0x07, (.u 4), .ro, (k0 0), any⟩,
    ⟨0x08, 0x08, (.u 4), .rw, (k0 0), any⟩,
    ⟨0x09, 0x09, (.u 4), .rwc, (k0 0), any⟩,
    ⟨0x0A, 0x0A, (.bits 1), .rwc, (k0 0), (resv 0xFC)⟩,
    ⟨0x0B, 0x0B, (.u 4), .rwc, (k0 0), any⟩,
    ⟨0x0C, 0x0C, (.bits 1), .ro, (k0 0), any⟩,
    ⟨0x10, 0x10, (.u 8), .ro, (k0 0), any⟩,
    ⟨0x11, 0x11, (.u 8), .wo, (k0 0), any⟩,
    ⟨0x12, 0x12, (.u 8), .wo, (k0 0), any⟩ ]

/-- Objects at 0x0C00 (R230). -/
def overmanRows : List Row :=
  [ ⟨0x01, 0x01, (.u 1), .ro, (k0 1), any⟩,
    ⟨0x02, 0x02, (.u 1), .rws, (k0 4), any⟩,
    ⟨0x03, 0x03, .bool, .rws, (k0 1), any⟩,
    ⟨0x04, 0x04, (.u 4), .rws, (k0 0x7D0), (rng 10 1000000)⟩,
    ⟨0x05, 0x05, (.u 4), .rws, (k0 0x2710), (rng 100 10000000)⟩,
    ⟨0x06, 0x06, (.u 4), .ro, (k0 0), any⟩,
    ⟨0x07, 0x07, (.u 4), .rwc, (k0 0), any⟩,
    ⟨0x08, 0x08, (.u 8), .rwc, (k0 0), any⟩,
    ⟨0x09, 0x09, (.u 8), .rwc, (k0 0), any⟩,
    ⟨0x0A, 0x0A, (.u 2), .ro, (k0 0x4000), any⟩ ]

/-- Objects at 0x0C01 (R213). -/
def clusterRows : List Row :=
  [ ⟨0x01, 0x01, (.u 1), .wo, (k0 0), (rng 1 2)⟩,
    ⟨0x02, 0x02, (.u 1), .ro, (k0 1), any⟩,
    ⟨0x03, 0x03, (.u 2), .ro, (k0 0x7D0), any⟩,
    ⟨0x04, 0x04, (.u 4), .ro, (k0 0), any⟩,
    ⟨0x05, 0x05, (.u 4), .rwc, (k0 0), any⟩,
    ⟨0x10, 0x13, (.u 8), .ro, (k0 0), any⟩,
    ⟨0x14, 0x17, (.u 2), .ro, (k0 0), any⟩ ]

/-- Objects at 0x0C40 (R224). -/
def graphRows : List Row :=
  [ ⟨0x01, 0x01, (.u 1), .wo, (k0 0), (rng 1 3)⟩,
    ⟨0x02, 0x02, (.u 1), .ro, (k0 0), any⟩,
    ⟨0x03, 0x03, (.u 1), .rws, (k0 255), (orFF 63)⟩,
    ⟨0x04, 0x04, (.bits 1), .rws, (k0 15), (resv 0xF0)⟩,
    ⟨0x05, 0x05, (.u 1), .rws, (k0 0), (rng 0 1)⟩,
    ⟨0x06, 0x06, (.u 2), .rws, (k0 128), (rng 1 16384)⟩,
    ⟨0x07, 0x0A, (.bits 4), .rws, (k0 0), inCfg⟩,
    ⟨0x0B, 0x12, (.u 2), .rws, (k0 0xFFFF), queueOrNone⟩,
    ⟨0x13, 0x13, (.u 2), .rws, (k0 0x100), (rng 1 1024)⟩,
    ⟨0x14, 0x14, (.u 4), .rws, (k0 100), (rng 1 1000000)⟩,
    ⟨0x15, 0x15, .addr, .rws, (k0 0), (al 4096)⟩,
    ⟨0x16, 0x16, (.u 8), .ro, (k0 0), any⟩,
    ⟨0x17, 0x17, (.u 2), .ro, (k0 0), any⟩,
    ⟨0x18, 0x18, (.u 4), .rwc, (k0 0), any⟩,
    ⟨0x19, 0x19, (.u 8), .rwc, (k0 0), any⟩,
    ⟨0x1A, 0x1A, (.u 8), .ro, (k0 0), any⟩,
    ⟨0x1B, 0x1B, (.bits 4), .ro, (k0 0), any⟩ ]

/-- Objects at 0x0C80 (R227). -/
def orderClassRows : List Row :=
  [ ⟨0x01, 0x01, (.u 2), .rws, (k0 0x400), (rng 1 1024)⟩,
    ⟨0x02, 0x02, (.u 2), .ro, (k0 0), any⟩,
    ⟨0x03, 0x03, (.u 2), .rwc, (k0 0), any⟩,
    ⟨0x04, 0x04, (.u 4), .rwc, (k0 0), any⟩,
    ⟨0x05, 0x05, (.u 4), .ro, (k0 0), any⟩,
    ⟨0x06, 0x06, (.u 8), .ro, (k0 0), any⟩ ]

/-- Objects at 0x0D00 (R390). -/
def spiPortRows : List Row :=
  [ ⟨0x01, 0x01, (.u 2), .rws, (k0 0x2710), (rng 100 50000)⟩,
    ⟨0x02, 0x02, (.u 1), .rws, (k0 0), (rng 0 3)⟩,
    ⟨0x03, 0x03, (.u 8), .rw, (k0 0), xferLen⟩ ]

/-- Objects at 0x0D10 (R390). -/
def writeListRows : List Row :=
  [ ⟨0x01, 0x01, (.u 1), .wo, (k0 0), (rng 1 1)⟩,
    ⟨0x02, 0x02, (.u 1), .ro, (k0 0), any⟩,
    ⟨0x03, 0x03, (.bits 1), .rws, (k0 0), (resv 0xF0)⟩,
    ⟨0x04, 0x04, (.u 4), .rwc, (k0 0), any⟩,
    ⟨0x05, 0x05, (.u 4), .rwc, (k0 0), any⟩,
    ⟨0x10, 0x4F, (.bits 8), .rws, (k0 0), wlEntry⟩ ]

/-- Objects at 0x1000 (R35, R111, R160, R417). -/
def pinChannelRows : List Row :=
  [ ⟨0x01, 0x01, (.i 2), .rws, (k0 0), (srng 16 (-4000) 4000)⟩,
    ⟨0x02, 0x02, (.i 2), .rws, (k0 0), (srng 16 (-4000) 4000)⟩,
    ⟨0x03, 0x03, (.i 2), .rws, (k0 0), (srng 16 (-4000) 4000)⟩,
    ⟨0x04, 0x04, (.i 2), .rws, (k0 0), (srng 16 (-4000) 4000)⟩,
    ⟨0x05, 0x05, (.i 2), .rws, (k0 0), (srng 16 (-4000) 4000)⟩,
    ⟨0x06, 0x06, (.i 2), .rws, (k0 0), (srng 16 (-4000) 4000)⟩,
    ⟨0x07, 0x07, (.i 2), .ro, (k0 0), any⟩,
    ⟨0x08, 0x08, (.i 2), .ro, (k0 0), any⟩,
    ⟨0x09, 0x09, (.u 4), .rwc, (k0 0), any⟩,
    ⟨0x0A, 0x0A, (.u 1), .ro, (k0 255), any⟩,
    ⟨0x0B, 0x0B, (.u 8), .ro, (k0 0), any⟩,
    ⟨0x0C, 0x0C, (.u 4), .ro, (k0 0), any⟩,
    ⟨0x0D, 0x0D, .bool, .ro, (k0 0), any⟩,
    ⟨0x20, 0x20, (.bits 1), .rws, (k0 16), scanPair⟩,
    ⟨0x21, 0x21, (.bits 1), .rws, (k0 101), scanPair⟩,
    ⟨0x40, 0x5F, (.bits 8), .rw, (k0 0), edgeOk⟩,
    ⟨0x60, 0x7F, (.bits 8), .rw, (k0 0), edgeOk⟩,
    ⟨0x80, 0x9F, (.bits 2), .rw, (k0 1), fmtOk⟩,
    ⟨0xA0, 0xBF, (.bits 8), .ro, (k0 0), any⟩,
    ⟨0xC0, 0xDF, (.bits 8), .ro, (k0 0), any⟩,
    ⟨0xE0, 0xFF, (.bits 2), .ro, (k0 1), any⟩ ]

/-- Objects at 0x1100 (R132). -/
def spareRows : List Row :=
  [ ⟨0x01, 0x01, (.u 1), .rw, (k0 255), (orFF 63)⟩,
    ⟨0x02, 0x02, (.u 1), .ro, (k0 0), any⟩,
    ⟨0x03, 0x08, (.i 2), .rw, (k0 0), (srng 16 (-4000) 4000)⟩,
    ⟨0x09, 0x09, (.i 2), .ro, (k0 0), any⟩ ]

/-- Objects at 0x1200 (R41, R71, R110). -/
def sequencerRows : List Row :=
  [ ⟨0x01, 0x01, (.u 1), .wo, (k0 0), (rng 1 7)⟩,
    ⟨0x02, 0x02, (.u 1), .ro, (k0 0), any⟩,
    ⟨0x03, 0x03, (.bits 4), .ro, (k0 0), any⟩,
    ⟨0x04, 0x04, (.u 8), .rw, (k0 0), any⟩,
    ⟨0x05, 0x05, (.bits 1), .rws, (k0 0), startSrc⟩,
    ⟨0x06, 0x06, (.u 2), .rws, (k0 0), any⟩,
    ⟨0x07, 0x07, (.u 2), .rws, (k0 0), any⟩,
    ⟨0x08, 0x08, (.u 4), .rws, (k0 0), (rng 0 65536)⟩,
    ⟨0x09, 0x09, (.u 8), .ro, (k0 0), any⟩,
    ⟨0x0A, 0x0A, (.u 8), .ro, (k0 0), any⟩,
    ⟨0x0B, 0x0B, (.u 2), .ro, (k0 0), any⟩,
    ⟨0x0C, 0x0C, .time, .ro, (k0 0), any⟩,
    ⟨0x0D, 0x0D, .time, .ro, (k0 0), any⟩,
    ⟨0x0E, 0x0E, (.u 2), .ro, (k0 0), any⟩,
    ⟨0x0F, 0x0F, (.u 4), .ro, (k0 0), any⟩,
    ⟨0x10, 0x10, (.u 8), .ro, (k0 0), any⟩,
    ⟨0x11, 0x11, (.u 4), .ro, (k0 0), any⟩,
    ⟨0x12, 0x12, (.u 8), .rwc, (k0 0), any⟩,
    ⟨0x13, 0x13, (.u 8), .rwc, (k0 0), any⟩,
    ⟨0x14, 0x14, (.bits 4), .rws, (k0 0), (resv 0xFFFFC000)⟩,
    ⟨0x15, 0x15, (.u 8), .ro, (k0 0), any⟩,
    ⟨0x16, 0x16, (.u 8), .ro, (k0 0), any⟩,
    ⟨0x17, 0x17, (.u 4), .rwc, (k0 0), any⟩,
    ⟨0x18, 0x18, (.u 1), .rws, (k0 0), (rng 0 8)⟩ ] ++
  [ ⟨0x19, 0x19, (.u 4), .ro, (k0 0), any⟩,
    ⟨0x1A, 0x1A, (.u 2), .rws, (k0 100), (rng 20 65535)⟩,
    ⟨0x1B, 0x1B, .time, .const, (k0 0xB71B00), any⟩,
    ⟨0x1C, 0x1C, (.u 4), .rwc, (k0 0), any⟩,
    ⟨0x20, 0x20, (.u 4), .rws, (k0 0), any⟩,
    ⟨0x21, 0x21, (.u 4), .rws, (k0 0), any⟩,
    ⟨0x22, 0x22, (.u 4), .rws, (k0 0), any⟩,
    ⟨0x23, 0x23, (.u 2), .rws, (k0 0), (rng 0 4096)⟩,
    ⟨0x24, 0x24, .addr, .rws, (k0 0), (al 64)⟩,
    ⟨0x25, 0x25, (.bits 8), .ro, (k0 0), any⟩,
    ⟨0x26, 0x26, (.bits 4), .ro, (k0 0), any⟩,
    ⟨0x27, 0x27, (.u 4), .rwc, (k0 0), any⟩,
    ⟨0x28, 0x28, (.u 4), .rwc, (k0 0), any⟩,
    ⟨0x30, 0x3F, (.bits 8), .rws, (k0 0), winCfg⟩,
    ⟨0x40, 0x4F, (.bits 8), .ro, (k0 0), any⟩,
    ⟨0x50, 0x50, (.u 4), .rw, (k0 0), any⟩,
    ⟨0x51, 0x51, .bool, .rws, (k0 0), any⟩,
    ⟨0x52, 0x52, (.u 4), .ro, (k0 0), any⟩,
    ⟨0x53, 0x53, (.u 2), .ro, (k0 0), any⟩,
    ⟨0x54, 0x54, (.u 8), .ro, (k0 0), any⟩,
    ⟨0x55, 0x55, (.u 4), .rwc, (k0 0), any⟩,
    ⟨0x60, 0x7F, .time, .rw, (k0 0), (fun _ v => v == 0 || (156250 ≤ v && v ≤ 131000000))⟩,
    ⟨0x80, 0x9F, .time, .ro, (k0 0), any⟩ ]

/-- Objects at 0x1300 (R134). -/
def hewerRows : List Row :=
  [ ⟨0x01, 0x01, (.u 1), .rws, (k0 255), (orFF 63)⟩,
    ⟨0x02, 0x02, (.u 1), .ro, (k0 0), any⟩,
    ⟨0x03, 0x03, (.u 2), .ro, (k0 0), any⟩,
    ⟨0x04, 0x04, (.u 2), .ro, (k0 0), any⟩,
    ⟨0x05, 0x05, (.u 8), .rwc, (k0 0), any⟩,
    ⟨0x06, 0x06, (.bits 4), .ro, (k0 0), any⟩,
    ⟨0x07, 0x07, (.bits 1), .rws, (k0 0), (resv 0xFC)⟩,
    ⟨0x08, 0x08, (.u 8), .rws, (k0 0), any⟩,
    ⟨0x09, 0x09, (.u 8), .rws, (k0 0xD800000000000000), any⟩,
    ⟨0x0A, 0x0A, (.bits 1), .rws, (k0 0), (resv 0xF0)⟩,
    ⟨0x0B, 0x11, (.bits 8), .rws, (fun _ i => permIdentity (i - 0x0B)), (resv 0xC0C0C0C0C0C0C0C0)⟩,
    ⟨0x12, 0x12, (.bits 8), .rws, (k0 0), (resv 0x4040404040404040)⟩,
    ⟨0x13, 0x13, (.u 8), .rws, (k0 0xFFFFFFFFFFFFFFFF), any⟩,
    ⟨0x14, 0x17, (.u 8), .rws, (k0 0), any⟩,
    ⟨0x20, 0x23, (.u 8), .rws, (k0 0), any⟩ ]

/-- Objects at 0x1400 (R88, R159). -/
def siteRows : List Row :=
  [ ⟨0x01, 0x01, (.u 1), .rws, (k0 255), (orFF 63)⟩,
    ⟨0x02, 0x05, (.u 8), .rws, (k0 0), any⟩,
    ⟨0x06, 0x06, .bool, .rws, (k0 0), any⟩,
    ⟨0x07, 0x07, (.u 1), .rws, (k0 0), (rng 0 2)⟩,
    ⟨0x08, 0x08, (.u 4), .rws, (k0 1), (rng 1 0xFFFFFFFF)⟩,
    ⟨0x09, 0x09, (.u 1), .rws, (k0 0), (rng 0 3)⟩,
    ⟨0x0A, 0x0A, (.u 1), .rws, (k0 0), (rng 0 16)⟩,
    ⟨0x0B, 0x0B, (.u 1), .ro, (k0 0), any⟩,
    ⟨0x0C, 0x0C, (.u 1), .ro, (k0 0), any⟩,
    ⟨0x0D, 0x0D, (.u 1), .wo, (k0 0), (rng 1 2)⟩,
    ⟨0x0E, 0x0E, (.u 4), .ro, (k0 0), any⟩,
    ⟨0x0F, 0x0F, (.u 8), .ro, (k0 0), any⟩,
    ⟨0x20, 0x20, (.u 8), .ro, (k0 0), any⟩,
    ⟨0x21, 0x21, (.u 8), .ro, (k0 0xFFFFFFFFFFFF), any⟩,
    ⟨0x22, 0x22, (.u 2), .ro, (k0 0xFFFF), any⟩,
    ⟨0x23, 0x23, (.u 4), .ro, (k0 0xFFFFFFFF), any⟩,
    ⟨0x24, 0x24, (.u 2), .ro, (k0 0xFFFF), any⟩,
    ⟨0x25, 0x25, (.bits 8), .ro, (k0 0), any⟩,
    ⟨0x26, 0x29, (.u 8), .ro, (k0 0), any⟩,
    ⟨0x2A, 0x2D, (.u 8), .rws, (k0 0), any⟩,
    ⟨0x2E, 0x2E, (.bits 2), .rws, (k0 0), (resv 0xFE00)⟩,
    ⟨0x2F, 0x2F, (.u 8), .ro, (k0 0), any⟩,
    ⟨0x30, 0x30, (.u 8), .ro, (k0 0), any⟩,
    ⟨0x31, 0x31, (.bits 1), .ro, (k0 0), any⟩ ] ++
  [ ⟨0x32, 0x32, (.u 4), .ro, (k0 0), any⟩ ]

/-- Objects at 0x1500 (R181). -/
def assayRows : List Row :=
  [ ⟨0x01, 0x01, (.u 1), .wo, (k0 0), (rng 1 3)⟩,
    ⟨0x02, 0x02, (.u 1), .ro, (k0 0), any⟩,
    ⟨0x03, 0x03, (.bits 4), .ro, (k0 0), any⟩,
    ⟨0x04, 0x04, (.u 1), .rws, (k0 255), (orFF 63)⟩,
    ⟨0x05, 0x05, (.u 1), .rws, (k0 0), (rng 0 2)⟩,
    ⟨0x06, 0x06, (.u 1), .rws, (k0 0), (rng 1 64)⟩,
    ⟨0x07, 0x07, (.u 4), .rws, (k0 0), any⟩,
    ⟨0x08, 0x08, (.u 4), .rws, (k0 0x400), (rng 1 0xFFFFFFFF)⟩,
    ⟨0x09, 0x09, (.u 2), .rws, (k0 1), (rng 1 65535)⟩,
    ⟨0x0A, 0x0A, (.bits 1), .rws, (k0 1), (resv 0xE0)⟩,
    ⟨0x0B, 0x0B, (.bits 1), .rws, (k0 0), (resv 0xFC)⟩,
    ⟨0x0C, 0x0C, (.bits 2), .rw, (k0 0), trigSrc⟩,
    ⟨0x0D, 0x0D, (.u 1), .rw, (k0 0), (rng 0 4)⟩,
    ⟨0x0E, 0x0E, (.u 2), .rw, (k0 1), (rng 1 65535)⟩,
    ⟨0x0F, 0x0F, .addr, .rws, (k0 0), (al 4096)⟩,
    ⟨0x10, 0x10, (.u 4), .rws, (k0 0), (fun _ v => v % 4 == 0 && v ≤ 4194304)⟩,
    ⟨0x11, 0x11, (.bits 1), .rws, (k0 0), (fun _ v => v < 16 && v % 4 ≠ 3)⟩,
    ⟨0x12, 0x12, (.u 2), .rws, (k0 1), (rng 1 4096)⟩,
    ⟨0x13, 0x13, (.u 4), .rwc, (k0 0), any⟩,
    ⟨0x14, 0x14, (.u 4), .rwc, (k0 0), any⟩,
    ⟨0x15, 0x15, (.u 8), .ro, (k0 0), any⟩,
    ⟨0x16, 0x16, (.u 4), .ro, (k0 0), any⟩,
    ⟨0x17, 0x17, (.u 4), .ro, (k0 0), any⟩,
    ⟨0x40, 0x7F, (.bits 2), .rws, (k0 0), (resv 0xFF00)⟩ ]

/-- Objects at 0x1600 (R206). -/
def dowserRows : List Row :=
  [ ⟨0x01, 0x01, (.u 1), .wo, (k0 0), (rng 1 2)⟩,
    ⟨0x02, 0x02, (.u 1), .ro, (k0 0), any⟩,
    ⟨0x03, 0x03, (.u 1), .rws, (k0 255), (orFF 63)⟩,
    ⟨0x04, 0x04, (.u 1), .rws, (k0 0), (rng 0 31)⟩,
    ⟨0x05, 0x05, (.u 1), .rws, (k0 0), (rng 0 3)⟩,
    ⟨0x06, 0x06, (.bits 1), .rws, (k0 4), dwsParam⟩,
    ⟨0x07, 0x07, (.u 4), .rws, (k0 0), any⟩,
    ⟨0x08, 0x08, (.u 4), .rws, (k0 0), any⟩,
    ⟨0x09, 0x09, (.u 4), .rws, (k0 2), any⟩,
    ⟨0x0A, 0x0A, (.u 4), .rws, (k0 0), any⟩,
    ⟨0x0B, 0x0B, (.u 4), .rws, (k0 0), any⟩,
    ⟨0x0C, 0x0C, (.u 4), .rws, (k0 0), any⟩,
    ⟨0x0D, 0x0D, (.u 4), .rws, (k0 1), any⟩,
    ⟨0x0E, 0x0E, (.u 1), .rws, (k0 0), (rng 0 1)⟩,
    ⟨0x0F, 0x0F, (.u 2), .rws, (k0 0), any⟩,
    ⟨0x10, 0x10, (.u 2), .rws, (k0 0), any⟩,
    ⟨0x11, 0x11, (.u 1), .rws, (k0 0), (rng 0 1)⟩,
    ⟨0x12, 0x15, (.u 8), .rws, (k0 0), any⟩,
    ⟨0x16, 0x16, (.u 1), .rws, (k0 255), any⟩,
    ⟨0x17, 0x17, (.u 4), .ro, (k0 0), any⟩,
    ⟨0x18, 0x18, (.u 4), .ro, (k0 0), any⟩,
    ⟨0x19, 0x19, (.u 4), .rwc, (k0 0), any⟩,
    ⟨0x1A, 0x1A, (.u 1), .ro, (k0 0), any⟩ ]

/-- Objects at 0x1604 (R127, R370). -/
def tmuRows : List Row :=
  [ ⟨0x01, 0x01, (.u 1), .wo, (k0 0), (rng 1 2)⟩,
    ⟨0x02, 0x02, (.u 1), .ro, (k0 0), any⟩,
    ⟨0x03, 0x03, (.bits 2), .rws, (k0 0), tmuSrc⟩,
    ⟨0x04, 0x04, (.bits 2), .rws, (k0 0), tmuSrc⟩,
    ⟨0x05, 0x05, (.u 2), .rws, (k0 0x400), (rng 1 65535)⟩,
    ⟨0x06, 0x06, (.u 4), .rws, (k0 0x3E8), (rng 1 10000000)⟩,
    ⟨0x07, 0x07, .time, .ro, (k0 0), any⟩,
    ⟨0x08, 0x08, .time, .ro, (k0 0), any⟩,
    ⟨0x09, 0x09, .time, .ro, (k0 0), any⟩,
    ⟨0x0A, 0x0A, .time, .ro, (k0 0), any⟩,
    ⟨0x0B, 0x0B, (.u 2), .ro, (k0 0), any⟩,
    ⟨0x0C, 0x0C, .bool, .ro, (k0 0), any⟩ ]

/-- Objects at 0x1700 (R109). -/
def seamRows : List Row :=
  [ ⟨0x01, 0x01, (.u 1), .const, (fun o _ => 6 + o), any⟩,
    ⟨0x02, 0x02, (.bits 4), .ro, (k0 0), any⟩,
    ⟨0x03, 0x03, (.bits 2), .ro, (k0 0xFFFF), any⟩,
    ⟨0x04, 0x04, (.bits 4), .ro, (k0 0xFFFFFFFF), any⟩,
    ⟨0x05, 0x05, (.u 4), .rwc, (k0 0), any⟩ ]

/-- Objects at 0x1710 (R107, R370). -/
def shaftRows : List Row :=
  [ ⟨0x01, 0x01, (.u 1), .ro, (k0 0), any⟩,
    ⟨0x02, 0x02, (.u 4), .rwc, (k0 0), any⟩,
    ⟨0x03, 0x03, .time, .const, (k0 0x2625A00), any⟩,
    ⟨0x04, 0x04, (.u 1), .ro, (k0 0), any⟩,
    ⟨0x05, 0x05, .time, .ro, (k0 0), any⟩ ]

/-- Objects at 0x1800 (R93, R129). -/
def syncRows : List Row :=
  [ ⟨0x01, 0x01, (.u 1), .wo, (k0 0), (rng 1 2)⟩,
    ⟨0x02, 0x02, (.u 1), .ro, (k0 0), any⟩,
    ⟨0x03, 0x03, (.u 4), .ro, (k0 0), any⟩,
    ⟨0x04, 0x04, (.u 1), .rws, (k0 0), (rng 0 2)⟩,
    ⟨0x05, 0x05, (.u 1), .rws, (k0 0), (rng 0 3)⟩,
    ⟨0x06, 0x06, .time, .ro, (k0 0), any⟩,
    ⟨0x07, 0x07, .time, .ro, (k0 0), any⟩,
    ⟨0x08, 0x08, (.bits 1), .ro, (k0 0), any⟩,
    ⟨0x09, 0x09, (.u 4), .rwc, (k0 0), any⟩,
    ⟨0x20, 0x27, (.bits 4), .rws, (k0 0), bondCfg⟩,
    ⟨0x28, 0x2F, (.bits 4), .ro, (k0 0), any⟩ ]

/-- Objects at 0x2000 (R50). -/
def patternImageRows : List Row :=
  [ ⟨0x01, 0x01, .domain, .rws, (k0 0), any⟩,
    ⟨0x02, 0x02, (.bits 4), .ro, (k0 0), any⟩,
    ⟨0x03, 0x03, (.u 8), .ro, (k0 0), any⟩ ]

/-- Objects at 0x2100 (R135). -/
def hewerDomainRows : List Row :=
  [ ⟨0x01, 0x01, .domain, .rws, (k0 0), any⟩,
    ⟨0x02, 0x02, .domain, .rws, (k0 0), any⟩,
    ⟨0x03, 0x03, .domain, .rws, (k0 0), any⟩,
    ⟨0x04, 0x04, .domain, .rws, (k0 0), any⟩,
    ⟨0x05, 0x05, .domain, .rws, (k0 0), any⟩ ]

/-- Objects at 0x2200 (R173). -/
def sumpRows : List Row :=
  [ ⟨0x01, 0x01, .domain, .ro, (k0 0), any⟩,
    ⟨0x02, 0x02, .addr, .rws, (k0 0), (al 4096)⟩,
    ⟨0x03, 0x03, (.u 4), .rws, (k0 0), (fun _ v => v % 4 == 0 && 4 ≤ v && v ≤ 4194304)⟩,
    ⟨0x04, 0x04, (.u 2), .rws, (k0 0xFFFF), queueOrNone⟩,
    ⟨0x05, 0x05, (.u 1), .rws, (k0 0), (rng 0 1)⟩,
    ⟨0x06, 0x06, (.u 1), .wo, (k0 0), (rng 1 2)⟩,
    ⟨0x07, 0x07, (.u 1), .ro, (k0 0), any⟩,
    ⟨0x08, 0x08, (.u 8), .ro, (k0 0), any⟩,
    ⟨0x09, 0x09, (.u 8), .rw, (k0 0), any⟩,
    ⟨0x0A, 0x0A, (.u 4), .rwc, (k0 0), any⟩ ]

/-- Objects at 0x2300 (R182). -/
def assayDomainRows : List Row :=
  [ ⟨0x01, 0x01, .domain, .ro, (k0 0), any⟩,
    ⟨0x02, 0x02, .domain, .rws, (k0 0), any⟩ ]

/-- Objects at 0x2400 (R207). -/
def dowserResultRows : List Row :=
  [ ⟨0x01, 0x01, .domain, .ro, (k0 0), any⟩ ]

/-- Objects at 0x2500 (R215). -/
def graphImageRows : List Row :=
  [ ⟨0x01, 0x01, .domain, .rws, (k0 0), any⟩,
    ⟨0x02, 0x02, (.bits 4), .ro, (k0 0), any⟩,
    ⟨0x03, 0x03, (.u 8), .ro, (k0 0), any⟩ ]

/-- Objects at 0x2600 (R237). -/
def streamRows : List Row :=
  [ ⟨0x01, 0x01, .domain, .ro, (k0 0), any⟩,
    ⟨0x02, 0x02, (.u 2), .rws, (k0 0xFFFF), queueOrNone⟩,
    ⟨0x03, 0x03, (.u 1), .wo, (k0 0), (rng 1 2)⟩,
    ⟨0x04, 0x04, (.u 1), .ro, (k0 0), any⟩,
    ⟨0x05, 0x05, (.u 8), .ro, (k0 0), any⟩ ]

/-- Objects at 0x2700 (R396). -/
def fwImageRows : List Row :=
  [ ⟨0x01, 0x01, .domain, .wo, (k0 0), any⟩ ]

/-- Objects at 0x2701 (R396). -/
def flashImageRows : List Row :=
  [ ⟨0x01, 0x01, .domain, .wo, (k0 0), any⟩,
    ⟨0x02, 0x02, (.u 4), .ro, (k0 0), any⟩ ]

/-- Graph-defined parameters 0x4000 + 0x40 g + p (R238): one object per index, declared by the loaded graph image. -/
def graphParamRows : List Row := [⟨0x01, 0x01, .u 8, .rws, k0 0, any⟩]

/-- The objects of an index; the empty list where the index is not implemented (R299). -/
def rowsAt (i : Nat) : List Row :=
  if i < 0x900 then
    if i < 0x541 then
      if i < 0x300 then
        if i < 0x201 then
          if i < 0x101 then
            if i = 0x100 then identityRows else []
          else
            if i < 0x200 then
              if i = 0x101 then groupRevRows else []
            else
              if i = 0x200 then nodeRows else []
        else
          if i < 0x214 then
            if i < 0x210 then
              if 0x201 ≤ i ∧ i ≤ 0x202 then portRows else []
            else
              if 0x210 ≤ i ∧ i ≤ 0x213 then portRows ++ galleryPortRows else []
          else
            if i < 0x220 then
              if i = 0x214 then galleryNodeRows else []
            else
              if 0x220 ≤ i ∧ i ≤ 0x22F then laneRows else []
      else
        if i < 0x403 then
          if i < 0x401 then
            if i < 0x400 then
              if i = 0x300 then chipRows else []
            else
              if i = 0x400 then stampQueueRows else []
          else
            if i < 0x402 then
              if i = 0x401 then timeBaseRows else []
            else
              if i = 0x402 then tb1Rows else []
        else
          if i < 0x500 then
            if i < 0x440 then
              if 0x403 ≤ i ∧ i ≤ 0x404 then timeBaseRows else []
            else
              if 0x440 ≤ i ∧ i ≤ 0x45F then alarmRows else []
          else
            if i < 0x540 then
              if 0x500 ≤ i ∧ i ≤ 0x533 then powerDomainRows else []
            else
              if i = 0x540 then sheddingRows else []
    else
      if i < 0x610 then
        if i < 0x600 then
          if i < 0x570 then
            if i < 0x550 then
              if i = 0x541 then adcRows else []
            else
              if 0x550 ≤ i ∧ i ≤ 0x56F then railRows else []
          else
            if i < 0x580 then
              if 0x570 ≤ i ∧ i ≤ 0x571 then pmbusRows else []
            else
              if 0x580 ≤ i ∧ i ≤ 0x58F then supplySeqRows else []
        else
          if i < 0x602 then
            if i < 0x601 then
              if i = 0x600 then faultCollectorRows else []
            else
              if i = 0x601 then faultReactRows else []
          else
            if i < 0x603 then
              if i = 0x602 then faultCountRows else []
            else
              if i = 0x603 then faultLogRows else []
      else
        if i < 0x632 then
          if i < 0x622 then
            if i < 0x620 then
              if i = 0x610 then eventBitsRows else []
            else
              if 0x620 ≤ i ∧ i ≤ 0x621 then eventRouteRows else []
          else
            if i < 0x630 then
              if i = 0x622 then eventRoute2Rows else []
            else
              if 0x630 ≤ i ∧ i ≤ 0x631 then eventCountRows else []
        else
          if i < 0x740 then
            if i < 0x700 then
              if i = 0x632 then eventCount2Rows else []
            else
              if i = 0x700 then bootRows else []
          else
            if i < 0x800 then
              if i = 0x740 then winderRows else []
            else
              if i = 0x800 then selfTestRows else []
  else
    if i < 0x1500 then
      if i < 0xC80 then
        if i < 0xB00 then
          if i < 0x901 then
            if i = 0x900 then ddrRows else []
          else
            if i < 0xA00 then
              if 0x901 ≤ i ∧ i ≤ 0x908 then ddrChannelRows else []
            else
              if 0xA00 ≤ i ∧ i ≤ 0xA0F then tramRows else []
        else
          if i < 0xC01 then
            if i < 0xC00 then
              if 0xB00 ≤ i ∧ i ≤ 0xBFF then tarnRows else []
            else
              if i = 0xC00 then overmanRows else []
          else
            if i < 0xC40 then
              if 0xC01 ≤ i ∧ i ≤ 0xC04 then clusterRows else []
            else
              if 0xC40 ≤ i ∧ i ≤ 0xC7F then graphRows else []
      else
        if i < 0x1100 then
          if i < 0xD10 then
            if i < 0xD00 then
              if 0xC80 ≤ i ∧ i ≤ 0xCBF then orderClassRows else []
            else
              if 0xD00 ≤ i ∧ i ≤ 0xD07 then spiPortRows else []
          else
            if i < 0x1000 then
              if 0xD10 ≤ i ∧ i ≤ 0xD1F then writeListRows else []
            else
              if 0x1000 ≤ i ∧ i ≤ 0x10FF then pinChannelRows else []
        else
          if i < 0x1300 then
            if i < 0x1200 then
              if 0x1100 ≤ i ∧ i ≤ 0x1107 then spareRows else []
            else
              if 0x1200 ≤ i ∧ i ≤ 0x123F then sequencerRows else []
          else
            if i < 0x1400 then
              if 0x1300 ≤ i ∧ i ≤ 0x130F then hewerRows else []
            else
              if 0x1400 ≤ i ∧ i ≤ 0x147F then siteRows else []
    else
      if i < 0x2200 then
        if i < 0x1710 then
          if i < 0x1604 then
            if i < 0x1600 then
              if 0x1500 ≤ i ∧ i ≤ 0x150F then assayRows else []
            else
              if 0x1600 ≤ i ∧ i ≤ 0x1603 then dowserRows else []
          else
            if i < 0x1700 then
              if 0x1604 ≤ i ∧ i ≤ 0x1607 then tmuRows else []
            else
              if 0x1700 ≤ i ∧ i ≤ 0x170F then seamRows else []
        else
          if i < 0x2000 then
            if i < 0x1800 then
              if 0x1710 ≤ i ∧ i ≤ 0x1713 then shaftRows else []
            else
              if i = 0x1800 then syncRows else []
          else
            if i < 0x2100 then
              if 0x2000 ≤ i ∧ i ≤ 0x203F then patternImageRows else []
            else
              if 0x2100 ≤ i ∧ i ≤ 0x210F then hewerDomainRows else []
      else
        if i < 0x2600 then
          if i < 0x2400 then
            if i < 0x2300 then
              if 0x2200 ≤ i ∧ i ≤ 0x220F then sumpRows else []
            else
              if 0x2300 ≤ i ∧ i ≤ 0x230F then assayDomainRows else []
          else
            if i < 0x2500 then
              if 0x2400 ≤ i ∧ i ≤ 0x2403 then dowserResultRows else []
            else
              if 0x2500 ≤ i ∧ i ≤ 0x253F then graphImageRows else []
        else
          if i < 0x2701 then
            if i < 0x2700 then
              if 0x2600 ≤ i ∧ i ≤ 0x261F then streamRows else []
            else
              if i = 0x2700 then fwImageRows else []
          else
            if i < 0x4000 then
              if i = 0x2701 then flashImageRows else []
            else
              if 0x4000 ≤ i ∧ i ≤ 0x4FFF then graphParamRows else []

/-- Highest subindex implemented at an index (R274). -/
def highestSub (i : Nat) : Nat := (rowsAt i).foldl (fun a r => max a r.hi) 0

/-- First index of the run of instances an index lies in, for defaults that depend on the instance. -/
def groupBase (i : Nat) : Nat :=
  if 0x1700 ≤ i ∧ i ≤ 0x170F then 0x1700
  else if 0x0401 ≤ i ∧ i ≤ 0x0404 then 0x0401
  else if 0x0500 ≤ i ∧ i ≤ 0x0533 then 0x0500
  else if 0x0201 ≤ i ∧ i ≤ 0x0202 then 0x0201
  else if 0x0210 ≤ i ∧ i ≤ 0x0213 then 0x020F
  else i

/-- The row of an object; subindex 0 is HIGHEST_SUB (R274). -/
def rowOf (i s : Nat) : Option Row :=
  let l := rowsAt i
  if l.isEmpty then none
  else if s = 0 then some ⟨0, 0, .u 1, .const, fun _ _ => highestSub i, any⟩
  else l.find? (fun r => decide (r.lo ≤ s) && decide (s ≤ r.hi))

/-- The default of an object (R6), by key. -/
def dfltOf (key : Nat) : Nat :=
  match rowOf (key / 256) (key % 256) with
  | some r => r.dflt (key / 256 - groupBase (key / 256)) (key % 256)
  | none => 0

end Sys2Proof.Machine
end

