-- ==== Sys2Proof/Machine/Frames.lean ====
section
/-! DEFINITION. The words of frames (R312 to R314) and of the transactions they carry (R287, R288, R321, R322): every field of
a header is laid into its word and cut out of it here. -/

namespace Sys2Proof

/-! Frames. -/

/-- The bytes a frame's CRC covers: header and payload (R312). -/
def frameBytes (head : Nat) (body : List Nat) : List Byte := toBytes 16 head ++ body.flatMap (toBytes 8)

/-- The header of a frame (R313). -/
def frameHead (notLim datLim reqLim fseq ack : Nat) (nak : Bool) (kind op words : Nat) : Nat :=
  fld 96 16 notLim + fld 80 16 datLim + fld 64 16 reqLim + fld 48 16 fseq + fld 32 16 ack + fld 31 1 (b2n nak) +
  fld 24 4 kind + fld 16 8 op + fld 0 16 words

/-- A frame with the trailer that fits it (R312). -/
def frameMade (head : Nat) (body : List Nat) : Frame := ⟨head, body, crc32 (frameBytes head body)⟩

/-- WORDS, CTRL_OP, KIND, NAK, ACK, FSEQ and the granted limits (R313). -/
def Frame.words (f : Frame) : Nat := bits f.head 0 16
def Frame.op (f : Frame) : Nat := bits f.head 16 8
def Frame.kind (f : Frame) : Nat := bits f.head 24 4
def Frame.nak (f : Frame) : Bool := bit f.head 31
def Frame.ack (f : Frame) : Nat := bits f.head 32 16
def Frame.fseq (f : Frame) : Nat := bits f.head 48 16
def Frame.reqLim (f : Frame) : Nat := bits f.head 64 16
def Frame.datLim (f : Frame) : Nat := bits f.head 80 16
def Frame.notLim (f : Frame) : Nat := bits f.head 96 16

/-- Intact: WORDS payload words, and the CRC of header and payload in the trailer (R312). -/
def Frame.intact (f : Frame) : Bool := f.words == f.body.length && f.trail == crc32 (frameBytes f.head f.body)

/-- A KIND that is reserved (R314). -/
def Frame.badKind (f : Frame) : Bool := f.kind == 0 || decide (6 ≤ f.kind)

/-! Transactions. -/

/-- The header of a transaction (R287). -/
def transHead (len abort phase index sub tag type : Nat) (resp : Bool) (src dst : Nat) : Nat :=
  fld 96 32 len + fld 80 16 abort + fld 72 8 phase + fld 48 16 index + fld 40 8 sub + fld 32 8 tag + fld 20 4 type +
  fld 19 1 (b2n resp) + fld 6 6 src + fld 0 6 dst

/-- The words of bytes, the last padded with zeros (R287). -/
def wordsOf (l : List Byte) : List Nat := (List.range (ceilDiv l.length 8)).map (fun i => ofBytes ((l.drop (8 * i)).take 8))

/-- A transaction as words: its header, then its payload (R287). -/
def transWords (head : Nat) (payload : List Byte) : List Nat := bits head 0 64 :: bits head 64 64 :: wordsOf payload

/-- The header of a transaction in words. -/
def transHdr (b : List Nat) : Nat := b.headD 0 % 2 ^ 64 + 2 ^ 64 * (b.drop 1).headD 0

/-- The payload of a transaction in words. -/
def transPayload (b : List Nat) : List Byte := ((b.drop 2).flatMap (toBytes 8)).take (bits (transHdr b) 96 32)

/-- A transaction in words is a response; a NOTICE; the data credits it takes, in units of 64 bytes (R316). -/
def transResp (b : List Nat) : Bool := bit (transHdr b) 19
def transNotice (b : List Nat) : Bool := bits (transHdr b) 20 4 == 4 && !transResp b
def transUnits (b : List Nat) : Nat :=
  let h := transHdr b
  if !transResp b && (bits h 20 4 == 6 || (bits h 20 4 == 3 && bits h 72 8 == 3)) then ceilDiv (bits h 96 32) 64 else 0

/-- The fields of the transaction a frame carries. -/
def Frame.hdr (f : Frame) : Nat := transHdr f.body
def Frame.dst (f : Frame) : Nat := bits f.hdr 0 6
def Frame.src (f : Frame) : Nat := bits f.hdr 6 6
def Frame.resp (f : Frame) : Bool := bit f.hdr 19
def Frame.type (f : Frame) : Nat := bits f.hdr 20 4
def Frame.tag (f : Frame) : Nat := bits f.hdr 32 8
def Frame.sub (f : Frame) : Nat := bits f.hdr 40 8
def Frame.index (f : Frame) : Nat := bits f.hdr 48 16
def Frame.phase (f : Frame) : Nat := bits f.hdr 72 8
def Frame.abort (f : Frame) : Nat := bits f.hdr 80 16
def Frame.len (f : Frame) : Nat := bits f.hdr 96 32
def Frame.payload (f : Frame) : List Byte := transPayload f.body

/-- A reserved field of the transaction header is not 0 (R287, R288). -/
def Frame.rsvd (f : Frame) : Bool := bits f.hdr 12 7 != 0 || bits f.hdr 24 8 != 0 || bits f.hdr 64 8 != 0

/-- The payload of an ENUM request (R321). -/
def enumBytes (op nextId : Nat) : List Byte := toBytes 8 (fld 8 8 op + fld 0 8 nextId)

/-- An ENUM request as R321 gives it: DST 63, INDEX and SUB 0, 8 bytes, OP CLEAR or ASSIGN, other bits 0. -/
def Frame.enumOk (f : Frame) : Bool :=
  let v := ofBytes f.payload
  f.dst == 63 && f.index == 0 && f.sub == 0 && f.len == 8 && bits v 16 48 == 0 && (bits v 8 8 == 1 || bits v 8 8 == 2)

/-- The bulk header (R322). -/
def bulkHead (readLen op : Nat) (posted : Bool) (addr : Nat) : Nat :=
  fld 64 32 readLen + fld 56 8 op + fld 40 1 (b2n posted) + fld 0 40 addr

/-- A BULK request as R322 gives it: INDEX and SUB 0, OP WRITE or READ, reserved bits 0, READ_LEN 0 in a WRITE. -/
def Frame.bulkOk (f : Frame) : Bool :=
  let v := ofBytes (f.payload.take 16)
  f.index == 0 && f.sub == 0 && decide (16 ≤ f.len) && bits v 96 32 == 0 && bits v 41 15 == 0 &&
  (bits v 56 8 == 2 || (bits v 56 8 == 1 && bits v 64 32 == 0))

/-! TIME transactions (R340). -/

/-- The 256 bits of a TIME payload. -/
def timeBits (stamp : Nat) (corr : Int) (seqId domain node msg markLo base : Nat) : Nat :=
  fld 176 80 stamp + fld 112 64 (ofSigned 64 corr) + fld 96 16 seqId + fld 88 7 domain + fld 80 8 node + fld 76 4 msg +
  fld 68 8 markLo + fld 66 2 base

/-- A TIME transaction in words. -/
def timeWords (tag src dst v : Nat) : List Nat := transWords (transHead 32 0 0 0 0 tag 5 false src dst) (toBytes 32 v)

/-- The fields of a TIME frame. -/
def Frame.time (f : Frame) : Nat := ofBytes f.payload
def Frame.msg (f : Frame) : Nat := bits f.time 76 4
def TimeMsg.src (m : TimeMsg) : Nat := m.frame.src
def TimeMsg.t (m : TimeMsg) : Nat := bits m.frame.time 176 80
def TimeMsg.corr (m : TimeMsg) : Int := toSigned 64 (bits m.frame.time 112 64)
def TimeMsg.seqId (m : TimeMsg) : Nat := bits m.frame.time 96 16
def TimeMsg.domain (m : TimeMsg) : Nat := bits m.frame.time 88 7
def TimeMsg.node (m : TimeMsg) : Nat := bits m.frame.time 80 8
def TimeMsg.markId (m : TimeMsg) : Nat := 256 * m.node + bits m.frame.time 68 8
def TimeMsg.markBase (m : TimeMsg) : Nat := bits m.frame.time 66 2

/-- A TIME transaction as R340 gives it: 32 bytes, a listed MSG, reserved bits 0. -/
def Frame.timeOk (f : Frame) : Bool :=
  f.type == 5 && !f.resp && !f.rsvd && f.len == 32 && [0x0, 0x1, 0x8, 0x9, 0xF].contains f.msg && !(bit f.time 95) && bits f.time 0 66 == 0

/-- The capabilities frame of a node of this kind (R310): VENDOR_ID, DEVICE_ID, MAJORS 0x06, MINOR_M1 2, MINOR_M2 3,
FEATURES 0x0007, ROLE and GAL_NODE. -/
def capsWords (role galNode : Nat) : Nat :=
  fld 96 32 0xCAE1 + fld 64 32 0x2564 + fld 56 8 0x06 + fld 48 8 2 + fld 40 8 3 + fld 16 16 0x0007 + fld 8 8 role + fld 0 8 galNode

end Sys2Proof
end

