-- ==== Sys2Proof/Machine/Keys.lean ====
section
/-! DEFINITION. The key of every object of the dictionary: index × 256 + subindex (R273), under the object's own
mnemonic; `n` is the instance, `i` the place in an array of objects, `e` an event number, `i` of the FAULT objects the
fault kind. The rule named beside a key is the one whose table defines the object. -/

namespace Sys2Proof.Machine.K

def SCAN_PAIR_A (n : Nat) : Nat := (0x1000 + n) * 256 + 0x20   -- R35
def SCAN_PAIR_B (n : Nat) : Nat := (0x1000 + n) * 256 + 0x21   -- R35
def CAL_DRV_RISE (n : Nat) : Nat := (0x1000 + n) * 256 + 0x01   -- R111
def CAL_DRV_FALL (n : Nat) : Nat := (0x1000 + n) * 256 + 0x02   -- R111
def CAL_DEN_ON (n : Nat) : Nat := (0x1000 + n) * 256 + 0x03   -- R111
def CAL_DEN_OFF (n : Nat) : Nat := (0x1000 + n) * 256 + 0x04   -- R111
def CAL_CMPH (n : Nat) : Nat := (0x1000 + n) * 256 + 0x05   -- R111
def CAL_CMPL (n : Nat) : Nat := (0x1000 + n) * 256 + 0x06   -- R111
def THERM_ADJ (n : Nat) : Nat := (0x1000 + n) * 256 + 0x07   -- R111
def CAL_TEMP (n : Nat) : Nat := (0x1000 + n) * 256 + 0x08   -- R111
def EDGE_CLASH (n : Nat) : Nat := (0x1000 + n) * 256 + 0x09   -- R111
def SPARE_BY (n : Nat) : Nat := (0x1000 + n) * 256 + 0x0A   -- R111
def EDGE_A (n : Nat) (i : Nat) : Nat := (0x1000 + n) * 256 + (0x40 + i)   -- R111
def EDGE_B (n : Nat) (i : Nat) : Nat := (0x1000 + n) * 256 + (0x60 + i)   -- R111
def FMT (n : Nat) (i : Nat) : Nat := (0x1000 + n) * 256 + (0x80 + i)   -- R111
def ACT_EDGE_A (n : Nat) (i : Nat) : Nat := (0x1000 + n) * 256 + (0xA0 + i)   -- R111
def ACT_EDGE_B (n : Nat) (i : Nat) : Nat := (0x1000 + n) * 256 + (0xC0 + i)   -- R111
def ACT_FMT (n : Nat) (i : Nat) : Nat := (0x1000 + n) * 256 + (0xE0 + i)   -- R111
def CH_FAILS (n : Nat) : Nat := (0x1000 + n) * 256 + 0x0B   -- R160
def CH_CMP_FAULTS (n : Nat) : Nat := (0x1000 + n) * 256 + 0x0C   -- R160
def CH_BIST_FAILED (n : Nat) : Nat := (0x1000 + n) * 256 + 0x0D   -- R417
def LODE_BASE (n : Nat) : Nat := (0x1200 + n) * 256 + 0x20   -- R41
def LODE_LINES (n : Nat) : Nat := (0x1200 + n) * 256 + 0x21   -- R41
def DICT_OFFSET (n : Nat) : Nat := (0x1200 + n) * 256 + 0x22   -- R41
def DICT_COUNT (n : Nat) : Nat := (0x1200 + n) * 256 + 0x23   -- R41
def STREAM_BASE (n : Nat) : Nat := (0x1200 + n) * 256 + 0x24   -- R41
def BUDGET_REPORT (n : Nat) : Nat := (0x1200 + n) * 256 + 0x25   -- R41
def BLOCK_ERR (n : Nat) : Nat := (0x1200 + n) * 256 + 0x26   -- R41
def CODE_EVENTS (n : Nat) : Nat := (0x1200 + n) * 256 + 0x27   -- R41
def LODE_ECC_CORR (n : Nat) : Nat := (0x1200 + n) * 256 + 0x28   -- R41
def WIN_CFG (n : Nat) (i : Nat) : Nat := (0x1200 + n) * 256 + (0x30 + i)   -- R41
def WIN_STAT (n : Nat) (i : Nat) : Nat := (0x1200 + n) * 256 + (0x40 + i)   -- R41
def SEQ_CMD (n : Nat) : Nat := (0x1200 + n) * 256 + 0x01   -- R71
def SEQ_STATE (n : Nat) : Nat := (0x1200 + n) * 256 + 0x02   -- R71
def SEQ_STATUS (n : Nat) : Nat := (0x1200 + n) * 256 + 0x03   -- R71
def START_AT (n : Nat) : Nat := (0x1200 + n) * 256 + 0x04   -- R71
def START_SRC (n : Nat) : Nat := (0x1200 + n) * 256 + 0x05   -- R71
def START_ENTRY (n : Nat) : Nat := (0x1200 + n) * 256 + 0x06   -- R71
def SEG_BASE (n : Nat) : Nat := (0x1200 + n) * 256 + 0x07   -- R71
def SEG_COUNT (n : Nat) : Nat := (0x1200 + n) * 256 + 0x08   -- R71
def SITES_LO (n : Nat) : Nat := (0x1200 + n) * 256 + 0x09   -- R71
def SITES_HI (n : Nat) : Nat := (0x1200 + n) * 256 + 0x0A   -- R71
def RL (n : Nat) : Nat := (0x1200 + n) * 256 + 0x0B   -- R71
def LOOP_LATENCY (n : Nat) : Nat := (0x1200 + n) * 256 + 0x0C   -- R71
def TMIN (n : Nat) : Nat := (0x1200 + n) * 256 + 0x0D   -- R71
def CUR_ENTRY (n : Nat) : Nat := (0x1200 + n) * 256 + 0x0E   -- R71
def CUR_ITER (n : Nat) : Nat := (0x1200 + n) * 256 + 0x0F   -- R71
def CYCLE (n : Nat) : Nat := (0x1200 + n) * 256 + 0x10   -- R71
def MATCH_ITER (n : Nat) : Nat := (0x1200 + n) * 256 + 0x11   -- R71
def SQUASHED_VP (n : Nat) : Nat := (0x1200 + n) * 256 + 0x12   -- R71
def DEADTIME_VP (n : Nat) : Nat := (0x1200 + n) * 256 + 0x13   -- R71
def EXTJ_SRC (n : Nat) : Nat := (0x1200 + n) * 256 + 0x14   -- R71
def EXTJ_ARRIVE (n : Nat) : Nat := (0x1200 + n) * 256 + 0x15   -- R71
def EXTJ_TAKEN (n : Nat) : Nat := (0x1200 + n) * 256 + 0x16   -- R71
def EXTJ_MERGED (n : Nat) : Nat := (0x1200 + n) * 256 + 0x17   -- R71
def BOND_GROUP (n : Nat) : Nat := (0x1200 + n) * 256 + 0x18   -- R71
def CNT (n : Nat) : Nat := (0x1200 + n) * 256 + 0x19   -- R71
def TRIG_WIDTH (n : Nat) : Nat := (0x1200 + n) * 256 + 0x1A   -- R71
def TRIG_OUT_DELAY (n : Nat) : Nat := (0x1200 + n) * 256 + 0x1B   -- R71
def FASTRES_EXITS (n : Nat) : Nat := (0x1200 + n) * 256 + 0x1C   -- R71
def TSET_SEAL (n : Nat) : Nat := (0x1200 + n) * 256 + 0x50   -- R110
def AUTO_SHADOW (n : Nat) : Nat := (0x1200 + n) * 256 + 0x51   -- R110
def HANDOVER_SETS (n : Nat) : Nat := (0x1200 + n) * 256 + 0x52   -- R110
def HANDOVER_ENTRY (n : Nat) : Nat := (0x1200 + n) * 256 + 0x53   -- R110
def HANDOVER_CYCLE (n : Nat) : Nat := (0x1200 + n) * 256 + 0x54   -- R110
def HANDOVERS (n : Nat) : Nat := (0x1200 + n) * 256 + 0x55   -- R110
def TSET_PERIOD (n : Nat) (i : Nat) : Nat := (0x1200 + n) * 256 + (0x60 + i)   -- R110
def ACT_PERIOD (n : Nat) (i : Nat) : Nat := (0x1200 + n) * 256 + (0x80 + i)   -- R110
def PATTERN_IMAGE (n : Nat) : Nat := (0x2000 + n) * 256 + 0x01   -- R50
def IMAGE_STATUS (n : Nat) : Nat := (0x2000 + n) * 256 + 0x02   -- R50
def IMAGE_ID (n : Nat) : Nat := (0x2000 + n) * 256 + 0x03   -- R50
def SITE_SEQ (n : Nat) : Nat := (0x1400 + n) * 256 + 0x01   -- R88
def CHAN_MAP (n : Nat) (i : Nat) : Nat := (0x1400 + n) * 256 + (0x02 + i)   -- R88
def SITE_ENABLE (n : Nat) : Nat := (0x1400 + n) * 256 + 0x06   -- R88
def FAIL_POLICY (n : Nat) : Nat := (0x1400 + n) * 256 + 0x07   -- R88
def POLICY_THRESHOLD (n : Nat) : Nat := (0x1400 + n) * 256 + 0x08   -- R88
def PARK_MODE (n : Nat) : Nat := (0x1400 + n) * 256 + 0x09   -- R88
def SUPPLY_SEQ (n : Nat) : Nat := (0x1400 + n) * 256 + 0x0A   -- R88
def SITE_COND (n : Nat) : Nat := (0x1400 + n) * 256 + 0x0B   -- R88
def PARK_CAUSE (n : Nat) : Nat := (0x1400 + n) * 256 + 0x0C   -- R88
def SITE_CMD (n : Nat) : Nat := (0x1400 + n) * 256 + 0x0D   -- R88
def SITE_MATCH_ITER (n : Nat) : Nat := (0x1400 + n) * 256 + 0x0E   -- R88
def PARK_CYCLE (n : Nat) : Nat := (0x1400 + n) * 256 + 0x0F   -- R88
def SITE_FAILS (n : Nat) : Nat := (0x1400 + n) * 256 + 0x20   -- R159
def FF_CYCLE (n : Nat) : Nat := (0x1400 + n) * 256 + 0x21   -- R159
def FF_ENTRY (n : Nat) : Nat := (0x1400 + n) * 256 + 0x22   -- R159
def FF_ITER (n : Nat) : Nat := (0x1400 + n) * 256 + 0x23   -- R159
def FF_CHAN (n : Nat) : Nat := (0x1400 + n) * 256 + 0x24   -- R159
def FF_ADDR (n : Nat) : Nat := (0x1400 + n) * 256 + 0x25   -- R159
def FAIL_CHANS (n : Nat) (i : Nat) : Nat := (0x1400 + n) * 256 + (0x26 + i)   -- R159
def FAIL_MASK (n : Nat) (i : Nat) : Nat := (0x1400 + n) * 256 + (0x2A + i)   -- R159
def LOG_CFG (n : Nat) : Nat := (0x1400 + n) * 256 + 0x2E   -- R159
def LOG_RECORDS (n : Nat) : Nat := (0x1400 + n) * 256 + 0x2F   -- R159
def LOG_DROPPED (n : Nat) : Nat := (0x1400 + n) * 256 + 0x30   -- R159
def ACCT_FLAGS (n : Nat) : Nat := (0x1400 + n) * 256 + 0x31   -- R159
def CMP_FAULTS (n : Nat) : Nat := (0x1400 + n) * 256 + 0x32   -- R159
def BOND_CFG (i : Nat) : Nat := 0x1800 * 256 + (0x20 + i)   -- R93
def BOND_STAT (i : Nat) : Nat := 0x1800 * 256 + (0x28 + i)   -- R93
def SYNC_CMD : Nat := 0x1800 * 256 + 0x01   -- R129
def SYNC_STATE : Nat := 0x1800 * 256 + 0x02   -- R129
def EPOCH_COUNT : Nat := 0x1800 * 256 + 0x03   -- R129
def SYNC_ROLE : Nat := 0x1800 * 256 + 0x04   -- R129
def MASTER_PORT : Nat := 0x1800 * 256 + 0x05   -- R129
def SKEW_ADJ : Nat := 0x1800 * 256 + 0x06   -- R129
def SKEW_RESIDUAL : Nat := 0x1800 * 256 + 0x07   -- R129
def UNSURE_CAUSE : Nat := 0x1800 * 256 + 0x08   -- R129
def SYNC_IGNORED : Nat := 0x1800 * 256 + 0x09   -- R129
def PLL_STATE (n : Nat) : Nat := (0x1710 + n) * 256 + 0x01   -- R107
def PLL_UNLOCKS (n : Nat) : Nat := (0x1710 + n) * 256 + 0x02   -- R107
def LAUNCH_LATENCY (n : Nat) : Nat := (0x1710 + n) * 256 + 0x03   -- R107
def LIN_STATE (n : Nat) : Nat := (0x1710 + n) * 256 + 0x04   -- R370
def LIN_INL (n : Nat) : Nat := (0x1710 + n) * 256 + 0x05   -- R370
def SEAM_DOMAIN (n : Nat) : Nat := (0x1700 + n) * 256 + 0x01   -- R109
def SEAM_SLICES (n : Nat) : Nat := (0x1700 + n) * 256 + 0x02   -- R109
def SEAM_FREE (n : Nat) : Nat := (0x1700 + n) * 256 + 0x03   -- R109
def BUF_LOW (n : Nat) : Nat := (0x1700 + n) * 256 + 0x04   -- R109
def CLASH_TOTAL (n : Nat) : Nat := (0x1700 + n) * 256 + 0x05   -- R109
def TMU_CMD (n : Nat) : Nat := (0x1604 + n) * 256 + 0x01   -- R127
def TMU_STATE (n : Nat) : Nat := (0x1604 + n) * 256 + 0x02   -- R127
def TMU_START_SRC (n : Nat) : Nat := (0x1604 + n) * 256 + 0x03   -- R127
def TMU_STOP_SRC (n : Nat) : Nat := (0x1604 + n) * 256 + 0x04   -- R127
def TMU_SAMPLES (n : Nat) : Nat := (0x1604 + n) * 256 + 0x05   -- R127
def TMU_TIMEOUT (n : Nat) : Nat := (0x1604 + n) * 256 + 0x06   -- R127
def TMU_MEAN (n : Nat) : Nat := (0x1604 + n) * 256 + 0x07   -- R127
def TMU_MIN (n : Nat) : Nat := (0x1604 + n) * 256 + 0x08   -- R127
def TMU_MAX (n : Nat) : Nat := (0x1604 + n) * 256 + 0x09   -- R127
def TMU_SIGMA (n : Nat) : Nat := (0x1604 + n) * 256 + 0x0A   -- R127
def TMU_COUNT (n : Nat) : Nat := (0x1604 + n) * 256 + 0x0B   -- R127
def TMU_CALIBRATED (n : Nat) : Nat := (0x1604 + n) * 256 + 0x0C   -- R370
def SPE_TARGET (n : Nat) : Nat := (0x1100 + n) * 256 + 0x01   -- R132
def SPE_STATE (n : Nat) : Nat := (0x1100 + n) * 256 + 0x02   -- R132
def SPE_CAL (n : Nat) (i : Nat) : Nat := (0x1100 + n) * 256 + (0x03 + i)   -- R132
def SPE_THERM_ADJ (n : Nat) : Nat := (0x1100 + n) * 256 + 0x09   -- R132
def HEW_SEQ (n : Nat) : Nat := (0x1300 + n) * 256 + 0x01   -- R134
def HEW_STATE (n : Nat) : Nat := (0x1300 + n) * 256 + 0x02   -- R134
def HEW_PC_LAST (n : Nat) : Nat := (0x1300 + n) * 256 + 0x03   -- R134
def HEW_FLAGS (n : Nat) : Nat := (0x1300 + n) * 256 + 0x04   -- R134
def HEW_OPS (n : Nat) : Nat := (0x1300 + n) * 256 + 0x05   -- R134
def HEW_ERR (n : Nat) : Nat := (0x1300 + n) * 256 + 0x06   -- R134
def ADDR_MODE (n : Nat) : Nat := (0x1300 + n) * 256 + 0x07   -- R134
def CHK_MASK (n : Nat) : Nat := (0x1300 + n) * 256 + 0x08   -- R134
def LFSR_POLY (n : Nat) : Nat := (0x1300 + n) * 256 + 0x09   -- R134
def SCR_EN (n : Nat) : Nat := (0x1300 + n) * 256 + 0x0A   -- R134
def SCR_PERM (n : Nat) (i : Nat) : Nat := (0x1300 + n) * 256 + (0x0B + i)   -- R134
def TOPO_SEL (n : Nat) : Nat := (0x1300 + n) * 256 + 0x12   -- R134
def TOPO_MASK (n : Nat) : Nat := (0x1300 + n) * 256 + 0x13   -- R134
def TOPO_TABLE (n : Nat) (i : Nat) : Nat := (0x1300 + n) * 256 + (0x14 + i)   -- R134
def PINMAP_EN (n : Nat) (i : Nat) : Nat := (0x1300 + n) * 256 + (0x20 + i)   -- R134
def HEW_PROGRAM (n : Nat) : Nat := (0x2100 + n) * 256 + 0x01   -- R135
def HEW_PINMAP (n : Nat) : Nat := (0x2100 + n) * 256 + 0x02   -- R135
def SCR_XOR (n : Nat) : Nat := (0x2100 + n) * 256 + 0x03   -- R135
def SCR_LUT_X (n : Nat) : Nat := (0x2100 + n) * 256 + 0x04   -- R135
def SCR_LUT_Y (n : Nat) : Nat := (0x2100 + n) * 256 + 0x05   -- R135
def SUMP_DATA (n : Nat) : Nat := (0x2200 + n) * 256 + 0x01   -- R173
def SUMP_BASE (n : Nat) : Nat := (0x2200 + n) * 256 + 0x02   -- R173
def SUMP_KIB (n : Nat) : Nat := (0x2200 + n) * 256 + 0x03   -- R173
def SUMP_QUEUE (n : Nat) : Nat := (0x2200 + n) * 256 + 0x04   -- R173
def SUMP_MODE (n : Nat) : Nat := (0x2200 + n) * 256 + 0x05   -- R173
def SUMP_CMD (n : Nat) : Nat := (0x2200 + n) * 256 + 0x06   -- R173
def SUMP_STATE (n : Nat) : Nat := (0x2200 + n) * 256 + 0x07   -- R173
def SUMP_WR (n : Nat) : Nat := (0x2200 + n) * 256 + 0x08   -- R173
def SUMP_RD (n : Nat) : Nat := (0x2200 + n) * 256 + 0x09   -- R173
def SUMP_DISCARDED (n : Nat) : Nat := (0x2200 + n) * 256 + 0x0A   -- R173
def ASY_CMD (n : Nat) : Nat := (0x1500 + n) * 256 + 0x01   -- R181
def ASY_STATE (n : Nat) : Nat := (0x1500 + n) * 256 + 0x02   -- R181
def ASY_STATUS (n : Nat) : Nat := (0x1500 + n) * 256 + 0x03   -- R181
def ASY_SEQ (n : Nat) : Nat := (0x1500 + n) * 256 + 0x04   -- R181
def ASY_SOURCE (n : Nat) : Nat := (0x1500 + n) * 256 + 0x05   -- R181
def SEL_COUNT (n : Nat) : Nat := (0x1500 + n) * 256 + 0x06   -- R181
def PRE_DEPTH (n : Nat) : Nat := (0x1500 + n) * 256 + 0x07   -- R181
def POST_COUNT (n : Nat) : Nat := (0x1500 + n) * 256 + 0x08   -- R181
def REC_COUNT (n : Nat) : Nat := (0x1500 + n) * 256 + 0x09   -- R181
def REDUCE (n : Nat) : Nat := (0x1500 + n) * 256 + 0x0A   -- R181
def CAP_FLAGS (n : Nat) : Nat := (0x1500 + n) * 256 + 0x0B   -- R181
def TRIG_SRC (n : Nat) : Nat := (0x1500 + n) * 256 + 0x0C   -- R181
def TRIG_COND (n : Nat) : Nat := (0x1500 + n) * 256 + 0x0D   -- R181
def TRIG_COUNT (n : Nat) : Nat := (0x1500 + n) * 256 + 0x0E   -- R181
def SPILL_BASE (n : Nat) : Nat := (0x1500 + n) * 256 + 0x0F   -- R181
def SPILL_KIB (n : Nat) : Nat := (0x1500 + n) * 256 + 0x10   -- R181
def MASK_CFG (n : Nat) : Nat := (0x1500 + n) * 256 + 0x11   -- R181
def MASK_LEN (n : Nat) : Nat := (0x1500 + n) * 256 + 0x12   -- R181
def MISSED_TRIG (n : Nat) : Nat := (0x1500 + n) * 256 + 0x13   -- R181
def EARLY_IGNORED (n : Nat) : Nat := (0x1500 + n) * 256 + 0x14   -- R181
def CAP_WR (n : Nat) : Nat := (0x1500 + n) * 256 + 0x15   -- R181
def ONCHIP_PEAK (n : Nat) : Nat := (0x1500 + n) * 256 + 0x16   -- R181
def REC_BYTES (n : Nat) : Nat := (0x1500 + n) * 256 + 0x17   -- R181
def SEL (n : Nat) (i : Nat) : Nat := (0x1500 + n) * 256 + (0x40 + i)   -- R181
def CAPTURE_DATA (n : Nat) : Nat := (0x2300 + n) * 256 + 0x01   -- R182
def MASK_TEMPLATE (n : Nat) : Nat := (0x2300 + n) * 256 + 0x02   -- R182
def DWS_CMD (n : Nat) : Nat := (0x1600 + n) * 256 + 0x01   -- R206
def DWS_STATE (n : Nat) : Nat := (0x1600 + n) * 256 + 0x02   -- R206
def DWS_SEQ (n : Nat) : Nat := (0x1600 + n) * 256 + 0x03   -- R206
def DWS_TSET (n : Nat) : Nat := (0x1600 + n) * 256 + 0x04   -- R206
def DWS_KIND (n : Nat) : Nat := (0x1600 + n) * 256 + 0x05   -- R206
def DWS_PARAM (n : Nat) : Nat := (0x1600 + n) * 256 + 0x06   -- R206
def X_LO (n : Nat) : Nat := (0x1600 + n) * 256 + 0x07   -- R206
def X_HI (n : Nat) : Nat := (0x1600 + n) * 256 + 0x08   -- R206
def X_RES (n : Nat) : Nat := (0x1600 + n) * 256 + 0x09   -- R206
def X_CENTRE (n : Nat) : Nat := (0x1600 + n) * 256 + 0x0A   -- R206
def Y_LO (n : Nat) : Nat := (0x1600 + n) * 256 + 0x0B   -- R206
def Y_HI (n : Nat) : Nat := (0x1600 + n) * 256 + 0x0C   -- R206
def Y_STEP (n : Nat) : Nat := (0x1600 + n) * 256 + 0x0D   -- R206
def INNER (n : Nat) : Nat := (0x1600 + n) * 256 + 0x0E   -- R206
def PASS_ENTRY (n : Nat) : Nat := (0x1600 + n) * 256 + 0x0F   -- R206
def EXIT_ENTRY (n : Nat) : Nat := (0x1600 + n) * 256 + 0x10   -- R206
def FINAL (n : Nat) : Nat := (0x1600 + n) * 256 + 0x11   -- R206
def DWS_CHANS (n : Nat) (i : Nat) : Nat := (0x1600 + n) * 256 + (0x12 + i)   -- R206
def TMU_REF (n : Nat) : Nat := (0x1600 + n) * 256 + 0x16   -- R206
def DWS_STEPS (n : Nat) : Nat := (0x1600 + n) * 256 + 0x17   -- R206
def IDLE_PASSES (n : Nat) : Nat := (0x1600 + n) * 256 + 0x18   -- R206
def SHED_PAUSES (n : Nat) : Nat := (0x1600 + n) * 256 + 0x19   -- R206
def DWS_CAUSE (n : Nat) : Nat := (0x1600 + n) * 256 + 0x1A   -- R206
def DWS_RESULT (n : Nat) : Nat := (0x2400 + n) * 256 + 0x01   -- R207
def CLUSTER_CMD (n : Nat) : Nat := (0xC01 + n) * 256 + 0x01   -- R213
def CLUSTER_STATE (n : Nat) : Nat := (0xC01 + n) * 256 + 0x02   -- R213
def CLUSTER_CLOCK (n : Nat) : Nat := (0xC01 + n) * 256 + 0x03   -- R213
def CMEM_USED (n : Nat) : Nat := (0xC01 + n) * 256 + 0x04   -- R213
def CMEM_ECC_CORR (n : Nat) : Nat := (0xC01 + n) * 256 + 0x05   -- R213
def CORE_OPS (n : Nat) (i : Nat) : Nat := (0xC01 + n) * 256 + (0x10 + i)   -- R213
def CORE_READY (n : Nat) (i : Nat) : Nat := (0xC01 + n) * 256 + (0x14 + i)   -- R213
def GRAPH_IMAGE (n : Nat) : Nat := (0x2500 + n) * 256 + 0x01   -- R215
def GRAPH_STATUS (n : Nat) : Nat := (0x2500 + n) * 256 + 0x02   -- R215
def GRAPH_ID (n : Nat) : Nat := (0x2500 + n) * 256 + 0x03   -- R215
def GRAPH_CMD (n : Nat) : Nat := (0xC40 + n) * 256 + 0x01   -- R224
def GRAPH_STATE (n : Nat) : Nat := (0xC40 + n) * 256 + 0x02   -- R224
def GRAPH_CLASS (n : Nat) : Nat := (0xC40 + n) * 256 + 0x03   -- R224
def CLUSTER_MASK (n : Nat) : Nat := (0xC40 + n) * 256 + 0x04   -- R224
def GRAPH_PRIO (n : Nat) : Nat := (0xC40 + n) * 256 + 0x05   -- R224
def FLOW_QUOTA (n : Nat) : Nat := (0xC40 + n) * 256 + 0x06   -- R224
def IN_CFG (n : Nat) (i : Nat) : Nat := (0xC40 + n) * 256 + (0x07 + i)   -- R224
def OUT_Q (n : Nat) (i : Nat) : Nat := (0xC40 + n) * 256 + (0x0B + i)   -- R224
def PARCEL_RECORDS (n : Nat) : Nat := (0xC40 + n) * 256 + 0x13   -- R224
def PARCEL_WAIT (n : Nat) : Nat := (0xC40 + n) * 256 + 0x14   -- R224
def BITMAP_BASE (n : Nat) : Nat := (0xC40 + n) * 256 + 0x15   -- R224
def INSTANCES (n : Nat) : Nat := (0xC40 + n) * 256 + 0x16   -- R224
def FLOWS_ACTIVE (n : Nat) : Nat := (0xC40 + n) * 256 + 0x17   -- R224
def FLOWS_REFUSED (n : Nat) : Nat := (0xC40 + n) * 256 + 0x18   -- R224
def ORPHAN_RECORDS (n : Nat) : Nat := (0xC40 + n) * 256 + 0x19   -- R224
def OPS_DONE (n : Nat) : Nat := (0xC40 + n) * 256 + 0x1A   -- R224
def GRAPH_FAULT (n : Nat) : Nat := (0xC40 + n) * 256 + 0x1B   -- R224
def WINDOW_SIZE (n : Nat) : Nat := (0xC80 + n) * 256 + 0x01   -- R227
def OCCUPANCY (n : Nat) : Nat := (0xC80 + n) * 256 + 0x02   -- R227
def PEAK (n : Nat) : Nat := (0xC80 + n) * 256 + 0x03   -- R227
def WINDOW_WAITS (n : Nat) : Nat := (0xC80 + n) * 256 + 0x04   -- R227
def HELD_BYTES (n : Nat) : Nat := (0xC80 + n) * 256 + 0x05   -- R227
def RELEASED (n : Nat) : Nat := (0xC80 + n) * 256 + 0x06   -- R227
def OVM_STATE : Nat := 0xC00 * 256 + 0x01   -- R230
def STEAL_THRESHOLD : Nat := 0xC00 * 256 + 0x02   -- R230
def CROSS_STEAL : Nat := 0xC00 * 256 + 0x03   -- R230
def AGE_LIMIT : Nat := 0xC00 * 256 + 0x04   -- R230
def OP_TIMEOUT : Nat := 0xC00 * 256 + 0x05   -- R230
def STORE_USED : Nat := 0xC00 * 256 + 0x06   -- R230
def STORE_PEAK : Nat := 0xC00 * 256 + 0x07   -- R230
def AGED_OPS : Nat := 0xC00 * 256 + 0x08   -- R230
def STOLEN_OPS : Nat := 0xC00 * 256 + 0x09   -- R230
def FLOWS_FREE : Nat := 0xC00 * 256 + 0x0A   -- R230
def STREAM_DATA (n : Nat) : Nat := (0x2600 + n) * 256 + 0x01   -- R237
def STREAM_QUEUE (n : Nat) : Nat := (0x2600 + n) * 256 + 0x02   -- R237
def STREAM_CMD (n : Nat) : Nat := (0x2600 + n) * 256 + 0x03   -- R237
def STREAM_STATE (n : Nat) : Nat := (0x2600 + n) * 256 + 0x04   -- R237
def STREAM_ITEMS (n : Nat) : Nat := (0x2600 + n) * 256 + 0x05   -- R237
def Q_CMD (n : Nat) : Nat := (0xB00 + n) * 256 + 0x01   -- R243
def Q_STATE (n : Nat) : Nat := (0xB00 + n) * 256 + 0x02   -- R243
def Q_SIZE (n : Nat) : Nat := (0xB00 + n) * 256 + 0x03   -- R243
def Q_STATUS (n : Nat) : Nat := (0xB00 + n) * 256 + 0x04   -- R243
def Q_FILL (n : Nat) : Nat := (0xB00 + n) * 256 + 0x05   -- R243
def Q_PACKETS (n : Nat) : Nat := (0xB00 + n) * 256 + 0x06   -- R243
def Q_SPACE (n : Nat) : Nat := (0xB00 + n) * 256 + 0x07   -- R243
def Q_WEIR (n : Nat) : Nat := (0xB00 + n) * 256 + 0x08   -- R243
def Q_PEAK (n : Nat) : Nat := (0xB00 + n) * 256 + 0x09   -- R243
def Q_STICKY (n : Nat) : Nat := (0xB00 + n) * 256 + 0x0A   -- R243
def Q_UNDERRUNS (n : Nat) : Nat := (0xB00 + n) * 256 + 0x0B   -- R243
def Q_BINDING (n : Nat) : Nat := (0xB00 + n) * 256 + 0x0C   -- R243
def Q_POP (n : Nat) : Nat := (0xB00 + n) * 256 + 0x10   -- R243
def Q_PUSH (n : Nat) : Nat := (0xB00 + n) * 256 + 0x11   -- R243
def Q_PUSH_END (n : Nat) : Nat := (0xB00 + n) * 256 + 0x12   -- R243
def TRAM_CMD (n : Nat) : Nat := (0xA00 + n) * 256 + 0x01   -- R254
def TRAM_STATE (n : Nat) : Nat := (0xA00 + n) * 256 + 0x02   -- R254
def CHAIN_HEAD (n : Nat) : Nat := (0xA00 + n) * 256 + 0x03   -- R254
def CUR_DESC (n : Nat) : Nat := (0xA00 + n) * 256 + 0x04   -- R254
def CHAIN_STOP_AT (n : Nat) : Nat := (0xA00 + n) * 256 + 0x05   -- R254
def DESC_DONE (n : Nat) : Nat := (0xA00 + n) * 256 + 0x06   -- R254
def BYTES_DONE (n : Nat) : Nat := (0xA00 + n) * 256 + 0x07   -- R254
def TRAM_ERR (n : Nat) : Nat := (0xA00 + n) * 256 + 0x08   -- R254
def RESTARTS_IGNORED (n : Nat) : Nat := (0xA00 + n) * 256 + 0x09   -- R254
def DDR_CMD : Nat := 0x900 * 256 + 0x01   -- R262
def DDR_STATE : Nat := 0x900 * 256 + 0x02   -- R262
def DATA_RATE : Nat := 0x900 * 256 + 0x03   -- R262
def CHAN_MASK : Nat := 0x900 * 256 + 0x04   -- R262
def DEVICE_CFG : Nat := 0x900 * 256 + 0x05   -- R262
def DDR_FEATURES : Nat := 0x900 * 256 + 0x06   -- R262
def CAPACITY : Nat := 0x900 * 256 + 0x07   -- R262
def WR_HIGH : Nat := 0x900 * 256 + 0x08   -- R262
def WR_LOW : Nat := 0x900 * 256 + 0x09   -- R262
def AS_AGE : Nat := 0x900 * 256 + 0x0A   -- R262
def TR_AGE : Nat := 0x900 * 256 + 0x0B   -- R262
def CO_AGE : Nat := 0x900 * 256 + 0x0C   -- R262
def SCRUB_INTERVAL : Nat := 0x900 * 256 + 0x0D   -- R262
def PAT_AREA_BASE : Nat := 0x900 * 256 + 0x0E   -- R262
def PAT_AREA_MIB : Nat := 0x900 * 256 + 0x0F   -- R262
def SUMP_AREA_BASE : Nat := 0x900 * 256 + 0x10   -- R262
def SUMP_AREA_MIB : Nat := 0x900 * 256 + 0x11   -- R262
def SPILL_AREA_BASE : Nat := 0x900 * 256 + 0x12   -- R262
def SPILL_AREA_MIB : Nat := 0x900 * 256 + 0x13   -- R262
def OVM_AREA_BASE : Nat := 0x900 * 256 + 0x14   -- R262
def OVM_AREA_MIB : Nat := 0x900 * 256 + 0x15   -- R262
def PANIC_ASSERTS : Nat := 0x900 * 256 + 0x16   -- R262
def WRITES_LOST : Nat := 0x900 * 256 + 0x17   -- R262
def CH_STATE (n : Nat) : Nat := (0x901 + n) * 256 + 0x01   -- R263
def TRAIN_RESULT (n : Nat) : Nat := (0x901 + n) * 256 + 0x02   -- R263
def ECC_CORR (n : Nat) : Nat := (0x901 + n) * 256 + 0x03   -- R263
def ECC_UNCORR (n : Nat) : Nat := (0x901 + n) * 256 + 0x04   -- R263
def ECC_LAST_ADDR (n : Nat) : Nat := (0x901 + n) * 256 + 0x05   -- R263
def SCRUB_PASSES (n : Nat) : Nat := (0x901 + n) * 256 + 0x06   -- R263
def REF_DEBT (n : Nat) : Nat := (0x901 + n) * 256 + 0x07   -- R263
def REF_URGENT (n : Nat) : Nat := (0x901 + n) * 256 + 0x08   -- R263
def RAW_FULL (n : Nat) : Nat := (0x901 + n) * 256 + 0x09   -- R263
def RAW_PARTIAL (n : Nat) : Nat := (0x901 + n) * 256 + 0x0A   -- R263
def ALERT_RETRIES (n : Nat) : Nat := (0x901 + n) * 256 + 0x0B   -- R263
def WQ_PEAK (n : Nat) : Nat := (0x901 + n) * 256 + 0x0C   -- R263
def DRAIN_BATCHES (n : Nat) : Nat := (0x901 + n) * 256 + 0x0D   -- R263
def DRAIN_DEFERRED (n : Nat) : Nat := (0x901 + n) * 256 + 0x0E   -- R263
def PORT_BYTES (n : Nat) (i : Nat) : Nat := (0x901 + n) * 256 + (0x10 + i)   -- R263
def CHIP_STATE : Nat := 0x300 * 256 + 0x01   -- R280
def CHIP_CMD : Nat := 0x300 * 256 + 0x02   -- R280
def PRIOR_STATE : Nat := 0x300 * 256 + 0x03   -- R280
def STATE_CHANGES : Nat := 0x300 * 256 + 0x04   -- R280
def ACTIVE_SEQ : Nat := 0x300 * 256 + 0x05   -- R280
def ACTIVE_FUNCS : Nat := 0x300 * 256 + 0x06   -- R280
def OPEN_BLOCKS : Nat := 0x300 * 256 + 0x07   -- R280
def LAST_ABORT : Nat := 0x300 * 256 + 0x08   -- R280
def ABORT_COUNT : Nat := 0x300 * 256 + 0x09   -- R280
def NOTICE_SEQ : Nat := 0x300 * 256 + 0x0A   -- R280
def BCAST_DISCARDED : Nat := 0x300 * 256 + 0x0B   -- R280
def BLOCK_TIMEOUTS : Nat := 0x300 * 256 + 0x0C   -- R280
def VENDOR_ID : Nat := 0x100 * 256 + 0x01   -- R296
def DEVICE_ID : Nat := 0x100 * 256 + 0x02   -- R296
def STEPPING : Nat := 0x100 * 256 + 0x03   -- R296
def ORDER_CODE : Nat := 0x100 * 256 + 0x04   -- R296
def SERIAL : Nat := 0x100 * 256 + 0x05   -- R296
def FW_VERSION : Nat := 0x100 * 256 + 0x06   -- R296
def LINK_VERSIONS : Nat := 0x100 * 256 + 0x07   -- R296
def PATTERN_MAJORS : Nat := 0x100 * 256 + 0x08   -- R296
def GRAPH_MAJORS : Nat := 0x100 * 256 + 0x09   -- R296
def N_CHANNELS : Nat := 0x100 * 256 + 0x0A   -- R296
def N_SEQUENCERS : Nat := 0x100 * 256 + 0x0B   -- R296
def N_SITES : Nat := 0x100 * 256 + 0x0C   -- R296
def LODE_LINES_TOTAL : Nat := 0x100 * 256 + 0x0D   -- R296
def POOL_ENTRIES : Nat := 0x100 * 256 + 0x0E   -- R296
def GROUP_COUNT : Nat := 0x100 * 256 + 0x0F   -- R296
def GROUP_REV (i : Nat) : Nat := 0x101 * 256 + (0x00 + i)   -- R297
def NODE_ID : Nat := 0x200 * 256 + 0x01   -- R328
def CHAIN_LAST : Nat := 0x200 * 256 + 0x02   -- R328
def FWD_DISCARDED : Nat := 0x200 * 256 + 0x03   -- R328
def HOST_WIN_BYTES : Nat := 0x200 * 256 + 0x04   -- R328
def ENUM_REFUSED : Nat := 0x200 * 256 + 0x05   -- R328
def PORT_CMD (n : Nat) : Nat := (0x201 + n) * 256 + 0x01   -- R329
def PORT_STATE (n : Nat) : Nat := (0x201 + n) * 256 + 0x02   -- R329
def WIDTH (n : Nat) : Nat := (0x201 + n) * 256 + 0x03   -- R329
def LANES_UP (n : Nat) : Nat := (0x201 + n) * 256 + 0x04   -- R329
def LANE_RATE (n : Nat) : Nat := (0x201 + n) * 256 + 0x05   -- R329
def STAGE_TIMEOUT (n : Nat) : Nat := (0x201 + n) * 256 + 0x06   -- R329
def VERSION (n : Nat) : Nat := (0x201 + n) * 256 + 0x07   -- R329
def FEATURES (n : Nat) : Nat := (0x201 + n) * 256 + 0x08   -- R329
def PARTNER_DEVICE (n : Nat) : Nat := (0x201 + n) * 256 + 0x09   -- R329
def BACKOFFS (n : Nat) : Nat := (0x201 + n) * 256 + 0x0A   -- R329
def NEXT_BACKOFF (n : Nat) : Nat := (0x201 + n) * 256 + 0x0B   -- R329
def NARROWINGS (n : Nat) : Nat := (0x201 + n) * 256 + 0x0C   -- R329
def REJOINS (n : Nat) : Nat := (0x201 + n) * 256 + 0x0D   -- R329
def REPLAYS (n : Nat) : Nat := (0x201 + n) * 256 + 0x0E   -- R329
def CRC_ERRORS (n : Nat) : Nat := (0x201 + n) * 256 + 0x0F   -- R329
def LAST_FAIL (n : Nat) : Nat := (0x201 + n) * 256 + 0x10   -- R329
def FRAMES_TX (n : Nat) : Nat := (0x201 + n) * 256 + 0x11   -- R329
def FRAMES_RX (n : Nat) : Nat := (0x201 + n) * 256 + 0x12   -- R329
def POSTED_REFUSED (n : Nat) : Nat := (0x201 + n) * 256 + 0x13   -- R329
def FLOW_PAUSES (n : Nat) : Nat := (0x201 + n) * 256 + 0x14   -- R329
def ONE_WAY (n : Nat) : Nat := (0x210 + n) * 256 + 0x20   -- R330
def PAD (n : Nat) : Nat := (0x210 + n) * 256 + 0x21   -- R330
def TIMED_DROPS (n : Nat) : Nat := (0x210 + n) * 256 + 0x22   -- R330
def PARTNER_NODE (n : Nat) : Nat := (0x210 + n) * 256 + 0x23   -- R330
def GAL_NODE : Nat := 0x214 * 256 + 0x01   -- R330
def LANE_CMD (n : Nat) : Nat := (0x220 + n) * 256 + 0x01   -- R331
def LANE_STATE (n : Nat) : Nat := (0x220 + n) * 256 + 0x02   -- R331
def TX_TAPS (n : Nat) : Nat := (0x220 + n) * 256 + 0x03   -- R331
def LOCK_LOSSES (n : Nat) : Nat := (0x220 + n) * 256 + 0x04   -- R331
def SYNC_ERRORS (n : Nat) : Nat := (0x220 + n) * 256 + 0x05   -- R331
def SKIP_ADJUSTS (n : Nat) : Nat := (0x220 + n) * 256 + 0x06   -- R331
def PARTNER_PPM (n : Nat) : Nat := (0x220 + n) * 256 + 0x07   -- R331
def LOOP_CFG (n : Nat) : Nat := (0x220 + n) * 256 + 0x10   -- R331
def INJ_PERIOD (n : Nat) : Nat := (0x220 + n) * 256 + 0x11   -- R331
def PRBS_LOCKED (n : Nat) : Nat := (0x220 + n) * 256 + 0x12   -- R331
def PRBS_BITS (n : Nat) : Nat := (0x220 + n) * 256 + 0x13   -- R331
def PRBS_ERRORS (n : Nat) : Nat := (0x220 + n) * 256 + 0x14   -- R331
def INJECTED (n : Nat) : Nat := (0x220 + n) * 256 + 0x15   -- R331
def EYE_CFG (n : Nat) : Nat := (0x220 + n) * 256 + 0x20   -- R331
def EYE_DWELL (n : Nat) : Nat := (0x220 + n) * 256 + 0x21   -- R331
def EYE_THRESH (n : Nat) : Nat := (0x220 + n) * 256 + 0x22   -- R331
def EYE_STATE (n : Nat) : Nat := (0x220 + n) * 256 + 0x23   -- R331
def EYE_BITS (n : Nat) : Nat := (0x220 + n) * 256 + 0x24   -- R331
def EYE_ERRS (n : Nat) : Nat := (0x220 + n) * 256 + 0x25   -- R331
def EYE_LO (n : Nat) : Nat := (0x220 + n) * 256 + 0x26   -- R331
def EYE_HI (n : Nat) : Nat := (0x220 + n) * 256 + 0x27   -- R331
def TB_CMD (n : Nat) : Nat := (0x401 + n) * 256 + 0x01   -- R338
def TB_STATE (n : Nat) : Nat := (0x401 + n) * 256 + 0x02   -- R338
def TB_NOW (n : Nat) : Nat := (0x401 + n) * 256 + 0x03   -- R338
def TB_STATUS (n : Nat) : Nat := (0x401 + n) * 256 + 0x04   -- R338
def TB_DOMAIN (n : Nat) : Nat := (0x401 + n) * 256 + 0x05   -- R338
def INIT_MODE (n : Nat) : Nat := (0x401 + n) * 256 + 0x06   -- R338
def INIT_VALUE (n : Nat) : Nat := (0x401 + n) * 256 + 0x07   -- R338
def RATE (n : Nat) : Nat := (0x401 + n) * 256 + 0x08   -- R338
def SERVO_MODE (n : Nat) : Nat := (0x401 + n) * 256 + 0x09   -- R338
def KP_SHIFT (n : Nat) : Nat := (0x401 + n) * 256 + 0x0A   -- R338
def KI_SHIFT (n : Nat) : Nat := (0x401 + n) * 256 + 0x0B   -- R338
def DREQ_PERIOD (n : Nat) : Nat := (0x401 + n) * 256 + 0x0C   -- R338
def PATH_ASYM (n : Nat) : Nat := (0x401 + n) * 256 + 0x0D   -- R338
def LOCK_WINDOW (n : Nat) : Nat := (0x401 + n) * 256 + 0x0E   -- R338
def LAST_OFFSET (n : Nat) : Nat := (0x401 + n) * 256 + 0x0F   -- R338
def MEAN_PATH (n : Nat) : Nat := (0x401 + n) * 256 + 0x10   -- R338
def EXCHANGES (n : Nat) : Nat := (0x401 + n) * 256 + 0x11   -- R338
def STEP_BEFORE (n : Nat) : Nat := (0x401 + n) * 256 + 0x12   -- R338
def STEP_AFTER (n : Nat) : Nat := (0x401 + n) * 256 + 0x13   -- R338
def TIME_DISCARDS (n : Nat) : Nat := (0x401 + n) * 256 + 0x14   -- R338
def TB1_TICKS : Nat := 0x402 * 256 + 0x20   -- R339
def TB1_NOW : Nat := 0x402 * 256 + 0x21   -- R339
def TS_MARK : Nat := 0x400 * 256 + 0x01   -- R348
def TSQ_COUNT : Nat := 0x400 * 256 + 0x02   -- R348
def TSQ_HEAD : Nat := 0x400 * 256 + 0x03   -- R348
def TSQ_STAMP : Nat := 0x400 * 256 + 0x04   -- R348
def TSQ_POP : Nat := 0x400 * 256 + 0x05   -- R348
def TSQ_FLAGS : Nat := 0x400 * 256 + 0x06   -- R348
def TSQ_DROPPED : Nat := 0x400 * 256 + 0x07   -- R348
def RX_MARK : Nat := 0x400 * 256 + 0x08   -- R348
def RX_MARK_STAMP : Nat := 0x400 * 256 + 0x09   -- R348
def RES_MISSES : Nat := 0x400 * 256 + 0x0A   -- R348
def ALM_CMD (n : Nat) : Nat := (0x440 + n) * 256 + 0x01   -- R350
def ALM_STATE (n : Nat) : Nat := (0x440 + n) * 256 + 0x02   -- R350
def ALM_BASE (n : Nat) : Nat := (0x440 + n) * 256 + 0x03   -- R350
def ALM_TIME (n : Nat) : Nat := (0x440 + n) * 256 + 0x04   -- R350
def ALM_PERIOD (n : Nat) : Nat := (0x440 + n) * 256 + 0x05   -- R350
def ALM_ACTION (n : Nat) : Nat := (0x440 + n) * 256 + 0x06   -- R350
def ALM_SEQ_MASK (n : Nat) : Nat := (0x440 + n) * 256 + 0x07   -- R350
def ALM_TRIG_MASK (n : Nat) : Nat := (0x440 + n) * 256 + 0x08   -- R350
def ALM_TRIG_WIDTH (n : Nat) : Nat := (0x440 + n) * 256 + 0x09   -- R350
def ALM_ADC_MASK (n : Nat) : Nat := (0x440 + n) * 256 + 0x0A   -- R350
def ALM_FIRES (n : Nat) : Nat := (0x440 + n) * 256 + 0x0B   -- R350
def ALM_SKIPPED (n : Nat) : Nat := (0x440 + n) * 256 + 0x0C   -- R350
def ALM_LAST (n : Nat) : Nat := (0x440 + n) * 256 + 0x0D   -- R350
def WND_CMD : Nat := 0x740 * 256 + 0x01   -- R363
def WND_STATE : Nat := 0x740 * 256 + 0x02   -- R363
def WND_ROUTINE : Nat := 0x740 * 256 + 0x03   -- R363
def WND_ARG : Nat := 0x740 * 256 + 0x04   -- R363
def WND_STATUS : Nat := 0x740 * 256 + 0x05   -- R363
def WND_FAIL : Nat := 0x740 * 256 + 0x06   -- R363
def WND_RUNS : Nat := 0x740 * 256 + 0x07   -- R363
def THERM_EN : Nat := 0x740 * 256 + 0x08   -- R363
def THERM_PERIOD : Nat := 0x740 * 256 + 0x09   -- R363
def THERM_COEFF : Nat := 0x740 * 256 + 0x0A   -- R363
def THERM_DEFERRED : Nat := 0x740 * 256 + 0x0B   -- R363
def SHAFT_TEMP (i : Nat) : Nat := 0x740 * 256 + (0x0C + i)   -- R363
def CAL_TARGET : Nat := 0x740 * 256 + 0x10   -- R363
def SAFE_GAP_MAX : Nat := 0x740 * 256 + 0x11   -- R363
def PD_CMD (n : Nat) : Nat := (0x500 + n) * 256 + 0x01   -- R377
def PD_STATE (n : Nat) : Nat := (0x500 + n) * 256 + 0x02   -- R377
def PD_SWITCHES (n : Nat) : Nat := (0x500 + n) * 256 + 0x03   -- R377
def PD_RAMP_LIMIT (n : Nat) : Nat := (0x500 + n) * 256 + 0x04   -- R377
def ADC_CMD : Nat := 0x541 * 256 + 0x01   -- R381
def ADC_BUSY : Nat := 0x541 * 256 + 0x02   -- R381
def ADC_VALUE (i : Nat) : Nat := 0x541 * 256 + (0x10 + i)   -- R381
def SHED_LEVEL : Nat := 0x540 * 256 + 0x01   -- R382
def SHED_PEAK : Nat := 0x540 * 256 + 0x02   -- R382
def SHED_CAUSE : Nat := 0x540 * 256 + 0x03   -- R382
def SHED_THR : Nat := 0x540 * 256 + 0x04   -- R382
def SHED_FILTER : Nat := 0x540 * 256 + 0x05   -- R382
def PWN_LEVEL : Nat := 0x540 * 256 + 0x06   -- R382
def SHED_MON_MASK : Nat := 0x540 * 256 + 0x07   -- R382
def SHED_RISES : Nat := 0x540 * 256 + 0x08   -- R382
def PMB_KHZ (n : Nat) : Nat := (0x570 + n) * 256 + 0x01   -- R387
def PMB_PEC (n : Nat) : Nat := (0x570 + n) * 256 + 0x02   -- R387
def PMB_NACKS (n : Nat) : Nat := (0x570 + n) * 256 + 0x03   -- R387
def PMB_ALERTS (n : Nat) : Nat := (0x570 + n) * 256 + 0x04   -- R387
def RAIL_CFG (n : Nat) : Nat := (0x550 + n) * 256 + 0x01   -- R387
def RAIL_CMD (n : Nat) : Nat := (0x550 + n) * 256 + 0x02   -- R387
def RAIL_MV (n : Nat) : Nat := (0x550 + n) * 256 + 0x03   -- R387
def RAIL_VOUT (n : Nat) : Nat := (0x550 + n) * 256 + 0x04   -- R387
def RAIL_IOUT (n : Nat) : Nat := (0x550 + n) * 256 + 0x05   -- R387
def RAIL_STATUS (n : Nat) : Nat := (0x550 + n) * 256 + 0x06   -- R387
def RAIL_STATE (n : Nat) : Nat := (0x550 + n) * 256 + 0x07   -- R387
def SSQ_STEP (n : Nat) (i : Nat) : Nat := (0x580 + n) * 256 + (0x01 + i)   -- R388
def SSQ_CMD (n : Nat) : Nat := (0x580 + n) * 256 + 0x11   -- R388
def SSQ_STATE (n : Nat) : Nat := (0x580 + n) * 256 + 0x12   -- R388
def SSQ_RUNS (n : Nat) : Nat := (0x580 + n) * 256 + 0x13   -- R388
def SPI_KHZ (n : Nat) : Nat := (0xD00 + n) * 256 + 0x01   -- R390
def SPI_MODE (n : Nat) : Nat := (0xD00 + n) * 256 + 0x02   -- R390
def SPI_XFER (n : Nat) : Nat := (0xD00 + n) * 256 + 0x03   -- R390
def WL_CMD (n : Nat) : Nat := (0xD10 + n) * 256 + 0x01   -- R390
def WL_STATE (n : Nat) : Nat := (0xD10 + n) * 256 + 0x02   -- R390
def WL_TRIG (n : Nat) : Nat := (0xD10 + n) * 256 + 0x03   -- R390
def WL_RUNS (n : Nat) : Nat := (0xD10 + n) * 256 + 0x04   -- R390
def WL_MISSED (n : Nat) : Nat := (0xD10 + n) * 256 + 0x05   -- R390
def WL_ENTRY (n : Nat) (i : Nat) : Nat := (0xD10 + n) * 256 + (0x10 + i)   -- R390
def BOOT_CMD : Nat := 0x700 * 256 + 0x01   -- R396
def BOOT_STATUS : Nat := 0x700 * 256 + 0x02   -- R396
def RESET_CAUSE : Nat := 0x700 * 256 + 0x03   -- R396
def ROLLBACK_FUSE : Nat := 0x700 * 256 + 0x04   -- R396
def IMAGE_ROLLBACK : Nat := 0x700 * 256 + 0x05   -- R396
def KEY_REVOKED : Nat := 0x700 * 256 + 0x06   -- R396
def BOOT_TIME : Nat := 0x700 * 256 + 0x07   -- R396
def FLASH_JEDEC_ID : Nat := 0x700 * 256 + 0x08   -- R396
def FW_IMAGE : Nat := 0x2700 * 256 + 0x01   -- R396
def FLASH_IMAGE : Nat := 0x2701 * 256 + 0x01   -- R396
def FLASH_WRITES : Nat := 0x2701 * 256 + 0x02   -- R396
def FAULT_CLEAR : Nat := 0x600 * 256 + 0x01   -- R405
def FAULT_SELECT : Nat := 0x600 * 256 + 0x02   -- R405
def FAULT_LATCHED : Nat := 0x600 * 256 + 0x03   -- R405
def FAULT_PRESENT : Nat := 0x600 * 256 + 0x04   -- R405
def LATCHED_INSTANCES : Nat := 0x600 * 256 + 0x05   -- R405
def FLOG_CMD : Nat := 0x600 * 256 + 0x06   -- R405
def FLOG_TOTAL : Nat := 0x600 * 256 + 0x07   -- R405
def NOTICE_DROPS : Nat := 0x600 * 256 + 0x08   -- R405
def ROUTE_DROPS : Nat := 0x600 * 256 + 0x09   -- R405
def EVT_CLUSTER_Q (i : Nat) : Nat := 0x600 * 256 + (0x0A + i)   -- R405
def CANARY_HZ : Nat := 0x600 * 256 + 0x0E   -- R405
def CANARY_STATE : Nat := 0x600 * 256 + 0x0F   -- R405
def CANARY_STOP_CAUSE : Nat := 0x600 * 256 + 0x10   -- R405
def WDT_TIMEOUT : Nat := 0x600 * 256 + 0x11   -- R405
def WDT_RESTARTS : Nat := 0x600 * 256 + 0x12   -- R405
def FAULT_REACT (i : Nat) : Nat := 0x601 * 256 + (0x00 + i)   -- R406
def FAULT_COUNT (i : Nat) : Nat := 0x602 * 256 + (0x00 + i)   -- R406
def FAULT_LOG : Nat := 0x603 * 256 + 0x01   -- R406
def EVT_STATUS (i : Nat) : Nat := 0x610 * 256 + (0x01 + i)   -- R409
def EVT_ENABLE (i : Nat) : Nat := 0x610 * 256 + (0x11 + i)   -- R409
def BIST_CMD : Nat := 0x800 * 256 + 0x01   -- R417
def BIST_STATE : Nat := 0x800 * 256 + 0x02   -- R417
def BIST_TARGET : Nat := 0x800 * 256 + 0x03   -- R417
def BIST_RESULT : Nat := 0x800 * 256 + 0x04   -- R417
def LOGIC_SIG : Nat := 0x800 * 256 + 0x05   -- R417
def LOGIC_EXP : Nat := 0x800 * 256 + 0x06   -- R417
def MEM_SIG : Nat := 0x800 * 256 + 0x07   -- R417
def MEM_EXP : Nat := 0x800 * 256 + 0x08   -- R417
def MEM_FAIL_ADDR : Nat := 0x800 * 256 + 0x09   -- R417
def CHAN_FAILS : Nat := 0x800 * 256 + 0x0A   -- R417
def DOMAIN_FAILED : Nat := 0x800 * 256 + 0x0B   -- R417
def UNIT_FAILED : Nat := 0x800 * 256 + 0x0C   -- R417
def BIST_RUNS : Nat := 0x800 * 256 + 0x0D   -- R417
def BIST_FAILS : Nat := 0x800 * 256 + 0x0E   -- R417
def EVT_ROUTE (e : Nat) : Nat := 0x62000 + 0x100 * (e / 128) + (e % 128 + 1)   -- R409
def EVT_COUNT (e : Nat) : Nat := 0x63000 + 0x100 * (e / 128) + (e % 128 + 1)   -- R409

end Sys2Proof.Machine.K
end

