-- ==== Sys2Proof/Machine/PathState.lean ====
section
/-! DEFINITION. The state of the pattern path that is not an object of the dictionary: decompressor and code buffers,
refill windows, sequencer runs and what they have in flight, channel outputs, site runs, Hewers, Assay units, Dowser
engines and TMUs. Every type here is plain data. -/

namespace Sys2Proof.Machine

/-- A run of equal granules in a slice's code buffer (R18): 512 bits of codes in the LIT layout (R31), the segment
start (counted from the run's start) and iteration they belong to, the first granule index and how many; `err` is the
park cause the granules carry (R34, R39; 0 none). -/
structure Gran where
  seg   : Nat
  iter  : Nat
  g     : Nat
  n     : Nat
  codes : Nat
  err   : Nat
  deriving DecidableEq, Repr

/-- The decompressor's place in one sub-stream (R31 to R36): entry copy, iteration, next granule, bit position, the
sub-stream's first line, head and total length in lines, the window it streams through (R44) with the window count of
its first streamed line, and the previous block (R32). -/
structure Expander where
  seg   : Nat
  idx   : Nat
  entry : Nat
  iter  : Nat
  g     : Nat
  pos   : Nat
  line  : Nat
  head  : Nat
  lines : Nat
  win   : Option Nat
  wbase : Nat
  prev  : Option Nat
  dead  : Bool
  deriving DecidableEq, Repr

/-- One slice: the expander and code buffer of a sequencer in a seam (R9, R18), with the second code buffer of a
fast-resolve sequencer (R83), the lowest fill since arm, and whether an error or starvation has parked its sites. -/
structure Slice where
  seam : Nat
  exp  : Option Expander := none
  buf  : List Gran := []
  alt  : Option Expander := none
  abuf : List Gran := []
  low  : Nat := 0xFF
  bad  : Bool := false
  deriving DecidableEq, Repr

/-- What the refill engine has still to fetch for one sub-stream (R45): segment start, next DDR4 byte address, lines
left, the window count at which its lines begin, and its seam. -/
structure Fetch where
  seg   : Nat
  addr  : Nat
  left  : Nat
  wbase : Nat
  seam  : Nat
  deriving DecidableEq, Repr

/-- One refill window of a sequencer beyond its WIN_STAT object (R46, R47): lines written and read since arm, and the
sub-streams still to fetch. -/
structure Window where
  wr    : Nat := 0
  rd    : Nat := 0
  queue : List Fetch := []
  deriving DecidableEq, Repr

/-- A segment that is committed: its ordinal (segment start number), entry index and copy (R57), the copies of its
directory entries or descriptor lines by seam (R45), the timing sets its start will take (R123), by seam the window
count at which its streamed lines begin, and the seams whose directory entry or descriptor was read with an uncorrectable
error (R37, R39). -/
structure Commit where
  seg  : Nat
  idx  : Nat
  raw  : Nat
  subs : List (Nat × Nat)
  sets : Nat
  wb   : List (Nat × Nat)
  bad  : List Nat := []
  deriving DecidableEq, Repr

/-- What follows the iteration being issued, once its decision point has passed (R64). -/
inductive NextSeg where
  | again
  | seg (c : Commit)
  | exhaust
  | halt
  deriving DecidableEq, Repr

/-- The result of one channel in one VP (R153 to R156): the state sampled (0 L, 1 H, 2 M, 3 INVALID), whether the code
is judged, whether it passes, whether an INVALID state was seen, and whether it is captured. -/
structure Res where
  chan   : Nat
  st     : Nat
  judged : Bool
  pass   : Bool
  inval  : Bool
  deriving DecidableEq, Repr

/-- An issued VP whose result has not retired (R21): cycle, segment start, entry index and copy, iteration, whether it is
the segment's first or the iteration's last VP, its vector start, the TRIG_IN levels ([7:0]) and asserted TBUS lines
([15:8]) 40 ns before it (R185), its results, the logical addresses by Hewer (R150), and TB0 at its vector start (R189). -/
structure InFlight where
  cycle : Nat
  seg   : Nat
  idx   : Nat
  raw   : Nat
  iter  : Nat
  first : Bool
  last  : Bool
  t     : Int
  lines : Nat
  res   : List Res
  addr  : List (Nat × Nat)
  tb0   : Nat := 0
  deriving DecidableEq, Repr

/-- A condition value of another bond member (R97), matched at its receipt to an iteration of the own run: its segment
start and iteration. -/
structure BondValue where
  member : Nat
  seg    : Nat
  iter   : Nat
  value  : Bool
  deriving DecidableEq, Repr

/-- Another member of a bond group as its frames show it (R94, R325): its state, RL and the hops its membership frame has
crossed. -/
structure Peer where
  state : Nat := 0
  rl    : Nat := 0
  hops  : Nat := 0
  deriving DecidableEq, Repr

/-- A sequencer between arm and stop (R73): the gang and the active sites, the run's position, and all that the run
holds beyond the sequencer's objects. `drain` and `stopReq`: 0 none, 1 PAUSE, 2 HALT, 3 no site, 4 STOP, 5 fault. -/
structure SeqRun where
  startTick : Option Nat := none        -- start or resume instant awaited (R74)
  gang      : List (Nat × Nat) := []    -- (channel, site), ascending channel
  sites     : List Nat := []            -- sites ACTIVE at the start, ascending
  cur       : Option Commit := none     -- segment being issued
  nseg      : Nat := 0                  -- segment starts committed so far
  iter      : Nat := 0
  off       : Nat := 0                  -- VPs of the iteration already issued
  next      : Option NextSeg := none
  t         : Int := 0                  -- T of the next VP, in 1/256 ps (R103)
  lastP     : Nat := 0                  -- period of the last VP, 0 before the first (R104)
  slots     : Nat := 0                  -- VPs issued since the start
  holdThen  : Option Commit := none     -- what a dead time or fence precedes
  holdLeft  : Nat := 0
  fenced    : Bool := false             -- the fence of the next segment has been held
  stack     : List Nat := []
  flight    : List InFlight := []
  drain     : Nat := 0
  stopReq   : Nat := 0
  pauseReq  : Bool := false             -- PAUSE accepted, no decision point reached yet
  pauseDue  : Bool := false             -- PAUSE takes effect at this iteration's end
  resolved  : Option (Nat × Nat) := none   -- segment start and deciding iteration of a resolved exit
  squashAfter : Option Nat := none         -- fast-resolve: VPs after this one are squashed (R24)
  fast      : Option Commit := none     -- fast-resolve exit due at the next boundary
  altSeg    : Option Commit := none     -- JUMP successor expanded in advance (R83)
  arrivals  : Nat := 0                  -- jump requests on their way (R84)
  takenPend : Bool := false             -- EXTJ_TAKEN to be recorded at the next segment start
  squashed  : Nat := 0
  parked    : Nat := 0                  -- class S kinds that parked a site in this run (R403)
  bond      : List BondValue := []
  own       : List (Nat × Nat × Bool) := []  -- segment starts and iterations whose local value has been sent, and it (R97)
  lateTick  : Option Nat := none        -- TB1 tick of a stop notice acted on (R98)
  endTick   : Option Nat := none        -- TB1 tick at which issue ended (R98, R325)
  vacant    : Option Nat := none        -- segment start that ended because no site was ACTIVE (R92)
  deriving DecidableEq, Repr

/-- One edge a channel's output made in its last VP: output (0 DRV, 1 DEN, 2 STB1 and 3 STB2 of CMPH, 4 STB1 and 5 STB2
of CMPL), time in 1/256 ps, and the level it goes to. -/
structure PinEdge where
  out   : Nat
  t     : Int
  level : Bool
  deriving DecidableEq, Repr

/-- The outputs of one pin channel (R29, R113, R114, R117): drive level and driver state of the code stream, the levels
of DRV and DEN, the last edge of each output, the edges of the last VP, and the six offsets latched (R121). -/
structure ChanOut where
  lvl   : Bool := false
  on    : Bool := false
  drv   : Bool := false
  den   : Bool := false
  park  : Bool := false
  last  : List (Nat × Int) := []
  edges : List PinEdge := []
  offs  : List Int := []
  deriving DecidableEq, Repr

/-- One site of a running sequencer beyond its objects: first cycle in the park state, first cycle whose results are
discarded, match of the current MATCH segment (segment start, iteration), the last iteration (segment start, iteration) a
mismatch and a fail were seen in, next RSEQ, waiting START and END records (R171), event causes raised in the run (R161), a host command waiting
for a boundary (R91: bit 0 PARK, bit 1 MASK), and a policy park waiting for one (R90). -/
structure SiteRun where
  parkAt   : Option Nat := none
  discFrom : Option Nat := none
  matched  : Option (Nat × Nat) := none
  mism     : Option (Nat × Nat) := none
  failed   : Option (Nat × Nat) := none
  rseq     : Nat := 0
  started  : Bool := false
  evts     : Nat := 0
  cmd      : Nat := 0
  parkDue  : Nat := 0
  deriving DecidableEq, Repr

/-- A fail-log record on its way to a Tarn queue: queue, site, raw 256 bits, whether it is a START (3) or END (4) by its
kind, and whether it stands in the reserve of the staging buffer (R171). -/
structure LogRec where
  queue : Nat
  site  : Nat
  raw   : Nat
  kind  : Nat
  resv  : Bool
  deriving DecidableEq, Repr

/-- The staging buffer of a shaft (R170) and the records waiting in its home block (R171), in generation order. -/
structure Staging where
  recs : List LogRec := []
  wait : List LogRec := []
  deriving DecidableEq, Repr

/-- One operation in a Hewer's queue (R137): vector, page, logical Z, Y, X in [55:0], flags, granules it still covers and
whether its first granule has been merged. Page 4 stands for granules that no operation covers; span 0 for a marker
(R148). -/
structure HewOp where
  vec   : Nat
  page  : Nat
  addr  : Nat
  flags : Nat
  span  : Nat
  begun : Bool
  deriving DecidableEq, Repr

/-- A Hewer's program context (R139): program counter, registers X Y Z XMAX YMAX ZMAX C0 to C3 as a list, backgrounds,
LFSR, flags, call stack, its queue, whether it still executes, whether it waits at a WSEG; for the pace of R147 the
instructions executed, granules still before the segment it counts from, granules consumed of it, and the lead; and a
START (with its HEW_PC) or STOP taken at a commit, with the granules before it that the program has still to cover. -/
structure HewCtx where
  pc      : Nat := 0
  regs    : List Nat := [0, 0, 0, 0, 0, 0, 0, 0, 0, 0]
  bg0     : Nat := 0
  bg1     : Nat := 0
  lfsr    : Nat := 1
  flags   : Nat := 0
  stack   : List Nat := []
  queue   : List HewOp := []
  run     : Bool := false
  waiting : Bool := false
  count   : Nat := 0
  before  : Nat := 0
  grans   : Nat := 0
  lead    : Nat := 8
  pend    : Option (Option Nat × Nat) := none
  deriving DecidableEq, Repr

/-- A Hewer: its context, the standby context of a fast-resolve successor (R149), the operation covering the granule
being issued, and the flags of the last marker (R148). -/
structure Hewer where
  main  : HewCtx := {}
  stand : Option HewCtx := none
  cover : Option HewOp := none
  mark  : Nat := 0
  deriving DecidableEq, Repr

/-- One Assay sample (R177 to R180): CYCLE of its VP, entry values as 2-bit fields, mask of the entries whose result was
discarded, whether the VP belongs to a MATCH segment. -/
structure AsySample where
  cycle : Nat
  vals  : Nat
  disc  : Nat
  mseg  : Bool
  deriving DecidableEq, Repr

/-- An Assay unit beyond its objects (R183 to R196): the pre-trigger ring, oldest first, and the samples taken since it
was emptied; the post-trigger samples of the record being captured, oldest first; what triggered it; events waiting
for their VP (the first cycle they map to); a FORCE waiting for a sample; the qualifier count; re-arm samples left;
mask violations; bytes evicted in order, raw and bitmap bytes of the current record evicted ahead of its close, ranges
evicted that way; and the captured state each entry holds. -/
structure Assay where
  ring     : List AsySample := []
  ringCnt  : Nat := 0
  post     : List AsySample := []
  trigKind : Nat := 0
  trigSel  : Nat := 0
  forced   : Bool := false
  trigTb0  : Nat := 0
  trigTb1  : Nat := 0
  trigCyc  : Nat := 0
  events   : List Nat := []
  force    : Bool := false
  qual     : Nat := 0
  rearm    : Nat := 0
  missedEv : Bool := false
  viol     : Nat := 0
  firstV   : Nat := 0xFFFFFFFF
  evicted  : Nat := 0
  evCur    : Nat := 0
  evMap    : Nat := 0
  skip     : List (Nat × Nat) := []
  lastCap  : Nat := 0
  deriving DecidableEq, Repr

/-- One listed channel of a Dowser search (R205): the open interval, results at its ends, the value in force, phase,
steps used, and whether its search has ended with which status. -/
structure DwsChan where
  chan   : Nat
  a      : Nat := 0
  b      : Nat := 0
  ra     : Option Bool := none
  rb     : Option Bool := none
  rc     : Option Bool := none
  value  : Nat := 0
  phase  : Nat := 0
  va     : Nat := 0
  vb     : Nat := 0
  used   : Nat := 0
  status : Option Nat := none
  pol    : Bool := false
  judged : Bool := false
  failed : Bool := false
  tmean  : Nat := 0
  tspread : Nat := 0
  tvalid : Bool := false
  deriving DecidableEq, Repr

/-- A Dowser engine beyond its objects (R202 to R210): the sequencer and the set claimed at START, the listed channels, the
row, whether the step is sealed, the segment start whose pass is measured with its last cycle (2^48 while it is not known) and the
first cycle of its settle segment once it has begun,
the START values of the set, the records made so far, and START values (sequencer, set, objects) still to be sealed once
their set is not. -/
structure Dowser where
  seq     : Nat := 0
  tset    : Nat := 0
  chans   : List DwsChan := []
  row     : Nat := 0
  sealPend : Bool := false      -- a step (or the final values) waits to be sealed
  isSealed  : Bool := false     -- the engine's seal waits for a hand-over
  measuring : Option Nat := none  -- segment start of the measured pass
  lastCycle : Nat := 2 ^ 48
  settled : Option Nat := none
  orig    : List (Nat × Nat) := []  -- object key and START value
  records : List Nat := []
  final   : Bool := false
  pend    : List (Nat × Nat × List (Nat × Nat)) := []
  deriving DecidableEq, Repr

/-- A TMU beyond its objects (R128): samples taken and sums for the figures, in 0.25 ps units, and who holds it
(0 nobody, 2 a Winder routine, 3 + d a Dowser engine), and whether the run under way is the holder's. -/
structure Tmu where
  sum   : Nat := 0
  sumsq : Nat := 0
  holder : Nat := 0
  mine   : Bool := false
  deriving DecidableEq, Repr

/-- A Tarn queue beyond its objects (R239 to R241): draining and filling bank (word, end mark), words with a credit that
wait at the write port for the filling bank (R246), which bank drains, and the last value popped with its end mark. -/
structure Tarn where
  drain   : List (Nat × Bool) := []
  fill    : List (Nat × Bool) := []
  port    : List (Nat × Bool) := []
  bank    : Nat := 0
  lastPop : Nat := 0
  lastEnd : Bool := false
  deriving DecidableEq, Repr

end Sys2Proof.Machine
end

