-- ==== Sys2Proof/Machine/FabricState.lean ====
section
/-! DEFINITION. The state of the fabric functions that is not an object: Overman with its graphs, instances and
operations (R212 to R234), Tram channels (R249 to R256) and the DDR4 controller's queues (R257 to R272). -/

namespace Sys2Proof.Machine

/-- A node of a graph (R216), its parameters decoded as U32 values (R219). -/
structure Node where
  op     : Nat
  inp    : Nat
  out    : Nat
  succ0  : Nat
  succ1  : Nat
  params : List Nat
  deriving DecidableEq, Repr

/-- An item a node produced (R235): kind, node, INCOMPLETE, payload in 64-bit words. -/
structure Item where
  kind    : Nat
  node    : Nat
  incompl : Bool
  words   : List Nat
  deriving DecidableEq, Repr

/-- A parcel: input data (fail records as 256-bit values, or 64-bit words) or items of a predecessor (R217). -/
structure Parcel where
  data  : List Nat
  items : List Item
  last  : Bool
  deriving DecidableEq, Repr

/-- What one node of an instance keeps between its parcels (R219): distinct failing cells, FAIL and MATCH_TIMEOUT records
and records without an address counted, records kept, the first FAIL record and the first FAIL or MATCH_TIMEOUT record,
the START record's tick, the END record, items of its inputs, whether it has begun, and whether its final parcel is
done. -/
structure NodeAcc where
  cells    : Nat := 0
  noaddr   : Nat := 0
  fails    : Nat := 0
  timeouts : Nat := 0
  kept     : List Nat := []
  first    : Option Nat := none
  firstFail : Option Nat := none
  startTb1 : Nat := 0
  endRec   : Option Nat := none
  begun    : Bool := false
  done     : Bool := false
  deriving DecidableEq, Repr

/-- An instance in a graph (R218, R227): its flow, key, sequence number and window entry; expected RSEQ and gaps seen;
whether its END carried INCOMPLETE, has been taken, and when; the open parcel of a FAILLOG input; parcels waiting at first
and second inputs of nodes; what nodes keep; nodes with an operation; items held for release (output, words). -/
structure Inst where
  id      : Nat
  input   : Nat
  key     : Nat
  flow    : Nat
  seq     : Nat
  entry   : Nat
  nextR   : Nat := 0
  gaps    : Nat := 0
  endInc  : Bool := false
  ended   : Bool := false
  endTb0  : Nat := 0
  openP   : List Nat := []
  first   : List (Nat × Parcel) := []
  second  : List (Nat × Parcel) := []
  acc     : Table NodeAcc := []
  busy    : List Nat := []
  held    : List (Nat × List Nat) := []
  deriving DecidableEq, Repr

/-- An item on its way to an output queue (R228): output, the words still to write, the Collier whose operation writes it
(none: the release store), and whether some of its words are written. -/
structure OutItem where
  out   : Nat
  words : List Nat
  by_   : Option Nat := none
  begun : Bool := false
  head  : Nat := 2
  deriving DecidableEq, Repr

/-- A flow context (R218): input, key, next sequence number, home Collier. -/
structure Flow where
  id    : Nat
  input : Nat
  key   : Nat
  nextS : Nat
  home  : Option Nat
  deriving DecidableEq, Repr

/-- A started graph (R225): nodes, cluster memory, whether draining, open instances oldest first, flows, instances made,
alarm firings waiting at an input (input, match time), inputs whose admission waits for an entry (R227), items waiting
for their output queue (R228), and keys (input, key) of a refused instance whose records are discarded (R218). -/
structure Graph where
  nodes   : List Node := []
  cmem    : Nat := 0
  drain   : Bool := false
  insts   : List Inst := []
  flows   : List Flow := []
  nextI   : Nat := 0
  alarms  : List (Nat × Nat) := []
  outq    : List OutItem := []
  waits   : List Nat := []
  refused : List (Nat × Nat) := []
  deriving DecidableEq, Repr

/-- An operation (R217, R231): graph, instance, node, parcel; the Collier it is placed on; urgent; bytes of the release
store reserved (R229); and what it produced, while its items wait for their output queues (R228). Operations are numbered
in the order they became ready. -/
structure Op where
  id     : Nat
  graph  : Nat
  inst   : Nat
  node   : Nat
  parcel : Parcel
  second : List Item
  on     : Nat
  urgent : Bool
  resv   : Nat
  result : Option (List Item × NodeAcc) := none
  deriving DecidableEq, Repr

/-- Overman beyond its objects: graphs by number, ready operations oldest first, the operation each Collier runs, the
next operation number, class entries in use, classes that have waited for an entry since a START of one of their graphs
(R233), and whether STORE_FULL has been raised since STORE_PEAK was read. -/
structure Overman where
  graphs  : Table Graph := []
  ready   : List Op := []
  running : Table Op := []
  nextOp  : Nat := 0
  entries : Table (List Nat) := []
  waited  : List Nat := []
  fullEv  : Bool := false
  deriving DecidableEq, Repr

/-- A Tram channel beyond its objects (R249 to R256): the descriptor in hand (raw, address), the address of the next
descriptor to fetch, elements of the descriptor already moved, whether a RESTART is pending, and whether the re-reading of
the old tail waits for DDR4 (R256, R265). -/
structure Tram where
  desc    : Option (Nat × Nat) := none
  next    : Option Nat := none
  moved   : Nat := 0
  restart : Bool := false
  reread  : Bool := false
  deriving DecidableEq, Repr

/-- One 64-byte burst at a port or in a queue (R267): port (0 RT, 1 FL, 2 AS, 3 TR, 4 CO, 5 scrub), address, write, byte
enables, urgent, its number in the order of admission, the first byte and the bytes of a write, whether a read's
uncorrectable outcome has been acted on by its reader already (R271), who reads (TR: channel + 1; CO: 1 + 1,024 × graph +
node; 0: none), and the Lode lines an RT read fills. -/
structure Burst where
  port   : Nat
  addr   : Nat
  write  : Bool
  be     : Nat
  urgent : Bool := false
  no     : Nat := 0
  first  : Nat := 0
  data   : List Byte := []
  seen   : Bool := false
  src    : Nat := 0
  lines  : List Nat := []
  deriving DecidableEq, Repr

/-- One DDR4 channel beyond its objects: bursts waiting at the ports, read and write queues oldest first, drain mode,
whose turn it is between CO and TR (true TR), consecutive row hits passed, open rows by (rank, bank group, bank),
scrub position in bursts, and bursts admitted. -/
structure DdrChan where
  ports  : List Burst := []
  rq     : List Burst := []
  wq     : List Burst := []
  drain  : Bool := false
  trTurn : Bool := false
  hits   : Nat := 0
  rows   : Table Nat := []
  scrub  : Nat := 0
  nextNo : Nat := 0
  deriving DecidableEq, Repr

end Sys2Proof.Machine
end

