-- ==== Sys2Proof/Machine/LinkState.lean ====
section
/-! DEFINITION. The state of the serial ports and lanes (R300 to R334), of the time exchange (R340 to R349) and of the
boundary-scan port (R424) that is not an object of the dictionary. -/

namespace Sys2Proof.Machine

/-- A port beyond its objects. Lane masks count within the port: lanes that detected a receiver, lanes whose receiver has
adapted here and at the partner, lanes locked and deskewed. `retrain`: TRAIN was entered from ACTIVE (R305). Sequenced
frames: the last FSEQ sent and the last received in order, those not yet acknowledged, own payloads waiting to be sent with
their KIND, frames to be forwarded, consecutive resends of the oldest frame (R315). The partner's credit limits with the
counts sent, and the counts received (R316); PAUSE_ON received, PAUSE_ON sent; the masks of a narrowing or rejoin in
progress (R317, R318), `narrow` also stopping sequenced sending; the LANE_RATE taken at TRAIN (R329); and that progress of
reception is still to be reported (R315). -/
structure Port where
  detected : Nat := 0
  adapted  : Nat := 0
  partner  : Nat := 0
  locked   : Nat := 0
  retrain  : Bool := false
  fseq     : Nat := 0
  ack      : Nat := 0
  replay   : List Frame := []
  own      : List (Nat × List Nat) := []
  fwd      : List Frame := []
  resends  : Nat := 0
  reqLim   : Nat := 0
  datLim   : Nat := 0
  notLim   : Nat := 0
  reqSent  : Nat := 0
  datSent  : Nat := 0
  notSent  : Nat := 0
  reqGot   : Nat := 0
  datGot   : Nat := 0
  notGot   : Nat := 0
  paused   : Bool := false
  pausing  : Bool := false
  narrow   : Option Nat := none
  rejoin   : Option Nat := none
  rate     : Nat := 3
  ackDue   : Bool := false
  deriving DecidableEq, Repr

/-- A lane beyond its objects: the replies its training words carry (R308) as PRE_STS + 4 · POST_STS, and, of a lane in
RETRAIN, whether it waits out its own backoff, with the next interval in ms (R307, R318); the Wellhead clock its counters
were last brought up to date at; whether it has locked, and so measured its partner's clock, since the reset (R331). -/
structure Lane where
  sts  : Nat := 0
  wait : Bool := false
  next : Nat := 1
  seen : Nat := 0
  linked : Bool := false
  deriving DecidableEq, Repr

/-- An eye scan (R332): the side being stepped (false positive), the step in hand, and the last open steps found. -/
structure Eye where
  neg  : Bool := false
  step : Nat := 0
  lo   : Option Nat := none      -- magnitude of the last open step on the negative side
  hi   : Option Nat := none
  deriving DecidableEq, Repr

/-- The exchange of a disciplined base (R342 to R347), in 1/1024 fs: the SYNCs of the last 10 ms (SEQ_ID, t2, Wellhead clock), the last
FOLLOW_UP (t2 − t1 − c1, t1), the DELAY_REQs of the last 100 ms (SEQ_ID, t3, Wellhead clock, the FOLLOW_UP's figures), the
next own SEQ_ID, the mean path delay, t1 of the last exchange, the integral term, consecutive exchanges within LOCK_WINDOW,
and a step that waits for the next Wellhead clock: to a value (true) or by an amount (R341, R345). -/
structure Exch where
  syncs    : List (Nat × Int × Nat) := []
  fup      : Option (Int × Int) := none
  dreqs    : List (Nat × Int × Nat × (Int × Int)) := []
  lastReq  : Option Nat := none
  nextSeq  : Nat := 0
  path     : Option Int := none
  prevT1   : Option Int := none
  integral : Int := 0
  good     : Nat := 0
  jump     : Option (Bool × Int) := none
  deriving DecidableEq, Repr

/-- A residence record (R346): DELAY_REQ (true) or SYNC, DOMAIN, SEQ_ID, SRC of a DELAY_REQ, residence in 2^-16 ns and the
Wellhead clock it was made at. -/
structure Resid where
  req    : Bool
  domain : Nat
  seqId  : Nat
  src    : Nat
  r      : Int
  clk    : Nat
  deriving DecidableEq, Repr

/-- An entry of the transmit timestamp queue (R348): TSQ_HEAD and TSQ_STAMP. -/
structure TsEntry where
  head  : Nat
  stamp : Nat
  deriving DecidableEq, Repr

/-- The signal balls (R424, R428 to R430): per channel DRV, DEN, CMPH and CMPL; per lane its transmitter; the trigger lines; and
the low-speed balls. -/
inductive Ball where
  | drv (ch : Nat) | den (ch : Nat) | cmpH (ch : Nat) | cmpL (ch : Nat) | laneTx (l : Nat)
  | trigIn (l : Nat) | trigOut (l : Nat) | tbus (l : Nat) | canary | pwrWarnN | resetN | tdo | spi (p : Nat) | pmb (b : Nat)
  deriving DecidableEq, Repr

/-- What a ball carries: a level, nothing, a signal that other state tells, or a level the spec does not define. -/
inductive PinLevel where
  | low | high | released | driven | undefined
  deriving DecidableEq, Repr

/-- The boundary-scan port (R424): the instruction in force (0 BYPASS, 1 IDCODE, 2 SAMPLE/PRELOAD, 3 EXTEST,
4 EXTEST_PULSE, 5 EXTEST_TRAIN, 6 CLAMP, 7 HIGHZ), the preloaded boundary cells, the data register it selects,
and what the boundary cells captured last. -/
structure Jtag where
  instr : Nat := 1
  cells : List Bool := []
  dr    : Nat := 0x22564B53
  captured : List (Ball × PinLevel) := []
  deriving DecidableEq, Repr

end Sys2Proof.Machine
end

