-- ==== Sys2Proof/Machine/Memory.lean ====
section
/-! DEFINITION. The memories of the block as one sparse byte store in one canonical form: addresses strictly rising, no
entry equal to what an unlisted address reads as. An address is a space and an offset in it. -/

namespace Sys2Proof.Machine

/-- The byte store: (address, byte) pairs. -/
abbrev Memory := List Host.Cell

/-- First address of a memory space. -/
def spaceBase (k : Nat) : Nat := k * 2 ^ 64

/-- DDR4 byte address A (R259). -/
def ddrAt (a : Nat) : Nat := spaceBase 1 + a
/-- Byte m of Lode line l is at offset 16 l + m (R37). -/
def lodeAt (o : Nat) : Nat := spaceBase 2 + o
/-- Segment pool: entry i at offset 32 i (R56). -/
def poolAt (o : Nat) : Nat := spaceBase 3 + o
/-- Local memory of a Collier, 256 KiB (R212). -/
def colAt (c o : Nat) : Nat := spaceBase 4 + c * 2 ^ 18 + o
/-- Cluster memory, 4 MiB (R212). -/
def clusterAt (k o : Nat) : Nat := spaceBase 5 + k * 2 ^ 22 + o
/-- Byte o of an Assay unit's capture space, held in its on-chip buffer at o mod 1 MiB while it is not evicted (R192). -/
def assayAt (u o : Nat) : Nat := spaceBase 6 + u * 2 ^ 33 + o
/-- Content of a DOMAIN object, by key (R291). -/
def domAt (key o : Nat) : Nat := spaceBase 7 + key * 2 ^ 33 + o
/-- The card's boot flash (R391). -/
def flashAt (o : Nat) : Nat := spaceBase 8 + o
/-- Winder micro-store, 8 bytes a word, and nano-store (R355). -/
def microAt (o : Nat) : Nat := spaceBase 9 + o

/-- What a byte that nothing has written reads as: some value where the spec gives the content after reset (R135
program, pin map, XOR masks zero, lookup tables identity; R182 mask template zero), none where the spec leaves it
undefined (R37 Lode lines; DDR4 and the on-chip memories after power-on). -/
def unwritten (a : Nat) : Option Byte :=
  if a / 2 ^ 64 = 7 then
    let key := (a % 2 ^ 64) / 2 ^ 33
    let o := a % 2 ^ 33
    if 0x2100 ≤ key / 256 ∧ key / 256 ≤ 0x210F then
      if key % 256 ≤ 3 then some 0
      else some (if o % 2 = 0 then BitVec.ofNat 8 (o / 2) else BitVec.ofNat 8 (o / 512))
    else if 0x2300 ≤ key / 256 ∧ key / 256 ≤ 0x230F ∧ key % 256 = 2 then some 0
    else none
  else none

/-- The byte at an address as stored, if its content is defined. -/
def Memory.look : Memory → Nat → Option Byte
  | [], a => unwritten a
  | (b, v) :: m, a => if b = a then some v else Memory.look m a

/-- The byte read at an address; undefined content is a free value, the same within one command (log entry 4). -/
def Memory.rd (m : Memory) (fresh a : Nat) : Byte :=
  match Memory.look m a with
  | some v => v
  | none => Config.freeByte fresh a

/-- A listing of one byte put in its place, keeping addresses rising; an entry equal to what the address reads as
without one is not listed. -/
def Memory.put : Memory → Nat → Byte → Memory
  | [], a, v => if unwritten a = some v then [] else [(a, v)]
  | (b, w) :: m, a, v =>
    if a < b then (if unwritten a = some v then (b, w) :: m else (a, v) :: (b, w) :: m)
    else if a = b then (if unwritten a = some v then m else (a, v) :: m)
    else (b, w) :: Memory.put m a v

/-- The store without the listing of an address: the byte is as if never written. -/
def Memory.drop (m : Memory) (lo n : Nat) : Memory :=
  m.filter (fun c => decide (c.1 < lo) || decide (lo + n ≤ c.1))

/-- `n` bytes from an address. -/
def Memory.rdN (m : Memory) (fresh : Nat) : Nat → Nat → List Byte
  | _, 0 => []
  | a, n + 1 => Memory.rd m fresh a :: Memory.rdN m fresh (a + 1) n

/-- A little-endian value of `n` bytes (R4). -/
def Memory.rdVal (m : Memory) (fresh a n : Nat) : Nat := ofBytes (Memory.rdN m fresh a n)

/-- Consecutive bytes written. -/
def Memory.wrN : Memory → Nat → List Byte → Memory
  | m, _, [] => m
  | m, a, b :: l => Memory.wrN (Memory.put m a b) (a + 1) l

/-- Canonical form: strictly rising addresses, no entry an unlisted address would read as. -/
def Memory.wf : Memory → Bool
  | [] => true
  | [(a, v)] => unwritten a != some v
  | (a, v) :: (b, w) :: m => unwritten a != some v && decide (a < b) && Memory.wf ((b, w) :: m)

end Sys2Proof.Machine
end

