-- ==== Sys2Proof/Machine/UnitState.lean ====
section
/-! DEFINITION. The state of power, supplies, SPI lists, the Winder and clocks that is not an object (R355 to R397). -/

namespace Sys2Proof.Machine

/-- The Winder (R355 to R372): foreground routine and its argument, program counter, micro-stack, whether the last WAITE
ran to its limit, pending interrupt requests (bit 0 HOST, 1 SHED, 2 FAULT), whether ENTER_LIST has run, whether a SHED_SEQ
pass is pending, whether a THERM_TRACK pass is pending and the Wellhead clock it fell due at, the Wellhead clock of the
last SAFE point, SYNC_SKEW's measured intervals d_B and d_A (R131), whether a WAITE waits and since which clock (R358), the loop
counter (R356), what goes on behind the words (0 nothing, 1 the unwind's EXIT_LIST, 2 the EXIT_LIST of a completed run; R360,
R368) and the unwind's result, and the passes that wait for a SAFE point: the temperatures of a THERM_TRACK, and the LANE_ADAPTs as
(lane, requests) (R359). -/
structure Winder where
  routine   : Nat := 0
  arg       : Nat := 0
  pc        : Nat := 0
  stack     : List Nat := []
  timedOut  : Bool := false
  intr      : Nat := 0
  entered   : Bool := false
  shedPend  : Bool := false
  thermDue  : Bool := false
  thermAt   : Nat := 0
  safeAt    : Nat := 0
  skewB     : Int := 0
  skewA     : Int := 0
  waiting   : Bool := false
  waitAt    : Nat := 0
  loops     : Nat := 0
  phase     : Nat := 0
  endRes    : Nat := 0
  therm     : Option (List Nat) := none
  adapts    : List (Nat × Nat × Nat × Nat) := []
  deriving DecidableEq, Repr

/-- A supply sequence that runs (R388): the step in hand, for WAIT_BELOW the polls made, and the tries of a transaction that
was not acknowledged. -/
structure SsqRun where
  step  : Nat := 0
  polls : Nat := 0
  tries : Nat := 0
  deriving DecidableEq, Repr

/-- A SPI write list that runs (R390): the entry in hand. -/
structure WlRun where
  entry : Nat := 0
  deriving DecidableEq, Repr

/-- A transaction waiting on a PMBus master (R387): what it does, its rail, the request it answers, the tries made, the
set-point of a VOUT_COMMAND in mV, and the supply sequence whose step it is. -/
structure PmbOp where
  kind  : Nat                -- 1 ON, 2 OFF, 3 READ, 4 VOUT_COMMAND, 5 STATUS_WORD after an alert
  rail  : Nat
  req   : Option Req := none
  tries : Nat := 0
  mv    : Nat := 0
  seq   : Option Nat := none
  deriving DecidableEq, Repr

/-- The commands of the PMBus subset (R386). -/
inductive PmbCmd where
  | page | operation | voutMode | voutCommand | statusWord | readVout | readIout | clearFaults
  deriving DecidableEq, Repr

/-- Power, clocks and pins the block keeps beside its objects: ONs in order, the first one ramping (domain, and the request
it answers), levels each monitored rail stands below (bit l - 1: below the threshold of level l) and PWR_WARN_N low, the
state each rail was last commanded to, rails whose RAIL_MV waits for their next ON, transactions waiting on each PMBus master, REFCLK or an always-on or core PLL lost,
ALERT_n asserted by channel, demanded shed level 0 for the last 1 ms, Headframe restarting, CANARY level, ramp-down
sequences still to run and those run, BOOT_MODE sampled, RESET_N low, ADC channels to convert, a FLASH_IMAGE being
programmed (its CLOSE and its length), and an uncorrectable error in Headframe memory or the Winder's stores since the reset. -/
structure Power where
  pdQueue  : List (Nat × Option Req) := []
  railLow  : Table Nat := []
  pwrLow   : Bool := false
  railWant : Table Nat := []
  pmb      : Table (List PmbOp) := []
  refLost  : Bool := false
  alert    : Nat := 0
  calm     : Bool := true
  hfDown   : Bool := false
  canary   : Bool := false
  ramp     : List Nat := []
  ramped   : List Nat := []
  bootMode : Nat := 0
  resetLow : Bool := false
  adcReqs  : List Nat := []
  flash    : Option (Req × Nat) := none
  mvDue    : List Nat := []
  memBad   : Bool := false
  deriving DecidableEq, Repr

end Sys2Proof.Machine
end

