-- ==== Sys2Proof/Machine/State.lean ====
section
/-! DEFINITION. The state of the block as plain data. `Dev.objs` holds every object of the dictionary (sparse; an
unlisted object has its default, R6); the other fields hold what the spec gives the machine beside its objects. -/

namespace Sys2Proof.Machine

/-- No command stops the block: a refused request answers with an abort code (R279), an event that is not due changes
nothing (log entry 2). Safe: nothing is claimed of a stopped machine. -/
inductive Fault where
  deriving DecidableEq, Repr

/-- Why a command has no meaning in the model. -/
inductive Refusal where
  /-- Raised by a command whose meaning is not written yet. Safe: the model answers nothing about it. -/
  | notModelled (mnemonic : String)
  deriving DecidableEq, Repr

/-- What the block has sent, oldest first, as transactions and signals; `Dev.wire` holds the frames of its ports. -/
inductive Out where
  /-- The response to a request (R287): port and node it goes to, TAG, TYPE, abort, index, subindex, payload. -/
  | response (r : Req) (type abort index sub : Nat) (payload : List Byte)
  /-- A NOTICE on a port (R295). -/
  | notice (port target event cause info seq stamp : Nat)
  /-- A bonded sequencer's values and states to the other members (R97, R98, R325). -/
  | timed (f : GalTimed)
  | seq (f : GalSeq)
  /-- A BULK request of a Tram channel to the host window (R324). -/
  | hostRead (chan addr len : Nat)
  | hostWrite (chan addr : Nat) (bytes : List Byte)
  /-- A frame forwarded on a port (R320). -/
  | forward (port : Nat) (f : Frame)
  /-- A CTRL frame (R314): CTRL_OP, lane mask, NAK. -/
  | ctrl (port op mask : Nat) (nak : Bool)
  /-- A capabilities frame (R310) on every lane of the width: port and the 128 bits. -/
  | caps (port words : Nat)
  /-- A training word sent on a lane (R308). -/
  | train (lane word : Nat)
  /-- A TIME frame (R340): port, DST, MSG, DOMAIN, SEQ_ID, TIMESTAMP, CORRECTION, REQ_NODE. -/
  | time (port dst msg domain seqId t : Nat) (corr : Int) (node : Nat)
  /-- A MARK to the partner of a port (R349): port, MARK_ID, BASE. -/
  | mark (port id base : Nat)
  /-- A Gallery frame relayed on a port with its hop count (R326). -/
  | relayTimed (port hops : Nat) (f : GalTimed)
  | relaySeq (port hops : Nat) (f : GalSeq)
  /-- An ENUM request sent on (1 CLEAR, 2 ASSIGN), and the identity answered to an ASSIGN (R321). -/
  | enum (port op nextId : Nat)
  | enumId (port node : Nat) (payload : List Byte)
  /-- A command on a PMBus master (R386): master, 7-bit address, whether with PEC, command, and the data written (0 for a
  read; a set-point in mV, log entry 24). -/
  | pmbus (master addr : Nat) (pec : Bool) (cmd : PmbCmd) (data : Nat)
  /-- The bytes an SPI port sends, most significant first (R390). -/
  | spi (port : Nat) (bytes : List Byte)
  deriving DecidableEq, Repr

/-- An open DICT_BLOCK transfer (R293): object key, write or read, total or granted length, bytes carried. -/
structure Xfer where
  key   : Nat
  write : Bool
  total : Nat
  done  : Nat
  deriving DecidableEq, Repr

/-- A NOTICE waiting in the notice buffer (R411). -/
structure Notice where
  target : Nat
  event  : Nat
  cause  : Nat
  info   : Nat
  seq    : Nat
  stamp  : Nat
  deriving DecidableEq, Repr

/-- Everything of the block but its fuses, its memories and the waiting commands. -/
structure Dev where
  objs     : Table Nat := []
  fresh    : Nat := 0                     -- the model's own: numbers free values (log entry 4)
  egress   : List Out := []
  wire     : List (Nat × Frame) := []     -- TRANS, CTRL and GAL_SEQ frames sent, by port, oldest first (R312)
  held     : List (Nat × Instr) := []     -- requests of a port behind one that waits to take effect, oldest first (R289)
  turn     : Bool := false                -- the request now served was held
  xfers    : List Xfer := []
  endedBy  : Table Nat := []              -- key of a transfer ended by timeout (0x0E) or FAULT (0x0B), R293
  domLen   : Table Nat := []              -- length of a DOMAIN object's content
  runs     : Table SeqRun := []
  slices   : Table (List Slice) := []
  wins     : Table Window := []           -- by 16 n + w
  chans    : Table ChanOut := []
  siteRuns : Table SiteRun := []
  staging  : Table Staging := []          -- by shaft
  hewers   : Table Hewer := []
  assays   : Table Assay := []
  dowsers  : Table Dowser := []
  tmus     : Table Tmu := []
  almSeq   : Table Nat := []              -- pending alarm flags by 32 n + slot: the TB1 Wellhead clock of the firing (R351)
  peers    : Table Peer := []             -- other bond members, by 256 g + GAL_NODE
  tarns    : Table Tarn := []
  latched  : Table Nat := []              -- latched fault kinds by object index (R403)
  pllOf    : Table Nat := []              -- shafts whose PLL_UNLOCK is latched, by object index (R404)
  ring     : List Nat := []               -- fault log entries, oldest first (R407)
  wrapped  : Bool := false
  notices  : List Notice := []
  trigIn   : Nat := 0                     -- levels of TRIG_IN
  tbus     : Nat := 0                     -- asserted TBUS lines
  trigOut  : Table (List Int) := []       -- ends of the pulses that hold a TRIG_OUT line, in 1/256 ps of TB1 (R99)
  ovm      : Overman := {}
  tbs      : Table Nat := []              -- TB0, TB2, TB3 in 2^-41 ns (R336)
  tb1      : Nat := 0                     -- TB1 ticks since the epoch (R339)
  tb1Sub   : Nat := 0                     -- Wellhead clocks into the TB1 tick
  trams    : Table Tram := []
  ddr      : Table DdrChan := []
  badLode  : List Nat := []               -- Lode lines whose check bits are uncorrectable (R271)
  badDdr   : List Nat := []               -- DDR4 8-byte words marked uncorrectable (R271)
  ports    : Table Port := []             -- 0 upstream, 1 downstream, 2 + p Gallery p
  lanes    : Table Lane := []
  eyes     : Table Eye := []
  clk      : Nat := 0                     -- Wellhead clocks since reset
  exch     : Table Exch := []             -- by time base
  resid    : List Resid := []             -- oldest first
  tsq      : List TsEntry := []
  master   : Option Nat := none           -- EPOCH_COUNT last heard from the timing master (R129)
  almNext  : Table Nat := []              -- next match time of an ARMED alarm slot, in ns
  jtag     : Jtag := {}
  wnd      : Winder := {}
  ssqs     : Table SsqRun := []
  wls      : Table WlRun := []
  pwr      : Power := {}
  dirRead  : List Nat := []               -- sequencers that have read directory or descriptor lines since LODE_ECC_CORR was cleared (R39)
  heard    : List (Nat × Nat × Nat) := [] -- stop notices acted on whose second copy has not come: group, member, kind (R98)
  galLost  : Nat := 0                     -- Gallery ports whose loss set GALLERY_LOSS and that are not ACTIVE again (R327)
  fw       : Option (List Byte) := none    -- COLLIER_FW of the image booted last; none: of the image before the reset
  sigs     : Option (List Byte) := none    -- its BIST_SIGNATURES (R393, R420)
  unlock   : Bool := false                 -- its UNLOCK flag (R393, R424)
  deriving DecidableEq, Repr

/-- One-time programmable state (R395): the rollback fuses. -/
structure Fuses where
  rollback : Nat := 0
  revoked  : Nat := 0
  deriving DecidableEq, Repr

/-- The block. -/
structure State where
  fuses   : Fuses
  mem     : Memory
  dev     : Dev
  pending : List Instr
  deriving DecidableEq, Repr

/-- The block after a chip reset and a successful boot (R6): every object at its default, nothing in flight. -/
def State.reset : State := ⟨{}, [], {}, []⟩

end Sys2Proof.Machine
end

