-- ==== Sys2Proof/Machine/Ops.lean ====
section
/-! DEFINITION. The named operations over the object store, time, Tarn banks, events and transactions that every
command's meaning is built from. -/

namespace Sys2Proof.Machine

/-! Objects. -/

/-- The stored value of an object; its default where nothing has written it (R6). -/
def Dev.get (d : Dev) (key : Nat) : Nat := Table.at d.objs (dfltOf key) key

/-- The object made to hold a value. -/
def Dev.set (d : Dev) (key v : Nat) : Dev := { d with objs := Table.put d.objs key v }

/-- Several objects set. -/
def Dev.setAll (d : Dev) (l : List (Nat × Nat)) : Dev := l.foldl (fun d p => d.set p.1 p.2) d

/-- The object returned to its default. -/
def Dev.unset (d : Dev) (key : Nat) : Dev := d.set key (dfltOf key)

/-- The object with one bit made `b`. -/
def Dev.setB (d : Dev) (key i : Nat) (b : Bool) : Dev := d.set key (putBit (d.get key) i b)

/-- The object with a field replaced. -/
def Dev.setF (d : Dev) (key lo w v : Nat) : Dev := d.set key (putBits (d.get key) lo w v)

/-- Bits of an object's type, for counters. -/
def objWidth (key : Nat) : Nat :=
  match rowOf (key / 256) (key % 256) with
  | some r => 8 * (r.ty.len.getD 8)
  | none => 64

/-- The next free value of `w` bits; the counter advances (log entry 4). -/
def Dev.free (d : Dev) (w : Nat) : Nat × Dev :=
  ((Config.freeWord d.fresh).toNat % 2 ^ w, { d with fresh := d.fresh + 1 })

/-- The next free bit. -/
def Dev.freeB (d : Dev) : Bool × Dev := (Config.freeBit d.fresh, { d with fresh := d.fresh + 1 })

/-- A counter increased; past its width the spec states no value and the counter holds a free one (log entry 6). -/
def Dev.bumpBy (d : Dev) (key k : Nat) : Dev :=
  if d.get key + k < 2 ^ objWidth key then d.set key (d.get key + k)
  else d.free (objWidth key) |>.2.set key (d.free (objWidth key)).1

/-- A counter increased by one. -/
def Dev.bump (d : Dev) (key : Nat) : Dev := d.bumpBy key 1

/-- The kinds latched on an object index. -/
def Dev.latchedOn (d : Dev) (idx : Nat) : Nat := Table.at d.latched 0 idx

/-- An instance in ABORTED (5) that holds a latched kind leaves it only by a clear (R403). -/
def Dev.latchHeld (d : Dev) (idx stateKey : Nat) : Bool := d.get stateKey == 5 && d.latchedOn idx != 0

/-- A saturating counter increased by one (the counters the spec calls saturating). -/
def Dev.bumpSat (d : Dev) (key : Nat) : Dev := d.set key (satAdd (2 ^ objWidth key - 1) (d.get key) 1)

/-- A maximum kept. -/
def Dev.keepMax (d : Dev) (key v : Nat) : Dev := if d.get key < v then d.set key v else d

/-! Function states (R284). -/

def stopped : Nat := 0
def armed : Nat := 1
def running : Nat := 2
def paused : Nat := 3
def done : Nat := 4
def aborted : Nat := 5

/-- ARMED, RUNNING or PAUSED. -/
def live (st : Nat) : Bool := st == 1 || st == 2 || st == 3

/-- SEQn is ARMED, RUNNING or PAUSED. -/
def Dev.seqLive (d : Dev) (n : Nat) : Bool := live (d.get (K.SEQ_STATE n))

/-- The sequencers that are ARMED, RUNNING or PAUSED, ascending. -/
def Dev.liveSeqs (d : Dev) : List Nat := (List.range 64).filter d.seqLive

/-- Power domain dd is on (R377). -/
def Dev.domOn (d : Dev) (dd : Nat) : Bool := d.get (K.PD_STATE dd) == 2

/-! Time. -/

/-- STAMP80 of a time in 2^-41 ns (R336). -/
def stampOf (u : Nat) : Nat :=
  let ns := u / 2 ^ 41
  (ns / 1000000000) * 2 ^ 32 + ns % 1000000000

/-- Present value of a time base as STAMP80: TB0, TB2, TB3 keep their own value, TB1 is 10 ns a tick (R339). -/
def Dev.tbNow (d : Dev) (b : Nat) : Nat :=
  if b = 1 then (d.tb1 * 10 / 1000000000) * 2 ^ 32 + d.tb1 * 10 % 1000000000
  else stampOf (Table.at d.tbs 0 b)

/-- TB0 as STAMP80, the stamp of events and faults. -/
def Dev.tb0 (d : Dev) : Nat := d.tbNow 0

/-- TB0 at a time given in 1/256 ps of TB1, at TB0's present count and the rate of TB1 (R189: accurate to ±10 ns). -/
def Dev.tb0At (d : Dev) (t : Int) : Nat :=
  let now : Nat := Table.at d.tbs 0 0
  stampOf ((now : Int) + (t - (4 * d.tb1 + d.tb1Sub : Nat) * 640000) * 2 ^ 41 / 256000).toNat

/-! Tarn banks (R239 to R241). -/

/-- The queue's banks. -/
def Dev.tarn (d : Dev) (q : Nat) : Tarn := Table.at d.tarns {} q

/-- Size in words of a Q_SIZE value (R240): 4 KiB is 512 words. -/
def tarnWords (sz : Nat) : Nat := if sz = 0 ∨ 9 < sz then 0 else 512 * 2 ^ (sz - 1)

/-- Class XL (R240). -/
def isXL (sz : Nat) : Bool := decide (7 ≤ sz) && decide (sz ≤ 9)

/-- Words waiting at the write port enter the filling bank while it holds fewer than `h` words, half the size (R241). -/
def Tarn.feed (h : Nat) (t : Tarn) : Tarn :=
  { t with fill := t.fill ++ t.port.take (h - t.fill.length), port := t.port.drop (h - t.fill.length) }

/-- The roles swap if the draining bank is empty and the filling bank is not (R241). -/
def Tarn.swap (h : Nat) (t : Tarn) : Tarn :=
  if (t.feed h).drain.isEmpty && !(t.feed h).fill.isEmpty then
    ({ t.feed h with drain := (t.feed h).fill, fill := [], bank := 1 - t.bank } : Tarn).feed h
  else t.feed h

/-- The words held, both banks, oldest first (R243 Q_FILL). -/
def Tarn.held (t : Tarn) : List (Nat × Bool) := t.drain ++ t.fill

/-- Words held. -/
def Tarn.count (t : Tarn) : Nat := t.drain.length + t.fill.length

/-- The words a reader will get, oldest first: those held and those at the write port. -/
def Tarn.words (t : Tarn) : List (Nat × Bool) := t.held ++ t.port

/-- Whole packets held (R239). -/
def Tarn.packets (t : Tarn) : Nat := (t.held.filter (·.2)).length

/-- A bank of queue q takes half the size (R241). -/
def Dev.qHalf (d : Dev) (q : Nat) : Nat := tarnWords (d.get (K.Q_SIZE q)) / 2

/-- Full: the filling bank is full and the draining bank is not empty (R241). -/
def Dev.qFull (d : Dev) (q : Nat) : Bool :=
  let t := d.tarn q
  decide (d.qHalf q ≤ t.fill.length) && !t.drain.isEmpty

/-- Words that may still be written; 0 while DISABLED (R243, R244): of an XL queue that holds words, the room of its
filling bank, so that nothing is written to a full queue; of a CREDIT queue the credits not taken, those of words at the
write port being taken (R241, R246; log entry 12). -/
def Dev.qSpace (d : Dev) (q : Nat) : Nat :=
  let t := d.tarn q
  if d.get (K.Q_STATE q) = 1 then
    if isXL (d.get (K.Q_SIZE q)) && !t.drain.isEmpty then d.qHalf q - t.fill.length
    else tarnWords (d.get (K.Q_SIZE q)) - t.count - t.port.length
  else 0

/-- The banks replaced, with the swap of the next clock (log entry 12). -/
def Dev.setTarn (d : Dev) (q : Nat) (t : Tarn) : Dev := { d with tarns := Table.put d.tarns q (t.swap (d.qHalf q)) }

/-! Events (R408 to R411). -/

/-- A notice enters the notice buffer; the oldest of 64 is discarded for it (R411). -/
def Dev.notice (d : Dev) (target e cause info : Nat) : Dev :=
  let seq := (d.get K.NOTICE_SEQ + 1) % 2 ^ 32
  let d := d.set K.NOTICE_SEQ seq
  let n : Notice := ⟨target, e, cause, info, seq, d.tb0⟩
  if d.notices.length < 64 then { d with notices := d.notices ++ [n] }
  else ({ d with notices := d.notices.drop 1 ++ [n] }).bump K.NOTICE_DROPS

/-- The 32-byte NOTICE payload as a raw value (R295). -/
def noticeRaw (e cause info seq stamp : Nat) : Nat :=
  fld 128 80 stamp + fld 64 64 info + fld 32 32 seq + fld 16 8 cause + fld 0 16 e

/-- The words of a raw value, lowest first, the last with the end mark (R165, R410). -/
def packetOf (raw n : Nat) : List (Nat × Bool) :=
  (List.range n).map (fun i => (bits raw (64 * i) 64, i + 1 == n))

/-- The banks of a queue after a write or a read, with the swap of the next clock and what enters from the write port: Q_PEAK
follows, and whether the Weir is crossed (R241, R243, R246, R247). -/
def Dev.qSettle (d : Dev) (q : Nat) (t : Tarn) : Dev × Bool :=
  let before := (d.tarn q).count
  let t := t.swap (d.qHalf q)
  let d := ({ d with tarns := Table.put d.tarns q t } : Dev).keepMax (K.Q_PEAK q) t.count
  let w := d.get (K.Q_WEIR q)
  let crossed := decide (0 < w) && decide (before < w) && decide (w ≤ t.count)
  (if crossed then d.setB (K.Q_STICKY q) 1 true else d, crossed)

/-- Words written to a queue through its write port, into the filling bank as it has room (R241, R246). -/
def Dev.qWrite (d : Dev) (q : Nat) (l : List (Nat × Bool)) : Dev × Bool :=
  d.qSettle q { d.tarn q with port := (d.tarn q).port ++ l }

/-- One raise of event e (R408): status bit, counter, delivery by its routing if enabled or `force`d by a fault with
reaction NOTIFY or stronger. A CLUSTER delivery can cross a Weir and so raise another event; at most one crossing per
queue can follow another, which bounds the chain. -/
def raiseN : Nat → Dev → Nat → Nat → Nat → Bool → Dev
  | 0, d, _, _, _, _ => d
  | fuel + 1, d, e, cause, info, force =>
    let old := bit (d.get (K.EVT_STATUS (e / 64))) (e % 64)
    let d := (d.setB (K.EVT_STATUS (e / 64)) (e % 64) true).bumpSat (K.EVT_COUNT e)
    let route := d.get (K.EVT_ROUTE e)
    let mode := bits route 14 2
    let target := bits route 0 6
    if (bit (d.get (K.EVT_ENABLE (e / 64))) (e % 64) || force) && (bit route 13 || !old) then
      if mode = 1 then d.notice target e cause info
      else if mode = 2 then
        let q := d.get (K.EVT_CLUSTER_Q (target % 4))
        if q < 256 ∧ d.get (K.Q_STATE q) = 1 ∧ 4 ≤ d.qSpace q then
          let r := d.qWrite q (packetOf (noticeRaw e cause info 0 d.tb0) 4)
          if r.2 then raiseN fuel r.1 (272 + q / 16) 1 q false else r.1
        else d.bump K.ROUTE_DROPS
      else if force then d.notice 0 e cause info
      else d
    else d

/-- An event of a function raised (R408). -/
def Dev.event (d : Dev) (e cause info : Nat) : Dev := raiseN 257 d e cause info false

/-- The banks of a queue after a write or a read by hardware or software, with the Weir's event (R247, R248). -/
def Dev.qPlace (d : Dev) (q : Nat) (t : Tarn) : Dev :=
  let r := d.qSettle q t
  if r.2 then r.1.event (272 + q / 16) 1 q else r.1

/-- Words written to a queue. -/
def Dev.qPut (d : Dev) (q : Nat) (l : List (Nat × Bool)) : Dev := d.qPlace q { d.tarn q with port := (d.tarn q).port ++ l }

/-- The oldest words taken from a queue. -/
def Dev.qTake (d : Dev) (q n : Nat) : Dev :=
  let t := d.tarn q
  d.qPlace q { t with drain := t.drain.drop n, fill := t.fill.drop (n - t.drain.length), port := t.port.drop (n - t.count) }

/-- The oldest whole packet of a queue (R174), if it holds one. -/
def firstPacket : List (Nat × Bool) → Option (List (Nat × Bool))
  | [] => none
  | w :: l => if w.2 then some [w] else (firstPacket l).map (w :: ·)

/-! Transactions (R278, R279, R281). -/

/-- Abort codes (R279). -/
inductive Abort where
  | noObject | noSubindex | access | length | range | state | busy | version | locked | shed | fault | sealed
  | causePresent | timeout
  deriving DecidableEq, Repr

/-- The code of an abort (R279). -/
def Abort.code : Abort → Nat
  | .noObject => 1 | .noSubindex => 2 | .access => 3 | .length => 4 | .range => 5 | .state => 6 | .busy => 7
  | .version => 8 | .locked => 9 | .shed => 10 | .fault => 11 | .sealed => 12 | .causePresent => 13 | .timeout => 14

/-! Requests that wait (R12, R289). -/

/-- Requests of a port that were accepted and wait to take effect: ONs of power domains, transactions of a PMBus master, a
flash being programmed (R12, R378, R387, R396). -/
def Dev.waitsOn (d : Dev) (p : Nat) : Nat :=
  let mine (o : Option Req) : Bool := match o with | some r => r.port == p | none => false
  (d.pwr.pdQueue.filter (fun e => mine e.2)).length + ((d.pwr.pmb.flatMap (·.2)).filter (fun o => mine o.req)).length +
  (if mine (d.pwr.flash.map (·.1)) then 1 else 0)

/-- Requests of a port outstanding: waiting, or held behind one that waits (R289). -/
def Dev.outstanding (d : Dev) (p : Nat) : Nat := d.waitsOn p + (d.held.filter (·.1 == p)).length

/-! Frames sent (R312 to R316). -/

/-- Index of a port's objects (R329, R330): 0 upstream, 1 downstream, 2 + p Gallery p. -/
def portIdx (p : Nat) : Nat := if p < 2 then 0x201 + p else 0x20E + p

/-- An object of a port. -/
def portKey (p sub : Nat) : Nat := portIdx p * 256 + sub

/-- PORT_STATE. -/
def Dev.portState (d : Dev) (p : Nat) : Nat := d.get (portKey p 0x02)

/-- Major version negotiated on a port (R311). -/
def Dev.portMajor (d : Dev) (p : Nat) : Nat := d.get (portKey p 0x07) / 256

/-- NOTICE requests use their own credits on a port: NOTICE_CREDIT is in use (R311). -/
def Dev.noticeOwn (d : Dev) (p : Nat) : Bool := bit (d.get (portKey p 0x08)) 1

def Dev.port (d : Dev) (p : Nat) : Port := Table.at d.ports {} p
def Dev.setPort (d : Dev) (p : Nat) (x : Port) : Dev := { d with ports := Table.put d.ports p x }

/-- Frames that came in on a Gwynter port and wait to be forwarded over the other one (R320). -/
def Dev.passing (d : Dev) (p : Nat) : List Frame := if p < 2 then (d.port (1 - p)).fwd else []

/-- Credits a transaction takes on a port: REQ, DATA, NOTICE; none for a response (R316). -/
def Dev.costs (d : Dev) (p : Nat) (b : List Nat) : Nat × Nat × Nat :=
  if transResp b then (0, 0, 0)
  else if transNotice b && d.noticeOwn p then (0, transUnits b, 1)
  else (1, transUnits b, 0)

/-- Cumulative credits granted on a port at 2.x: 32 REQ, 1,024 DATA and 64 NOTICE beyond those of the requests received that
no longer wait in the node (R316; log entry 53). -/
def Dev.granted (d : Dev) (p : Nat) : Nat × Nat × Nat :=
  let x := d.port p
  let w := (d.passing p).map (fun f => d.costs p f.body)
  (32 + x.reqGot - ((w.map (·.1)).sum + d.outstanding p), 1024 + x.datGot - (w.map (·.2.1)).sum, 64 + x.notGot - (w.map (·.2.2)).sum)

/-- A frame of a port: its header carries ACK, and at 2.x the credits granted (R313). -/
def Dev.frameOf (d : Dev) (p kind op fseq : Nat) (nak : Bool) (body : List Nat) : Frame :=
  let g := if d.portMajor p = 2 then d.granted p else (0, 0, 0)
  frameMade (frameHead g.2.2 g.2.1 g.1 fseq (d.port p).ack nak kind op body.length) body

/-- A frame put on a port (R329 FRAMES_TX); its header reports what has been received in order (R315). -/
def Dev.transmit (d : Dev) (p : Nat) (f : Frame) : Dev :=
  let d := ({ d with wire := d.wire ++ [(p, f)] } : Dev).bump (portKey p 0x11)
  if (d.port p).ackDue then d.setPort p { d.port p with ackDue := false } else d

/-- Bytes in a replay buffer (R315). -/
def Port.replayBytes (x : Port) : Nat := (x.replay.map (fun f => 8 * f.body.length)).sum

/-- A sequenced frame of `n` bytes may be sent now: the port is ACTIVE, does not narrow, and its replay buffer of 256 KiB
has room. -/
def Dev.canSend (d : Dev) (p n : Nat) : Bool :=
  d.portState p == 5 && (d.port p).narrow.isNone && decide ((d.port p).replayBytes + n ≤ 262144)

/-- A cumulative count is below a limit, modulo 2^16, where the frame takes credits of the class (R316). -/
def creditOk (sent n lim : Nat) : Bool :=
  let room := (lim + 65536 - sent % 65536) % 65536
  n == 0 || (decide (0 < room) && decide (room < 32768))

/-- Credit and pauses let a transaction out of a port (R316): at 2.x within the partner's limits, at 1.x anything after
PAUSE_OFF and responses always. -/
def Dev.mayGo (d : Dev) (p : Nat) (b : List Nat) : Bool :=
  let x := d.port p
  let c := d.costs p b
  if d.portMajor p = 2 then creditOk x.reqSent c.1 x.reqLim && creditOk x.datSent c.2.1 x.datLim && creditOk x.notSent c.2.2 x.notLim
    || transResp b
  else !x.paused || transResp b

/-- A sequenced frame sent: it takes the next FSEQ and its credits, and stays in the replay buffer until acknowledged
(R315, R316). -/
def Dev.sendNow (d : Dev) (p kind : Nat) (b : List Nat) : Dev :=
  let x := d.port p
  let n := (x.fseq + 1) % 65536
  let c := if kind = 1 then d.costs p b else (0, 0, 0)
  let f := d.frameOf p kind 0 n false b
  (d.setPort p { x with fseq := n, replay := x.replay ++ [f], reqSent := x.reqSent + c.1, datSent := x.datSent + c.2.1,
                        notSent := x.notSent + c.2.2 }).transmit p f

/-- Own frames that wait are sent as far as the port can: in order, those without credit stepped over (R315, R316). -/
def drainOwn : Nat → Dev → Nat → Dev
  | 0, d, _ => d
  | fuel + 1, d, p =>
    let l := (d.port p).own
    match l.findIdx? (fun e => e.1 != 1 || d.mayGo p e.2) with
    | none => d
    | some i =>
      let e := l.getD i (1, [])
      if d.canSend p (8 * e.2.length) then drainOwn fuel ((d.setPort p { d.port p with own := l.eraseIdx i }).sendNow p e.1 e.2) p else d

def Dev.drainPort (d : Dev) (p : Nat) : Dev := drainOwn (d.port p).own.length d p

/-- A payload of the device's own goes out on a port as a frame of a KIND, waits while the port cannot send it, or is lost
while the port is neither ACTIVE nor in RETRAIN. -/
def Dev.linkSend (d : Dev) (p kind : Nat) (b : List Nat) : Dev :=
  if d.portState p = 5 ∨ (d.port p).retrain then
    (d.setPort p { d.port p with own := (d.port p).own ++ [(kind, b)] }).drainPort p
  else d

/-- The words of a response (R287): to the node that asked, with its TAG. -/
def Dev.response (d : Dev) (r : Req) (type abort idx sub phase : Nat) (payload : List Byte) : List Nat :=
  transWords (transHead payload.length abort phase idx sub r.tag type true (d.get K.NODE_ID) r.src) payload

/-- A refused transaction: recorded, and answered unless it was a broadcast (R281, R290). -/
def Dev.refuse (d : Dev) (r : Req) (type idx sub : Nat) (a : Abort) (phase : Nat := 0) : Dev :=
  let d := d.set K.LAST_ABORT (fld 48 16 a.code + fld 32 16 idx + fld 24 8 sub + fld 16 8 type + fld 8 8 r.src + fld 0 8 r.tag)
  let d := d.bump K.ABORT_COUNT
  if r.bcast then d
  else ({ d with egress := d.egress ++ [.response r type a.code idx sub []] } : Dev).linkSend r.port 1 (d.response r type a.code idx sub phase [])

/-- The response of an accepted transaction (R287); none to a broadcast (R290). -/
def Dev.respond (d : Dev) (r : Req) (type idx sub : Nat) (payload : List Byte) (phase : Nat := 0) : Dev :=
  if r.bcast then d
  else ({ d with egress := d.egress ++ [.response r type 0 idx sub payload] } : Dev).linkSend r.port 1 (d.response r type 0 idx sub phase payload)

/-! Gallery frames (R325, R326). -/

/-- The Gallery ports of a list that are ACTIVE. -/
def Dev.galUp (d : Dev) (l : List Nat) : List Nat := l.filter (fun q => d.portState (2 + q) == 5)

/-- A GAL_TIMED frame of a hop count leaves at once on each of some Gallery ports (R325). -/
def Dev.galNow (d : Dev) (l : List Nat) (hops : Nat) (f : GalTimed) : Dev :=
  l.foldl (fun d q => d.transmit (2 + q) (d.frameOf (2 + q) 4 0 0 false ((Config.galTimedWords hops f).map (·.toNat)))) d

/-- A GAL_SEQ frame of a hop count goes out on each of some Gallery ports (R315, R325). -/
def Dev.galSend (d : Dev) (l : List Nat) (hops : Nat) (f : GalSeq) : Dev :=
  l.foldl (fun d q => d.linkSend (2 + q) 5 ((Config.galSeqWords hops f).map (·.toNat))) d

/-- A GAL_TIMED frame of the device's own on every ACTIVE Gallery port. -/
def Dev.tellTimed (d : Dev) (f : GalTimed) : Dev :=
  ({ d with egress := d.egress ++ [.timed f] } : Dev).galNow (d.galUp [0, 1, 2, 3]) 0 f

/-- A GAL_SEQ frame of the device's own on every ACTIVE Gallery port. -/
def Dev.tellSeq (d : Dev) (f : GalSeq) : Dev :=
  ({ d with egress := d.egress ++ [.seq f] } : Dev).galSend (d.galUp [0, 1, 2, 3]) 0 f

/-- A check of a command: refused with `a` unless it holds. -/
def need (b : Bool) (a : Abort) : Except Abort Unit := if b then .ok () else .error a

/-- Indices reachable in BOOT and LOCKED (R283). -/
def reachableLocked (i : Nat) : Bool :=
  (decide (0x0100 ≤ i) && decide (i ≤ 0x022F)) || i == 0x0300 || (decide (0x0600 ≤ i) && decide (i ≤ 0x07FF)) ||
  (decide (0x2700 ≤ i) && decide (i ≤ 0x27FF))

/-- STOP, DISARM and ABORT commands, which FAULT does not refuse (R283). -/
def stopCommand (key v : Nat) : Bool :=
  let i := key / 256
  let s := key % 256
  (decide (0x1200 ≤ i) && decide (i ≤ 0x123F) && s == 1 && (v == 2 || v == 6)) ||
  (decide (0x1500 ≤ i) && decide (i ≤ 0x1607) && s == 1 && v == 2) ||
  (decide (0x0C40 ≤ i) && decide (i ≤ 0x0C7F) && s == 1 && v == 2) ||
  (decide (0x0A00 ≤ i) && decide (i ≤ 0x0A0F) && s == 1 && v == 3) ||
  (decide (0x0220 ≤ i) && decide (i ≤ 0x022F) && s == 1 && v == 4) ||
  (i == 0x0800 && s == 1 && v == 2) ||
  (decide (0x0401 ≤ i) && decide (i ≤ 0x045F) && s == 1 && v == 2)

/-- What the shed level suspends (R283, R364): level 1 search, eye scan and the five calibration routines, and self-test, whose
START has its own order of checks (R419); level 2 also switching a domain on and arming an Assay unit with a spill. -/
def Dev.shedSuspends (d : Dev) (key v : Nat) : Bool :=
  let i := key / 256
  let s := key % 256
  let l := d.get K.SHED_LEVEL
  decide (1 ≤ l) &&
    ((decide (0x1600 ≤ i) && decide (i ≤ 0x1603) && s == 1 && v == 1) ||
     (decide (0x0220 ≤ i) && decide (i ≤ 0x022F) && s == 1 && v == 3) ||
     (i == 0x0740 && s == 1 && v == 1 && [1, 2, 3, 8, 9].contains (d.get K.WND_ROUTINE))) ||
  decide (2 ≤ l) &&
    ((decide (0x0500 ≤ i) && decide (i ≤ 0x0533) && s == 1 && v == 1) ||
     (decide (0x1500 ≤ i) && decide (i ≤ 0x150F) && s == 1 && v == 1 && d.get (K.SPILL_KIB (i - 0x1500)) != 0))

/-- The sequencers named by sites whose channel map holds a channel (R111). -/
def Dev.ownersOf (d : Dev) (ch : Nat) : List Nat :=
  ((List.range 128).filter (fun m => bit (d.get (K.CHAN_MAP m (ch / 64))) (ch % 64) && decide (d.get (K.SITE_SEQ m) < 64))).map
    (fun m => d.get (K.SITE_SEQ m))

/-- The sites that name a sequencer, ascending. -/
def Dev.sitesOf (d : Dev) (n : Nat) : List Nat := (List.range 128).filter (fun m => d.get (K.SITE_SEQ m) == n)

/-- No graph is RUNNING. -/
def Dev.noGraph (d : Dev) : Bool := (List.range 64).all (fun g => d.get (K.GRAPH_STATE g) != 2)

/-- The sync domain counts as STOPPED (R129): no sequencer live and SYNC_SKEW, the routine that runs, not running. -/
def Dev.syncStopped (d : Dev) : Bool :=
  d.liveSeqs.isEmpty && !((d.get K.WND_STATE == 2 || d.get K.WND_STATE == 3) && d.wnd.routine == 3)

/-- A supply sequence runs on a PMBus master (R387): a RUNNING one with a step for a rail of the master. -/
def Dev.supplyOn (d : Dev) (mm : Nat) : Bool :=
  (List.range 16).any (fun q => d.get (K.SSQ_STATE q) == 2 && (List.range 16).any (fun i =>
    let s := d.get (K.SSQ_STEP q i)
    decide (1 ≤ bits s 28 4) && bits s 28 4 != 4 && bits (d.get (K.RAIL_CFG (bits s 23 5))) 24 1 == mm))

/-- Whether the function that owns an RWS object is STOPPED (check 10 of R278), as each function's chapter says. -/
def Dev.ownerStopped (d : Dev) (key : Nat) : Bool :=
  let i := key / 256
  let s := key % 256
  let sq (n : Nat) : Bool := d.get (K.SEQ_STATE n) == 0
  if 0x1000 ≤ i ∧ i ≤ 0x10FF then (d.ownersOf (i - 0x1000)).all sq                 -- R35, R111
  else if 0x1200 ≤ i ∧ i ≤ 0x123F then sq (i - 0x1200)                             -- R71
  else if 0x1300 ≤ i ∧ i ≤ 0x130F then d.get (K.HEW_STATE (i - 0x1300)) == 0       -- R134
  else if 0x1400 ≤ i ∧ i ≤ 0x147F then                                             -- R88
    (let n := d.get (K.SITE_SEQ (i - 0x1400)); decide (64 ≤ n) || sq n)
  else if 0x1500 ≤ i ∧ i ≤ 0x150F then d.get (K.ASY_STATE (i - 0x1500)) == 0       -- R181
  else if 0x1600 ≤ i ∧ i ≤ 0x1603 then                                             -- R206
    d.get (K.DWS_STATE (i - 0x1600)) != 2 && d.get (K.DWS_STATE (i - 0x1600)) != 3
  else if 0x1604 ≤ i ∧ i ≤ 0x1607 then d.get (K.TMU_STATE (i - 0x1604)) != 2       -- R127, log entry 8
  else if i = 0x1800 then                                                          -- R93, R129
    (if 0x20 ≤ s ∧ s ≤ 0x27 then
      (List.range 64).all (fun n => d.get (K.BOND_GROUP n) != s - 0x20 + 1 || sq n)
     else d.syncStopped)
  else if 0x2000 ≤ i ∧ i ≤ 0x203F then sq (i - 0x2000)                             -- R57
  else if 0x2100 ≤ i ∧ i ≤ 0x210F then d.get (K.HEW_STATE (i - 0x2100)) == 0       -- R135
  else if 0x2200 ≤ i ∧ i ≤ 0x220F then d.get (K.SUMP_STATE (i - 0x2200)) == 0      -- R173
  else if 0x2300 ≤ i ∧ i ≤ 0x230F then d.get (K.ASY_STATE (i - 0x2300)) == 0       -- R182
  else if 0x2500 ≤ i ∧ i ≤ 0x253F then d.get (K.GRAPH_STATE (i - 0x2500)) == 0     -- R215
  else if 0x2600 ≤ i ∧ i ≤ 0x261F then d.get (K.STREAM_STATE (i - 0x2600)) == 0    -- R237
  else if 0x4000 ≤ i ∧ i ≤ 0x4FFF then d.get (K.GRAPH_STATE ((i - 0x4000) / 64)) == 0   -- R238
  else if 0x0C40 ≤ i ∧ i ≤ 0x0C7F then d.get (K.GRAPH_STATE (i - 0x0C40)) == 0     -- R224
  else if 0x0C80 ≤ i ∧ i ≤ 0x0CBF then                                             -- R227
    (List.range 64).all (fun g => d.get (K.GRAPH_STATE g) != 2 || d.get (K.GRAPH_CLASS g) != i - 0x0C80)
  else if i = 0x0C00 then d.noGraph                                                -- R230
  else if 0x0C01 ≤ i ∧ i ≤ 0x0C04 then d.get (K.CLUSTER_STATE (i - 0x0C01)) != 1   -- R213
  else if 0x0B00 ≤ i ∧ i ≤ 0x0BFF then d.get (K.Q_STATE (i - 0x0B00)) == 0         -- R243
  else if 0x0A00 ≤ i ∧ i ≤ 0x0A0F then d.get (K.TRAM_STATE (i - 0x0A00)) != 2      -- R254
  else if 0x0900 ≤ i ∧ i ≤ 0x0908 then [0, 1, 5].contains (d.get K.DDR_STATE)      -- R261
  else if 0x0600 ≤ i ∧ i ≤ 0x06FF ∨ i = 0x0540 then d.get K.CHIP_STATE == 2 || d.get K.CHIP_STATE == 7   -- R405, R382
  else if i = 0x0214 then d.syncStopped                                            -- R330
  else if 0x0401 ≤ i ∧ i ≤ 0x0404 then d.get (K.TB_STATE (i - 0x0401)) == 0        -- R338
  else if 0x0440 ≤ i ∧ i ≤ 0x045F then d.get (K.ALM_STATE (i - 0x0440)) != 1       -- R350
  else if 0x0550 ≤ i ∧ i ≤ 0x056F then !d.supplyOn (bits (d.get (K.RAIL_CFG (i - 0x0550))) 24 1)   -- R387
  else if 0x0570 ≤ i ∧ i ≤ 0x0571 then !d.supplyOn (i - 0x0570)
  else if 0x0580 ≤ i ∧ i ≤ 0x058F then d.get (K.SSQ_STATE (i - 0x0580)) != 2       -- R388
  else if i = 0x0740 then d.get K.WND_STATE != 2 && d.get K.THERM_EN == 0          -- R363
  else if i = 0x0800 then d.get K.BIST_STATE != 2 && d.get K.BIST_STATE != 3       -- R417
  else if 0x0D00 ≤ i ∧ i ≤ 0x0D07 then (List.range 16).all (fun w => d.get (K.WL_STATE w) != 2)    -- R390
  else if 0x0D10 ≤ i ∧ i ≤ 0x0D1F then d.get (K.WL_STATE (i - 0x0D10)) != 2
  else true

/-- Graph-defined parameters exist only under a VALID image and below its PARAM_COUNT (R238). -/
def Dev.indexThere (d : Dev) (i : Nat) : Bool :=
  if 0x4000 ≤ i ∧ i ≤ 0x4FFF then
    let g := (i - 0x4000) / 64
    d.get (K.GRAPH_STATUS g) % 16 == 2 && decide ((i - 0x4000) % 64 < Table.at d.domLen 0 (0x2500FF + 256 * g))
  else !(rowsAt i).isEmpty

/-- Checks 2 to 10 of R278 for a DICT_WRITE of `len` bytes with value `v` to an object of an implemented index, by its row. -/
def Dev.rowWrite (d : Dev) (row : Option Row) (idx sub len v : Nat) : Option Abort :=
  let key := idx * 256 + sub
  let st := d.get K.CHIP_STATE
  match row with
  | none => some .noSubindex
  | some row =>
    if st < 2 && (!reachableLocked idx || (decide (0x0600 ≤ idx) && decide (idx ≤ 0x06FF))) then some .locked
    else if row.acc = .ro ∨ row.acc = .const then some .access
    else if row.ty.len ≠ some len then some .length
    else if !(decide (v < 2 ^ (8 * len)) && row.ok (idx - groupBase idx) v && row.ty.holds v) then some .range
    else if st == 6 && !((decide (0x0600 ≤ idx) && decide (idx ≤ 0x07FF)) || stopCommand key v) then some .fault
    else if d.shedSuspends key v then some .shed
    else if row.acc = .rws && !d.ownerStopped key then some .state
    else none

/-- Checks 2 to 8 of R278 for a DICT_READ of an object of an implemented index, by its row. -/
def Dev.rowRead (d : Dev) (row : Option Row) (idx : Nat) : Option Abort :=
  match row with
  | none => some .noSubindex
  | some row =>
    if d.get K.CHIP_STATE < 2 && !reachableLocked idx then some .locked
    else if row.acc = .wo then some .access
    else if row.ty = .domain then some .length
    else none

/-- Checks 1 to 10 of R278 for a DICT_WRITE of `len` bytes with value `v`. -/
def Dev.preWrite (d : Dev) (idx sub len v : Nat) : Option Abort :=
  if d.indexThere idx then d.rowWrite (rowOf idx sub) idx sub len v else some .noObject

/-- Checks 1 to 8 of R278 for a DICT_READ. -/
def Dev.preRead (d : Dev) (idx sub : Nat) : Option Abort :=
  if d.indexThere idx then d.rowRead (rowOf idx sub) idx else some .noObject

/-- A DICT_WRITE served (R278): checked, then the object's own checks and its effect, then answered. -/
def Dev.serve (d : Dev) (r : Req) (key len v : Nat) (act : Dev → Except Abort Dev) : Dev :=
  match d.preWrite (key / 256) (key % 256) len v with
  | some a => d.refuse r 2 (key / 256) (key % 256) a
  | none =>
    match act d with
    | .error a => d.refuse r 2 (key / 256) (key % 256) a
    | .ok d' => d'.respond r 2 (key / 256) (key % 256) []

/-- As `serve`, for a command whose effect reaches a memory. -/
def serveM (m : Memory) (d : Dev) (r : Req) (key len v : Nat) (act : Memory → Dev → Except Abort (Memory × Dev)) :
    Memory × Dev :=
  match d.preWrite (key / 256) (key % 256) len v with
  | some a => (m, d.refuse r 2 (key / 256) (key % 256) a)
  | none =>
    match act m d with
    | .error a => (m, d.refuse r 2 (key / 256) (key % 256) a)
    | .ok p => (p.1, p.2.respond r 2 (key / 256) (key % 256) [])

/-- A write transfer to one of the listed domain objects is open (R294). -/
def Dev.loading (d : Dev) (keys : List Nat) : Bool := d.xfers.any (fun x => x.write && keys.contains x.key)

/-- The chip state lets sequencers and Assay units arm and Dowser engines and graphs start (R282, R283). -/
def Dev.canArm (d : Dev) : Bool :=
  let st := d.get K.CHIP_STATE
  st != 2 && st != 7 && !(st == 5 && d.get K.PRIOR_STATE == 2)

/-! How a meaning reaches the state: it changes the device, or the memories and the device, and never the queue of
waiting commands; only `onFuses` reaches the fuses (R395). While RESET_N is low the chip takes nothing but its reset pin and
its boundary-scan port (R375, R424): `onReset` and `onPins` are theirs. -/

/-- A command that changes the device alone; memories may be read. -/
def onDev (s : State) (f : Memory → Dev → Dev) : Host.Outcome State Fault Refusal :=
  .next (if s.dev.pwr.resetLow then s else { s with dev := f s.mem s.dev })

/-- A command that may change the memories. -/
def onMemDev (s : State) (f : Memory → Dev → Memory × Dev) : Host.Outcome State Fault Refusal :=
  .next (if s.dev.pwr.resetLow then s else { s with mem := (f s.mem s.dev).1, dev := (f s.mem s.dev).2 })

/-- A command that may blow a fuse. -/
def onFuses (s : State) (f : Fuses → Dev → Fuses × Dev) : Host.Outcome State Fault Refusal :=
  .next (if s.dev.pwr.resetLow then s else { s with fuses := (f s.fuses s.dev).1, dev := (f s.fuses s.dev).2 })

/-- A command that reads the fuses and changes the rest, whatever RESET_N. -/
def onReset (s : State) (f : Fuses → Memory → Dev → Memory × Dev) : Host.Outcome State Fault Refusal :=
  .next { s with mem := (f s.fuses s.mem s.dev).1, dev := (f s.fuses s.mem s.dev).2 }

/-- A command of the boundary-scan port. -/
def onPins (s : State) (f : Dev → Dev) : Host.Outcome State Fault Refusal := .next { s with dev := f s.dev }

end Sys2Proof.Machine
end

