-- ==== Sys2Proof/Machine/Timing.lean ====
section
/-! DEFINITION. Periods, edges, formats, strobes, calibration offsets and shadow copies (R102 to R126). Times are in
1/256 ps; a step of 0.5 ps is 128 units. -/

namespace Sys2Proof.Machine

/-- P of a period in fs (R102). -/
def periodP (fs : Nat) : Nat := (2 * fs * 256 + 1000) / 2000

/-- The effective period in fs, to the nearest with halves up (R71 TMIN). -/
def periodFs (p : Nat) : Nat := (p * 1000 + 128) / 256

/-- 75 ps and 50 ps in units. -/
def ps75 : Nat := 19200
def ps50 : Nat := 12800

/-- Home shaft of SEQn (R11). -/
def homeShaft (n : Nat) : Nat := n % 4

/-- The gang of SEQn (R89): (channel, site), ascending by channel. -/
def Dev.gangOf (d : Dev) (n : Nat) : List (Nat × Nat) :=
  let sites := d.sitesOf n
  (List.range 256).filterMap (fun ch =>
    (sites.find? (fun m => bit (d.get (K.CHAN_MAP m (ch / 64))) (ch % 64))).map (fun m => (ch, m)))

/-- The seams of a gang, ascending. -/
def seamsOf (gang : List (Nat × Nat)) : List Nat :=
  (List.range 16).filter (fun s => gang.any (fun p => p.1 / 16 == s))

/-! The fields of EDGE_A, EDGE_B and FMT (R111). -/

def fD1 (a : Nat) : Nat := bits a 0 21
def fD2 (a : Nat) : Nat := bits a 21 21
def fDON (a : Nat) : Nat := bits a 42 21
def fDOFF (b : Nat) : Nat := bits b 0 21
def fSTB1 (b : Nat) : Nat := bits b 21 21
def fSTB2 (b : Nat) : Nat := bits b 42 21

/-- A timing set as one channel sees it: period, edges, format and compare mode. -/
structure Tset where
  p   : Nat
  a   : Nat
  b   : Nat
  fmt : Nat
  deriving DecidableEq, Repr

def Tset.format (t : Tset) : Nat := t.fmt % 8
def Tset.mode (t : Tset) : Nat := bits t.fmt 8 2

/-- The active copy of set t of SEQn at a channel. -/
def Dev.actSet (d : Dev) (n ch t : Nat) : Tset :=
  ⟨periodP (d.get (K.ACT_PERIOD n t)), d.get (K.ACT_EDGE_A ch t), d.get (K.ACT_EDGE_B ch t), d.get (K.ACT_FMT ch t)⟩

/-- The shadow copy of set t of SEQn at a channel. -/
def Dev.shadowSet (d : Dev) (n ch t : Nat) : Tset :=
  ⟨periodP (d.get (K.TSET_PERIOD n t)), d.get (K.EDGE_A ch t), d.get (K.EDGE_B ch t), d.get (K.FMT ch t)⟩

/-- `lo ≤ y − x ≤ p − hi` for two edge values in steps (R113, R118). -/
def gapOk (x y lo p hi : Nat) : Bool := decide (128 * x + lo ≤ 128 * y) && decide (128 * y + hi ≤ 128 * x + p)

/-- The constraints of R112, R113 and R118 on one channel; `donor`: its format and mode are ignored (R115). -/
def Tset.valid (t : Tset) (donor : Bool) : Bool :=
  t.p != 0 &&
  ([fD1 t.a, fD2 t.a, fDON t.a, fDOFF t.b, fSTB1 t.b, fSTB2 t.b].all (fun e => decide (128 * e < 8 * t.p))) &&
  (donor ||
    ((match t.format with
      | 2 => gapOk (fD1 t.a) (fD2 t.a) ps75 t.p ps75
      | 3 => gapOk (fD1 t.a) (fD2 t.a) ps75 t.p ps75
      | 4 => decide (ps75 ≤ 128 * fD1 t.a) && decide (128 * fD1 t.a + ps75 ≤ 128 * fD2 t.a) && decide (128 * fD2 t.a + ps75 ≤ t.p)
      | 5 => decide (periodP 312500 ≤ t.p) && gapOk (fD1 t.a) (fD2 t.a) ps75 t.p ps75
      | _ => true) &&
     (match t.mode with
      | 1 => gapOk (fSTB1 t.b) (fSTB2 t.b) ps50 t.p ps50 && t.format != 5
      | 2 => t.format != 5
      | _ => true)))

/-- Whether the set is valid for a gang (R112, R115; DNRZ only on an even position whose partner is in the same site), read through `get` (the active or the shadow copy). -/
def setValid (gang : List (Nat × Nat)) (sel : Nat → Tset) : Bool :=
  gang.all (fun p =>
    let t := sel p.1
    let donor := p.1 % 2 == 1 && gang.any (fun q => q.1 == p.1 - 1 && q.2 == p.2 && (sel q.1).format == 5)
    t.valid donor &&
    (t.format != 5 || (p.1 % 2 == 0 && gang.any (fun q => q.1 == p.1 + 1 && q.2 == p.2))))

/-- A channel is a DNRZ donor in set t: odd, and its even partner in the same site carries DNRZ (R115). -/
def Dev.isDonor (d : Dev) (n t : Nat) (gang : List (Nat × Nat)) (p : Nat × Nat) : Bool :=
  p.1 % 2 == 1 && gang.any (fun q => q.1 == p.1 - 1 && q.2 == p.2) && (d.actSet n (p.1 - 1) t).format == 5

/-- Entry i of SEQn's segment table, from the pool (R56). -/
def segEntry (m : Memory) (d : Dev) (n i : Nat) : Nat :=
  Memory.rdVal m d.fresh (poolAt (32 * (d.get (K.SEG_BASE n) + i))) 32

/-- A field of the header of SEQn's loaded image (R50). -/
def imageField (m : Memory) (d : Dev) (n lo w : Nat) : Nat :=
  bits (Memory.rdVal m d.fresh (domAt (K.PATTERN_IMAGE n) 0) 64) lo w

/-- ENTRY_COUNT of the loaded image. -/
def entryCount (m : Memory) (d : Dev) (n : Nat) : Nat := imageField m d n 224 32

/-- Timing sets the segment table of SEQn names, as a mask. -/
def referencedSets (m : Memory) (d : Dev) (n : Nat) : Nat :=
  maskOf ((List.range (min 65536 (entryCount m d n))).map (fun i => bits (segEntry m d n i) 139 5))

/-- The smallest of a list; 0 of none. -/
def leastOf : List Nat → Nat
  | [] => 0
  | x :: l => l.foldl min x

/-- P of Tmin (R22, R125): over the active and the sealed shadow periods of every referenced set. -/
def tminP (m : Memory) (d : Dev) (n : Nat) : Nat :=
  let sealedM := d.get (K.TSET_SEAL n)
  leastOf ((setBits 32 (referencedSets m d n)).flatMap (fun t =>
    periodP (d.get (K.ACT_PERIOD n t)) :: (if bit sealedM t then [periodP (d.get (K.TSET_PERIOD n t))] else [])))

/-! Calibration offsets (R120, R121, R132). -/

/-- The spare engine whose signal path stands in for a channel, if any. -/
def Dev.spareOf (d : Dev) (ch : Nat) : Option Nat :=
  let k := d.get (K.SPARE_BY ch)
  if k < 8 then some k else none

/-- The mapped spare engine whose target a channel is, if any (R132). -/
def Dev.spareFor (d : Dev) (ch : Nat) : Option Nat :=
  [2 * (ch / 64), 2 * (ch / 64) + 1].find? (fun k => d.get (K.SPE_STATE k) == 1 && d.get (K.SPE_TARGET k) == ch % 64)

/-- The signal paths of channels switch to their mapped spares, or back (R133). -/
def Dev.switchSpares (d : Dev) (chs : List Nat) : Dev :=
  chs.foldl (fun (d : Dev) ch =>
    let k := (d.spareFor ch).getD 0xFF
    if d.get (K.SPARE_BY ch) = k then d else d.set (K.SPARE_BY ch) k) d

/-- The six effective offsets of a channel: DRV rise, DRV fall, DEN on, DEN off, CMPH, CMPL (R120). -/
def Dev.offsets (d : Dev) (ch : Nat) : List Int :=
  let cal (key : Nat) (therm : Nat) : Int := clampInt (-4000) 4000 (toSigned 16 (d.get key) + toSigned 16 (d.get therm))
  match d.spareOf ch with
  | some k => (List.range 6).map (fun i => cal (K.SPE_CAL k i) (K.SPE_THERM_ADJ k))
  | none => [K.CAL_DRV_RISE ch, K.CAL_DRV_FALL ch, K.CAL_DEN_ON ch, K.CAL_DEN_OFF ch, K.CAL_CMPH ch, K.CAL_CMPL ch].map
      (fun key => cal key (K.THERM_ADJ ch))

/-- Offsets latched for every channel of a gang (R121). -/
def Dev.latchOffsets (d : Dev) (gang : List (Nat × Nat)) : Dev :=
  gang.foldl (fun d p =>
    { d with chans := Table.put d.chans p.1 { Table.at d.chans {} p.1 with offs := d.offsets p.1 } }) d

/-! Drawing one VP on one channel (R105, R113 to R117). -/

/-- The vector start rounded to the nearest 0.5 ps, halves up (R105). -/
def roundStart (t : Int) : Int := 128 * ((t + 64) / 128)

/-- An edge of an output placed at t: not less than 75 ps after the output's previous edge (R117). The number counts
the edges moved. -/
def placeEdge (c : ChanOut × Nat) (out : Nat) (t : Int) (level : Bool) : ChanOut × Nat :=
  let moved := match Table.find c.1.last out with
    | some l => decide (t < l + 19200)
    | none => false
  let t' := if moved then Table.at c.1.last 0 out + 19200 else t
  ({ c.1 with last := Table.put c.1.last out t', edges := c.1.edges ++ [⟨out, t', level⟩] }, c.2 + b2n moved)

/-- The i-th latched offset. -/
def ChanOut.off (c : ChanOut) (i : Nat) : Int := c.offs.getD i 0

/-- DRV := level at edge value e (steps), if that changes it; the rising or falling offset applies (R113, R120). -/
def setDrv (c : ChanOut × Nat) (t : Int) (e : Nat) (level : Bool) : ChanOut × Nat :=
  if c.1.drv = level then c
  else
    let c' := placeEdge c 0 (roundStart t + 128 * ((e : Int) + c.1.off (if level then 0 else 1))) level
    ({ c'.1 with drv := level }, c'.2)

/-- DEN made on at DON or off at DOFF, if that changes it (R114). -/
def setDen (c : ChanOut × Nat) (t : Int) (s : Tset) (level : Bool) : ChanOut × Nat :=
  if c.1.den = level then c
  else
    let e : Nat := if level then fDON s.a else fDOFF s.b
    let c' := placeEdge c 1 (roundStart t + 128 * ((e : Int) + c.1.off (if level then 2 else 3))) level
    ({ c'.1 with den := level }, c'.2)

/-- A drive code: driver on (R113). -/
def isDrive (code : Nat) : Bool := [0, 1, 4, 10, 11].contains code

/-- The drive datum of a drive code, from the channel's drive level (R29). -/
def datum (code : Nat) (lvl : Bool) : Bool :=
  if code = 4 then !lvl else code == 1 || code == 11

/-- A site's park state drawn with the edges of the VP (R116); hold draws nothing. `quiet`: the channel's format is OFF or
it is a DNRZ donor, whose DEN stays off and whose DRV stays as it is whatever the park state (R114, R115; log entry 42). -/
def drawPark (c : ChanOut × Nat) (t : Int) (s : Tset) (quiet : Bool) (mode : Nat) : ChanOut × Nat :=
  match mode with
  | 0 => let c := setDen c t s false; ({ c.1 with on := false }, c.2)
  | 1 => let c := if quiet then setDen c t s false else setDrv (setDen c t s true) t (fD1 s.a) false; ({ c.1 with on := true }, c.2)
  | 2 => let c := if quiet then setDen c t s false else setDrv (setDen c t s true) t (fD1 s.a) true; ({ c.1 with on := true }, c.2)
  | _ => if quiet then setDen c t s false else c

/-- The datum a DNRZ partner carries at D2 of a VP whose driver is on (R115). -/
def drawSecond (c : ChanOut × Nat) (t : Int) (s : Tset) (odd : Option Bool) : ChanOut × Nat :=
  match odd with
  | some y => setDrv c t (fD2 s.a) y
  | none => c

/-- The edges of a DNRZ donor, which take the offsets of the pair's even channel (R120). -/
def Dev.drawDonor (d : Dev) (ch : Nat) (c : ChanOut) (f : ChanOut × Nat → ChanOut × Nat) : ChanOut × Nat :=
  let r := f ({ c with offs := (Table.at d.chans {} (ch - 1)).offs }, 0)
  ({ r.1 with offs := c.offs }, r.2)

/-- The DRV edges of a drive code in a format (R113, R115); `odd`: the datum a DNRZ partner carries at D2. -/
def drawDrive (c : ChanOut × Nat) (t : Int) (s : Tset) (x : Bool) (odd : Option Bool) : ChanOut × Nat :=
  match s.format with
  | 1 => setDrv c t (fD1 s.a) x
  | 2 => setDrv (setDrv c t (fD1 s.a) x) t (fD2 s.a) false
  | 3 => setDrv (setDrv c t (fD1 s.a) x) t (fD2 s.a) true
  | 4 => setDrv (setDrv (setDrv c t 0 (!x)) t (fD1 s.a) x) t (fD2 s.a) (!x)
  | 5 =>
    drawSecond (setDrv c t (fD1 s.a) x) t s odd
  | _ => c

/-- One code drawn on a channel (R28, R29, R113, R114): the driver state and drive level follow, then the edges. -/
def drawCode (c : ChanOut × Nat) (t : Int) (s : Tset) (code : Nat) (odd : Option Nat) (oddLvl : Bool) (park : Nat) : ChanOut × Nat :=
  if code = 15 then drawPark c t s (s.format == 0) park
  else
    let drive := isDrive code
    let x := datum code c.1.lvl
    let on := drive || (code == 3 && c.1.on)
    let c : ChanOut × Nat := ({ c.1 with on := on, lvl := if drive then x else c.1.lvl }, c.2)
    let second : Option Bool := match odd with
      | some o => if isDrive o then some (datum o oddLvl) else none
      | none => none
    if s.format = 0 then setDen c t s false
    else
      let c := setDen c t s on
      if drive then drawDrive c t s x second
      else if on && s.format == 5 then drawSecond c t s second
      else c

/-- A code that is sampled: CL, CH, CM, CC, E0, E1 (R155). -/
def isSampled (code : Nat) : Bool := [5, 6, 7, 9, 10, 11].contains code

/-- The strobes of a sampled code placed for each comparator input (R117, R120): STB1, and STB2 in WINDOW mode or for a
DNRZ donor's code. -/
def drawStrobes (c : ChanOut × Nat) (t : Int) (s : Tset) (code : Nat) (oddCode : Option Nat) : ChanOut × Nat :=
  let at1 (e : Nat) (i : Nat) : Int := roundStart t + 128 * ((e : Int) + c.1.off i)
  let c1 := if isSampled code then
      placeEdge (placeEdge c 2 (at1 (fSTB1 s.b) 4) true) 4 (at1 (fSTB1 s.b) 5) true
    else c
  let two := (s.mode == 1 && isSampled code && code != 9) || (match oddCode with | some o => isSampled o | none => false)
  if two then placeEdge (placeEdge c1 3 (at1 (fSTB2 s.b) 4) true) 5 (at1 (fSTB2 s.b) 5) true else c1

/-- EDGE_CLASH of the channel and CLASH_TOTAL of its seam count the edges moved (R109, R111, R117). -/
def Dev.setChan (d : Dev) (ch : Nat) (c : ChanOut × Nat) : Dev :=
  let d := { d with chans := Table.put d.chans ch c.1 }
  if c.2 = 0 then d else (d.bumpBy (K.EDGE_CLASH ch) c.2).bumpBy (K.CLASH_TOTAL (ch / 16)) c.2

/-! Shadow copies (R122 to R125). -/

/-- The shadow copies of the listed sets become active for a gang and their sealed bits clear (R122). -/
def Dev.copySets (d : Dev) (n : Nat) (gang : List (Nat × Nat)) (sets : Nat) : Dev :=
  let d := (setBits 32 sets).foldl (fun d t =>
    gang.foldl (fun d p =>
      ((d.set (K.ACT_EDGE_A p.1 t) (d.get (K.EDGE_A p.1 t))).set (K.ACT_EDGE_B p.1 t) (d.get (K.EDGE_B p.1 t))).set
        (K.ACT_FMT p.1 t) (d.get (K.FMT p.1 t)))
      (d.set (K.ACT_PERIOD n t) (d.get (K.TSET_PERIOD n t)))) d
  d.set (K.TSET_SEAL n) ((setBits 32 sets).foldl clrBit (d.get (K.TSET_SEAL n)))

/-- A hand-over of the listed sets (R122): copies, the HANDOVER objects and the event, if at least one set is copied. -/
def Dev.handOver (d : Dev) (n : Nat) (gang : List (Nat × Nat)) (sets entry cycle : Nat) : Dev :=
  if sets = 0 then d
  else
    let d := d.copySets n gang sets
    let d := ((d.set (K.HANDOVER_SETS n) sets).set (K.HANDOVER_ENTRY n) entry).set (K.HANDOVER_CYCLE n) cycle
    (d.bump (K.HANDOVERS n)).event n Config.causeHandover.toNat (Config.infoHandover entry sets).toNat

/-- The engine that claims set t of SEQn: RUNNING or PAUSED (R208). -/
def Dev.claimed (d : Dev) (n t : Nat) : Bool :=
  (List.range 4).any (fun e =>
    (d.get (K.DWS_STATE e) == 2 || d.get (K.DWS_STATE e) == 3) && d.get (K.DWS_SEQ e) == n && d.get (K.DWS_TSET e) == t)

/-- The SEAL checks of R124 on every set of a mask, in ascending set order. -/
def Dev.sealCheck (d : Dev) (n mask : Nat) : Except Abort Unit :=
  (setBits 32 mask).foldlM (fun _ t => do
    need (!bit (d.get (K.TSET_SEAL n)) t) .sealed
    need (!d.claimed n t) .busy
    need (setValid (d.gangOf n) (fun ch => d.shadowSet n ch t) && d.get (K.TSET_PERIOD n t) != 0) .range
    need (!(d.seqLive n) || decide (periodP (d.get (K.TMIN n)) ≤ periodP (d.get (K.TSET_PERIOD n t)))) .range) ()

/-- The sets of a mask sealed; while the sequencer is STOPPED, DONE or ABORTED they hand over at once (R125), with
HANDOVER_ENTRY 0xFFFF; no segment starts, so HANDOVER_CYCLE takes a free value (log entry 4). -/
def Dev.seal (d : Dev) (n mask : Nat) : Dev :=
  let d := d.set (K.TSET_SEAL n) (d.get (K.TSET_SEAL n) ||| mask)
  if d.seqLive n ∨ mask = 0 then d else (d.free 64).2.handOver n (d.gangOf n) mask 0xFFFF (d.free 64).1

end Sys2Proof.Machine
end

