-- ==== Sys2Proof/Machine/FailLog.lean ====
section
/-! DEFINITION. Fail-log records, staging buffers and Sump regions (R165 to R175). -/

namespace Sys2Proof.Machine

/-- The channels of a site, ascending (R166). -/
def Dev.siteChans (d : Dev) (m : Nat) : List Nat :=
  (List.range 256).filter (fun ch => bit (d.get (K.CHAN_MAP m (ch / 64))) (ch % 64))

/-- A fail record (R165). -/
def recordRaw (map addr part last kind cflt iter entry site seq rseq cycle : Nat) : Nat :=
  fld 192 64 map + fld 168 24 (bits addr 0 24) + fld 144 24 (bits addr 24 24) + fld 136 8 (bits addr 48 8) +
  fld 135 1 (bits addr 56 1) + fld 133 2 part + fld 132 1 last + fld 129 3 kind + fld 128 1 cflt + fld 96 32 iter +
  fld 80 16 entry + fld 72 7 site + fld 64 6 seq + fld 48 16 rseq + fld 0 48 cycle

/-- The site's run state. -/
def Dev.site (d : Dev) (m : Nat) : SiteRun := Table.at d.siteRuns {} m
/-- The site's run state replaced. -/
def Dev.setSite (d : Dev) (m : Nat) (r : SiteRun) : Dev := { d with siteRuns := Table.put d.siteRuns m r }

/-- The site's event with one of its causes, at most once a run each (R161). -/
def Dev.siteEvent (d : Dev) (m cause : Nat) : Dev :=
  let r := d.site m
  if bit r.evts cause then d
  else (d.setSite m { r with evts := setBit r.evts cause }).event (64 + m) cause 0

/-- Slots of a staging buffer in ordinary space and in its reserve (R171). -/
def Staging.ordinary (s : Staging) : Nat := (s.recs.filter (fun r => !r.resv)).length
def Staging.reserve (s : Staging) : Nat := (s.recs.filter (·.resv)).length

/-- An ordinary record is admitted (R170): an ordinary slot that no waiting START or END takes first, room in its queue
outside the reserve with the records of that queue already in the buffer, and no waiting START of the site (R171). -/
def Dev.admits (d : Dev) (s : Staging) (q site : Nat) : Bool :=
  decide (s.ordinary + s.wait.length < 896) &&
  decide (512 + 4 * ((s.recs.filter (fun r => r.queue == q)).length + 1) ≤ d.qSpace q) &&
  !(s.wait.any (fun r => r.site == site && r.kind == 3))

/-- A START or END record waits in the home block, which holds at most one of each for a site: a further one takes the place of
the one that waits (R171; DESIGN CHOICE: log entry 57). -/
def Staging.hold (s : Staging) (r : LogRec) : Staging :=
  { s with wait := s.wait.filter (fun x => x.site != r.site || x.kind != r.kind) ++ [r] }

/-- A START or END record placed in the staging buffer or left waiting in the home block (R171). -/
def Staging.admitKey (s : Staging) (r : LogRec) : Staging :=
  if s.ordinary < 896 then { s with recs := s.recs ++ [{ r with resv := false }] }
  else if s.reserve < 128 then { s with recs := s.recs ++ [{ r with resv := true }] }
  else s.hold r

/-- A record of site m generated (R169, R170): RSEQ and LOG_RECORDS count it whether or not it is dropped. `mk` makes
its raw form from its RSEQ. Nothing is generated with LOG_EN 0. -/
def Dev.logRecord (d : Dev) (n m kind : Nat) (mk : Nat → Nat) : Dev :=
  let cfg := d.get (K.LOG_CFG m)
  if bit cfg 8 then
    let r := d.site m
    let q := cfg % 256
    let k := homeShaft n
    let s := Table.at d.staging {} k
    let d := (d.setSite m { r with rseq := (r.rseq + 1) % 65536 }).bump (K.LOG_RECORDS m)
    let newRec : LogRec := ⟨q, m, mk r.rseq, kind, false⟩
    if kind = 3 ∨ kind = 4 then
      let s' := if s.wait.isEmpty then s.admitKey newRec else s.hold newRec
      { d with staging := Table.put d.staging k s' }
    else if d.admits s q m then
      { d with staging := Table.put d.staging k { s with recs := s.recs ++ [newRec] } }
    else
      ((d.bump (K.LOG_DROPPED m)).setB (K.ACCT_FLAGS m) 0 true).siteEvent m 3
  else d

/-- The START record of a site at the start instant (R168). -/
def Dev.logStart (d : Dev) (n m tick : Nat) : Dev :=
  d.logRecord n m 3 (fun rs => recordRaw tick 0 0 1 3 0 0 (d.get (K.START_ENTRY n)) m n rs 0)

/-- The END record of a site at the end of a run (R168). -/
def Dev.logEnd (d : Dev) (n m : Nat) : Dev :=
  d.logRecord n m 4 (fun rs =>
    recordRaw (d.get (K.SITE_FAILS m)) (fld 0 24 (min 0xFFFFFF (d.get (K.LOG_DROPPED m))) +
      fld 24 24 (256 * d.get (K.PARK_CAUSE m) + d.get (K.ACCT_FLAGS m))) 0 1 4 0 0 (d.get (K.CUR_ENTRY n)) m n rs
      (d.get (K.CYCLE n)))

/-- The queue of a record has room for it: an ordinary record leaves the reserve of 128 records free, a START or END may
use it (R170, R171). -/
def LogRec.room (d : Dev) (r : LogRec) : Bool :=
  decide ((if r.kind = 3 ∨ r.kind = 4 then 4 else 516) ≤ d.qSpace r.queue)

/-- The first record whose queue has room, and the others; `held`: the queues an earlier record waits for, since each
queue gets its records in admission order (R170; log entry 50). -/
def pickDelivery (d : Dev) : List Nat → List LogRec → Option (LogRec × List LogRec)
  | _, [] => none
  | held, r :: l =>
    if r.room d && !(held.contains r.queue) then some (r, l)
    else (pickDelivery d (r.queue :: held) l).map (fun p => (p.1, r :: p.2))

/-- STAGING_DELIVER (R170): the first record whose queue has room leaves for it. -/
def Dev.deliver (d : Dev) (k : Nat) : Dev :=
  let s := Table.at d.staging {} k
  match pickDelivery d [] s.recs with
  | some (r, rest) => ({ d with staging := Table.put d.staging k { s with recs := rest } }).qPut r.queue (packetOf r.raw 4)
  | none => d

/-- START_END_ADMIT (R171): the oldest waiting record takes a slot that has freed. -/
def Dev.admitWaiting (d : Dev) (k : Nat) : Dev :=
  let s := Table.at d.staging {} k
  match s.wait with
  | r :: w =>
    if s.ordinary < 896 ∨ s.reserve < 128 then
      { d with staging := Table.put d.staging k (({ s with wait := w }).admitKey r) }
    else d
  | [] => d

/-- Queue q holds records in a staging buffer or home block (R243 STAGED). -/
def Dev.qStaged (d : Dev) (q : Nat) : Bool :=
  d.staging.any (fun p => p.2.recs.any (fun r => r.queue == q) || p.2.wait.any (fun r => r.queue == q))

/-- A live sequencer has a site logging to queue q (R243 FAILLOG, R175, R225). -/
def Dev.qLogged (d : Dev) (q : Nat) : Bool :=
  (List.range 128).any (fun m => bit (d.get (K.LOG_CFG m)) 8 && d.get (K.LOG_CFG m) % 256 == q &&
    decide (d.get (K.SITE_SEQ m) < 64) && d.seqLive (d.get (K.SITE_SEQ m)))

/-- Bound to a Sump region, a result stream or an input of a RUNNING, DONE or ABORTED graph (R243 CONSUMER). -/
def Dev.qSump (d : Dev) (q : Nat) : Bool :=
  (List.range 16).any (fun x => d.get (K.SUMP_STATE x) != 0 && d.get (K.SUMP_QUEUE x) == q)
def Dev.qStream (d : Dev) (q : Nat) : Bool :=
  (List.range 32).any (fun x => d.get (K.STREAM_STATE x) == 1 && d.get (K.STREAM_QUEUE x) == q)
def Dev.qGraphIn (d : Dev) (q : Nat) : Bool :=
  (List.range 64).any (fun g => d.get (K.GRAPH_STATE g) != 0 &&
    (List.range 4).any (fun i => [1, 2].contains (bits (d.get (K.IN_CFG g i)) 28 4) && d.get (K.IN_CFG g i) % 256 == q))
def Dev.qGraphOut (d : Dev) (q : Nat) : Bool :=
  (List.range 64).any (fun g => d.get (K.GRAPH_STATE g) == 2 && (List.range 8).any (fun o => d.get (K.OUT_Q g o) == q))
def Dev.qTram (d : Dev) (q lo : Nat) : Bool :=
  (List.range 16).any (fun c => d.get (K.TRAM_STATE c) == 2 &&
    (match (Table.at d.trams {} c).desc with
     | some (raw, _) => bits raw lo 4 == 3 && bits raw (if lo = 16 then 160 else 208) 8 == q
     | none => false))

/-- Q_BINDING (R243). -/
def Dev.qBinding (d : Dev) (q : Nat) : Nat :=
  b2n (d.qStaged q) + 2 * b2n (d.qSump q || d.qStream q || d.qGraphIn q) + 4 * b2n (d.qGraphOut q) +
  8 * b2n (d.qLogged q) + 16 * b2n (d.qTram q 16) + 32 * b2n (d.qTram q 20)

/-! DDR4 as seen by its users. -/

/-- A DDR4 area of R260: [base, base + size) in bytes contains [a, a + len). -/
def Dev.inArea (d : Dev) (base mib a len : Nat) : Bool :=
  decide (d.get base * 2 ^ 20 ≤ a) && decide (a + len ≤ (d.get base + d.get mib) * 2 ^ 20)

/-- Channels in service or configured, ascending (R258). -/
def Dev.ddrChans (d : Dev) : List Nat := setBits 8 (d.get K.CHAN_MASK)

/-- The channel of a byte address (R259). -/
def Dev.ddrChanOf (d : Dev) (a : Nat) : Nat :=
  let l := d.ddrChans
  l.getD ((a / 256) % max 1 l.length) 0

/-- Bursts of the access to [a, a + len). -/
def burstsOf (a len : Nat) : Nat := (a + len + 63) / 64 - a / 64

/-- The bursts of one access wait at a port of their channels (R267); those of a write hold its bytes. `seen`: the burst
addresses whose uncorrectable outcome the reader has acted on; `src`, `lines`: as in Burst. -/
def Dev.ddrTraffic (d : Dev) (port a len : Nat) (write : Bool) (data : List Byte := []) (seen : List Nat := [])
    (src : Nat := 0) (lines : List Nat := []) : Dev :=
  (List.range (burstsOf a len)).foldl (fun d i =>
    let b := (a / 64 + i) * 64
    let c := d.ddrChanOf b
    let ch := Table.at d.ddr {} c
    let be := maskOf ((List.range 64).filter (fun j => decide (a ≤ b + j) && decide (b + j < a + len)))
    let lo := max a b
    let burst : Burst := { port := port, addr := b, write := write, be := be, first := lo,
                           data := (data.drop (lo - a)).take (b + 64 - lo), seen := seen.contains b,
                           src := src, lines := lines }
    { d with ddr := Table.put d.ddr c { ch with ports := ch.ports ++ [burst] } }) d

/-- The port object of PORT_BYTES counts a burst; scrub bursts count nowhere (R263). -/
def Dev.portBytes (d : Dev) (c port : Nat) : Dev := if port < 5 then d.bumpBy (K.PORT_BYTES c port) 64 else d

/-! RT panic (R48, R267). -/

/-- RT panic is asserted: a refill window of a sequencer is in PANIC. -/
def Dev.rtPanic (d : Dev) : Bool := d.wins.any (fun p => bits (d.get (K.WIN_STAT (p.1 / 16) (p.1 % 16))) 16 3 == 3)

/-- What an assertion or release of RT panic does to the channels' drain modes (R267). -/
def Dev.panicSync (d : Dev) (old : Bool) : Dev :=
  let now := d.rtPanic
  if now = old then d
  else if now then
    ({ d with ddr := d.ddr.map (fun p => (p.1, { p.2 with drain := p.2.drain && decide (64 ≤ p.2.wq.length) })) } : Dev).bump
      K.PANIC_ASSERTS
  else
    d.ddr.foldl (fun (d : Dev) p =>
      if d.get K.WR_HIGH ≤ p.2.wq.length ∧ !p.2.drain then
        ({ d with ddr := Table.put d.ddr p.1 { p.2 with drain := true } } : Dev).bump (K.DRAIN_BATCHES p.1)
      else d) d

/-- STATE of a window (R47). -/
def Dev.winState (d : Dev) (n w : Nat) : Nat := bits (d.get (K.WIN_STAT n w)) 16 3

/-- STATE of a window replaced; RT panic follows (R48). -/
def Dev.setWinState (d : Dev) (n w st : Nat) : Dev := (d.setF (K.WIN_STAT n w) 16 3 st).panicSync d.rtPanic

/-- A DDR4 write: bytes are stored and the bursts queued; while the controller is FAILED its bursts are discarded and
counted (R272). The bytes are seen at once, and stored once more as their burst is admitted, so that writes to one burst
end in the order of admission (R268; log entry 15). Words written whole are no longer marked uncorrectable. -/
def ddrWrite (m : Memory) (d : Dev) (port a : Nat) (l : List Byte) : Memory × Dev :=
  if d.get K.DDR_STATE = 5 then (m, d.bumpBy K.WRITES_LOST (burstsOf a l.length))
  else
    let bad := d.badDdr.filter (fun w => !(decide (a ≤ w) && decide (w + 8 ≤ a + l.length)))
    (Memory.wrN m (ddrAt a) l, ({ d with badDdr := bad } : Dev).ddrTraffic port a l.length true l)

/-! Sump regions (R173 to R175). -/

/-- One packet leaves the queue of a bound region; a FULL FILL region drains no more (R174). -/
def sumpDrainOnce (m : Memory) (d : Dev) (x : Nat) : Memory × Dev :=
  let q := d.get (K.SUMP_QUEUE x)
  if d.get (K.SUMP_STATE x) = 0 ∨ d.get (K.SUMP_STATE x) = 2 ∧ d.get (K.SUMP_MODE x) = 0 ∨
      d.get K.DDR_STATE ≠ 3 ∧ d.get K.DDR_STATE ≠ 5 then (m, d)
  else match firstPacket (d.tarn q).held with
  | none => (m, d)
  | some p =>
    let len := 8 * p.length
    let size := d.get (K.SUMP_KIB x) * 1024
    let wr := d.get (K.SUMP_WR x)
    let bytes := p.flatMap (fun w => toBytes 8 w.1)
    if size < len then (m, (d.qTake q p.length).bump (K.SUMP_DISCARDED x))
    else if d.get (K.SUMP_MODE x) = 0 then
      if wr + len ≤ size then
        let r := ddrWrite m d 1 (d.get (K.SUMP_BASE x) + wr) bytes
        (r.1, (r.2.qTake q p.length).set (K.SUMP_WR x) (wr + len))
      else (m, d.set (K.SUMP_STATE x) 2)
    else if wr - d.get (K.SUMP_RD x) + len ≤ size then
      let at0 := wr % size
      let head := bytes.take (size - at0)
      let r := ddrWrite m d 1 (d.get (K.SUMP_BASE x) + at0) head
      let r := if bytes.length ≤ size - at0 then r else ddrWrite r.1 r.2 1 (d.get (K.SUMP_BASE x)) (bytes.drop (size - at0))
      (r.1, ((r.2.qTake q p.length).set (K.SUMP_WR x) (wr + len)).set (K.SUMP_STATE x) 1)
    else (m, d.set (K.SUMP_STATE x) 2)

/-- The own checks of SUMP_CMD BIND (R175, R266). -/
def Dev.sumpBindChecks (d : Dev) (x : Nat) : Except Abort Unit := do
  need (d.get (K.SUMP_STATE x) == 0) .state
  need (d.get K.DDR_STATE == 3) .state
  let q := d.get (K.SUMP_QUEUE x)
  need (d.inArea K.SUMP_AREA_BASE K.SUMP_AREA_MIB (d.get (K.SUMP_BASE x)) (d.get (K.SUMP_KIB x) * 1024) &&
    decide (0 < d.get (K.SUMP_KIB x)) && decide (q < 256) && d.get (K.Q_SIZE q) == 9) .range
  need (!(d.qSump q) && !(d.qGraphIn q) && !(d.qStream q)) .busy

/-- BIND (R175). -/
def Dev.sumpBound (d : Dev) (x : Nat) : Dev :=
  ((d.set (K.SUMP_WR x) 0).set (K.SUMP_RD x) 0).set (K.SUMP_STATE x) 1

/-- A write of SUMP_RD (R174); a region that was FULL drains again when a packet may fit. -/
def Dev.sumpRd (d : Dev) (x v : Nat) : Except Abort Dev := do
  need (d.get (K.SUMP_MODE x) == 1) .state
  need (v % 8 == 0 && decide (d.get (K.SUMP_RD x) ≤ v) && decide (v ≤ d.get (K.SUMP_WR x))) .range
  .ok (d.set (K.SUMP_RD x) v)

end Sys2Proof.Machine
end

