-- ==== Sys2Proof/Machine/Compare.lean ====
section
/-! DEFINITION. Sampling, decoding and judgement (R153 to R156), and which results count (R157, R163). -/

namespace Sys2Proof.Machine

/-- The state two comparator levels decode to (R153, R154): 0 L, 1 H, 2 M, 3 INVALID. `s` is CMPH + 2 CMPL. -/
def decodeState (s : Nat) : Nat :=
  match s % 4 with
  | 2 => 0
  | 1 => 1
  | 0 => 2
  | _ => 3

/-- The state a judged code expects (R155). -/
def expectedState (code : Nat) : Option Nat :=
  if code = 5 ∨ code = 10 then some 0
  else if code = 6 ∨ code = 11 then some 1
  else if code = 7 then some 2
  else none

/-- The result of one sampled code (R155, R156). `mode` is CMP_MODE; `s` the sample at the code's strobe; `win` and
`brief` what a WINDOW saw for at least, and for less than, 30 ps (R119); `fb` the free outcome of a brief deviation. -/
def judge (ch mode code s : Nat) (win brief : List Nat) (fb : Bool) : Res :=
  let st := decodeState s
  match expectedState code with
  | none => ⟨ch, st, false, true, st == 3⟩
  | some e =>
    if mode = 2 then ⟨ch, st, false, true, st == 3⟩
    else if mode = 1 then
      let seen := win.map decodeState
      let br := brief.map decodeState
      let bad := seen.any (· != e) || (br.any (· != e) && fb)
      ⟨ch, st, true, !bad, seen.contains 3 || (br.contains 3 && fb)⟩
    else ⟨ch, st, true, st == e, st == 3⟩

/-- A site's result at an issued VP is discarded (R163). -/
def Dev.discarded (d : Dev) (m : Nat) (f : InFlight) : Bool :=
  let r := d.site m
  d.get (K.SITE_COND m) == 0 ||
  (match r.discFrom with | some c => decide (c ≤ f.cycle) | none => false) ||
  (match r.matched with | some (sg, it) => sg == f.seg && decide (it < f.iter) | none => false)

/-- A channel's FAIL_MASK bit at its site (R157). -/
def Dev.failMasked (d : Dev) (m ch : Nat) : Bool := bit (d.get (K.FAIL_MASK m (ch / 64))) (ch % 64)

/-- The VP belongs to a MATCH segment (R78). -/
def InFlight.inMatch (f : InFlight) : Bool := bits f.raw 144 3 == 2

/-- The results of a site's channels at a VP. -/
def Dev.siteRes (d : Dev) (m : Nat) (f : InFlight) : List Res :=
  f.res.filter (fun r => bit (d.get (K.CHAN_MAP m (r.chan / 64))) (r.chan % 64))

/-- The unmasked failing results of a site at a VP, ascending by channel (R157). -/
def Dev.siteFails (d : Dev) (m : Nat) (f : InFlight) : List Res :=
  (d.siteRes m f).filter (fun r => r.judged && !r.pass && !(d.failMasked m r.chan))

/-- The site a gang channel belongs to. -/
def siteOfChan (gang : List (Nat × Nat)) (ch : Nat) : Nat := ((gang.find? (fun p => p.1 == ch)).map (·.2)).getD 128

/-- The logical address of a site's result (R150): Z, Y and X in [55:0] with bit 56 VALID, from the lowest-numbered
Hewer that maps a channel of the site and covered the granule; 0 if none. -/
def Dev.addrOf (d : Dev) (m : Nat) (f : InFlight) : Nat :=
  match f.addr.find? (fun p => (d.siteChans m).any (fun ch => bit (d.get (K.PINMAP_EN p.1 (ch / 64))) (ch % 64))) with
  | some (_, a) => a % 2 ^ 56 + 2 ^ 56
  | none => 0

end Sys2Proof.Machine
end

