-- ==== Sys2Proof/Machine/Assay.lean ====
section
/-! DEFINITION. Assay units: samples, triggers, records, reductions, capture space and the mask test (R177 to R201). -/

namespace Sys2Proof.Machine

def Dev.asy (d : Dev) (u : Nat) : Assay := Table.at d.assays {} u
def Dev.setAsy (d : Dev) (u : Nat) (a : Assay) : Dev := { d with assays := Table.put d.assays u a }

/-- Bits an entry takes (R178). -/
def asyBits (d : Dev) (u : Nat) : Nat := if d.get (K.ASY_SOURCE u) = 1 then 2 else 1

/-- S, the bytes of a sample (R180). -/
def asyS (d : Dev) (u : Nat) : Nat :=
  8 * ceilDiv (d.get (K.SEL_COUNT u) * asyBits d u) 64 + 8 * (d.get (K.CAP_FLAGS u) % 2)

/-- Section sizes of a record in order: header, raw, fail-OR bitmap, fail counts, first and last, transitions (R188). -/
def asySections (d : Dev) (u : Nat) : List Nat :=
  let n := d.get (K.PRE_DEPTH u) + d.get (K.POST_COUNT u)
  let red := d.get (K.REDUCE u)
  [64, if bit red 0 then 64 * ceilDiv (n * asyS d u) 64 else 0, if bit red 2 then 64 * ceilDiv n 512 else 0,
   if bit red 1 then 256 else 0, if bit red 3 then 1024 else 0, if bit red 4 then 256 else 0]

/-- R, the bytes of a record (R188). -/
def asyR (d : Dev) (u : Nat) : Nat := (asySections d u).sum

/-- CAP_MAX (R192). -/
def asyCapMax (d : Dev) (u : Nat) : Nat := 1048576 + 1024 * d.get (K.SPILL_KIB u)

/-- Selected channel or site of entry j (R181). -/
def asySel (d : Dev) (u j : Nat) : Nat := d.get (K.SEL u j) % 256

/-- Entry j of a sample, and whether its result was discarded (R178, R179). `prev`: the state stored last. -/
def asyEntry (d : Dev) (u j : Nat) (gang : List (Nat × Nat)) (f : InFlight) (prev : Nat) : Nat × Bool :=
  let x := asySel d u j
  match d.get (K.ASY_SOURCE u) with
  | 1 =>
    let disc := d.discarded (siteOfChan gang x) f
    ((match f.res.find? (fun r => r.chan == x) with | some r => r.st | none => prev), disc)
  | 2 =>
    let disc := d.discarded x f
    (if disc || f.inMatch then 0 else b2n (!(d.siteFails x f).isEmpty), disc)
  | _ =>
    let disc := d.discarded (siteOfChan gang x) f
    (if disc then 0 else b2n (f.res.any (fun r => r.chan == x && r.judged && !r.pass)), disc)

/-- The sample a retired VP gives a unit (R177, R178). -/
def asySampleOf (d : Dev) (u : Nat) (gang : List (Nat × Nat)) (f : InFlight) : AsySample :=
  let es := (List.range (d.get (K.SEL_COUNT u))).map (fun j => asyEntry d u j gang f (bits (d.asy u).lastCap (2 * j) 2))
  ⟨f.cycle, (es.zipIdx.map (fun p => p.1.1 * 4 ^ p.2)).sum, (es.zipIdx.map (fun p => b2n p.1.2 * 2 ^ p.2)).sum, f.inMatch⟩

/-- Bytes of a sample as stored (R180). -/
def asyBytes (d : Dev) (u : Nat) (x : AsySample) : List Byte :=
  let k := d.get (K.SEL_COUNT u)
  let data := if d.get (K.ASY_SOURCE u) = 1 then x.vals
    else ((List.range k).map (fun j => bits x.vals (2 * j) 2 * 2 ^ j)).sum
  toBytes (8 * ceilDiv (k * asyBits d u) 64) data ++
    (if d.get (K.CAP_FLAGS u) % 2 = 1 then
      toBytes 8 (fld 55 1 (b2n (x.disc != 0)) + fld 54 1 (b2n x.mseg) + fld 0 48 x.cycle) else [])

/-- Value of entry j in a sample. -/
def asyVal (x : AsySample) (j : Nat) : Nat := bits x.vals (2 * j) 2

/-- Bytes of closed records not evicted. -/
def asyClosedHeld (d : Dev) (u : Nat) : Nat := d.get (K.CAP_WR u) - (d.asy u).evicted - ((d.asy u).skip.map (·.2)).sum

/-- On-chip occupancy with `k` post-trigger samples recorded (R192, log entry 16): bytes of closed records and of the
current record's header, ring, samples and fail-OR bitmap that are not evicted. -/
def asyOccupancy (d : Dev) (u k : Nat) : Nat :=
  let a := d.asy u
  let n := d.get (K.PRE_DEPTH u) + k
  let raw := if bit (d.get (K.REDUCE u)) 0 then n * asyS d u else 0
  let map := if bit (d.get (K.REDUCE u)) 2 then ceilDiv n 8 else 0
  asyClosedHeld d u + 64 + raw + map - a.evCur - a.evMap

/-- On-chip occupancy of an ARMED unit whose ring takes samples: bytes of closed records not evicted, and the header and ring
reserved for the current record (R192, R200, log entry 16). -/
def asyReserved (d : Dev) (u : Nat) : Nat :=
  asyClosedHeld d u + 64 + (if bit (d.get (K.REDUCE u)) 0 then d.get (K.PRE_DEPTH u) * asyS d u else 0)

/-- First capture-space byte of the current record's bitmap section, and of its slot k in the raw section (R188, R190). -/
def asyMapAt (d : Dev) (u : Nat) : Nat := d.get (K.CAP_WR u) + 64 + (asySections d u).getD 1 0
def asySlotAt (d : Dev) (u k : Nat) : Nat := d.get (K.CAP_WR u) + 64 + k * asyS d u

/-- First byte beyond what is written of the capture space: closed records and the current record's slots. -/
def asyTop (d : Dev) (u : Nat) : Nat :=
  if (d.get (K.ASY_STATE u) = 1 ∨ d.get (K.ASY_STATE u) = 2) ∧ bit (d.get (K.REDUCE u)) 0 then
    asySlotAt d u (d.get (K.PRE_DEPTH u) + (d.asy u).post.length)
  else d.get (K.CAP_WR u)

/-- The capture-space byte that byte b of the on-chip buffer holds: of those with b as remainder the last one written
(R192). -/
def asyOnChip (d : Dev) (u b : Nat) : Nat :=
  if b < asyTop d u then b + (asyTop d u - 1 - b) / 1048576 * 1048576 else b

/-- Bytes written to the capture space from byte o on. -/
def asyWrite (m : Memory) (u o : Nat) (l : List Byte) : Memory := Memory.wrN m (assayAt u o) l

/-- The transition count of entry j over consecutive samples (R191). -/
def transitions (j : Nat) : List AsySample → Nat
  | x :: y :: l => b2n (asyVal x j != asyVal y j) + transitions j (y :: l)
  | _ => 0

/-- Some recorded samples are not consecutive in CYCLE (R189 GAPS). -/
def hasGap : List AsySample → Bool
  | x :: y :: l => y.cycle != x.cycle + 1 || hasGap (y :: l)
  | _ => false

/-- The reduction sections over the record's valid samples (R191), `slots` giving each sample's raw slot. -/
def asyReductions (d : Dev) (u : Nat) (xs : List (Nat × AsySample)) : List (List Byte) :=
  let red := d.get (K.REDUCE u)
  let n := d.get (K.PRE_DEPTH u) + d.get (K.POST_COUNT u)
  let ss := xs.map (·.2)
  [ if bit red 2 then toBytes (64 * ceilDiv n 512)
      ((xs.map (fun p => b2n (p.2.vals != 0) * 2 ^ p.1)).sum) else [],
    if bit red 1 then (List.range 64).flatMap (fun j =>
      toBytes 4 (min 0xFFFFFFFF (ss.filter (fun x => asyVal x j == 1)).length)) else [],
    if bit red 3 then (List.range 64).flatMap (fun j =>
      let l := ss.filter (fun x => asyVal x j == 1)
      let one (o : Option AsySample) : Nat := match o with | some x => 2 ^ 63 + x.cycle % 2 ^ 48 | none => 0
      toBytes 8 (one l.head?) ++ toBytes 8 (one l.getLast?)) else [],
    if bit red 4 then (List.range 64).flatMap (fun j => toBytes 4 (min 0xFFFFFFFF (transitions j ss))) else [] ]

/-- The header of the record being closed (R189); `flags`: [102:96] but COMPLETE and GAPS. -/
def asyHeader (d : Dev) (u : Nat) (overrun cut stopped : Bool) : Nat :=
  let a := d.asy u
  let pre := a.ring.length
  let depth := d.get (K.PRE_DEPTH u)
  fld 448 32 (asyS d u) + fld 416 32 a.firstV + fld 384 32 a.viol + fld 352 32 (asyR d u) + fld 344 8 a.trigSel +
  fld 336 8 a.trigKind + fld 256 80 a.trigTb0 + fld 192 64 a.trigTb1 + fld 176 16 (bits (d.get (K.ASY_STATUS u)) 16 16) +
  fld 128 48 a.trigCyc + fld 120 8 (d.get (K.SEL_COUNT u)) + fld 112 8 (d.get (K.ASY_SOURCE u)) +
  fld 102 1 (d.get (K.CAP_FLAGS u) % 2) + fld 101 1 (b2n (hasGap (a.ring ++ a.post))) + fld 100 1 (b2n a.forced) +
  fld 99 1 (b2n stopped) + fld 98 1 (b2n cut) + fld 97 1 (b2n overrun) +
  fld 96 1 (b2n (a.post.length == d.get (K.POST_COUNT u))) +
  fld 64 32 (if pre < depth then 0 else if depth = 0 then 0 else a.ringCnt % depth) + fld 32 32 a.post.length + fld 0 32 pre

/-- Closing a record (R188 to R192): header, raw, bitmap and reductions are written, CAP_WR and RECORDS_DONE advance.
Slots that received no sample read 0 and take no room on chip, whose 1,048,576 bytes ONCHIP_PEAK never exceeds. RECORD_DONE is
raised at every close, those with OVERRUN, CUT and MASK_STOPPED included (DESIGN CHOICE: log entry 57). -/
def asyClose (m : Memory) (d : Dev) (u : Nat) (overrun cut stopped : Bool) : Memory × Dev :=
  let a := d.asy u
  let base := d.get (K.CAP_WR u)
  let depth := d.get (K.PRE_DEPTH u)
  let s := asyS d u
  let start := a.ringCnt - a.ring.length
  let slots := a.ring.zipIdx.map (fun p => ((start + p.2) % max 1 depth, p.1)) ++ a.post.zipIdx.map (fun p => (depth + p.2, p.1))
  let rawLen := (asySections d u).getD 1 0
  let body := List.replicate (rawLen / max 1 s) (List.replicate s (0 : Byte))
  let raw := (slots.foldl (fun (l : List (List Byte)) p => l.set p.1 (asyBytes d u p.2)) body).flatten
  let all := toBytes 64 (asyHeader d u overrun cut stopped) ++
    (if rawLen = 0 then [] else raw ++ List.replicate (rawLen - raw.length) 0) ++ (asyReductions d u slots).flatten
  let m := asyWrite m u base all
  let recNo := bits (d.get (K.ASY_STATUS u)) 16 16
  let skip := a.skip ++ [(base + 64 + depth * s, a.evCur), (base + 64 + rawLen + ceilDiv depth 8, a.evMap)].filter (fun p => p.2 != 0)
  let d := d.setAsy u { a with post := [], evCur := 0, evMap := 0, skip := skip }
  let d := (d.set (K.CAP_WR u) (base + asyR d u)).setF (K.ASY_STATUS u) 16 16 (recNo + 1)
  let absent := if rawLen = 0 then 0 else (d.get (K.POST_COUNT u) - a.post.length) * s
  (m, (d.keepMax (K.ONCHIP_PEAK u) (min 1048576 (asyClosedHeld d u - absent))).event (192 + u) 1 recNo)

/-- The unit stops taking samples in state `st`: no ring, no re-arm interval, PRE_FULL and REARMING 0 (R181). -/
def asyQuiet (d : Dev) (u st : Nat) : Dev :=
  (((d.setAsy u { d.asy u with post := [], ring := [], ringCnt := 0, rearm := 0, evCur := 0, evMap := 0 }).setB
    (K.ASY_STATUS u) 1 false).setB (K.ASY_STATUS u) 2 false).set (K.ASY_STATE u) st

/-- The linked sequencer's end, or DISARM, closes what the unit is doing and leaves it in `final` (R197). -/
def asyEnd (m : Memory) (d : Dev) (u final : Nat) : Memory × Dev :=
  let st := d.get (K.ASY_STATE u)
  if st = 2 then
    let recNo := bits (d.get (K.ASY_STATUS u)) 16 16
    let full := (d.asy u).post.length == d.get (K.POST_COUNT u)
    let r := asyClose m d u false (!full) false
    let d := if full then r.2 else r.2.event (192 + u) 6 recNo
    (r.1, asyQuiet d u final)
  else (m, asyQuiet d u final)

/-- Whether entry values stay within template vector v (R194); discarded entries are not tested. -/
def maskOk (m : Memory) (d : Dev) (u v : Nat) (x : AsySample) : Bool :=
  (List.range (d.get (K.SEL_COUNT u))).all (fun j =>
    bit x.disc j ||
    (let b := (Memory.rd m d.fresh (domAt (K.MASK_TEMPLATE u) (32 * v + j / 2))).toNat
     bit (if j % 2 = 0 then b % 16 else b / 16) (asyVal x j)))

/-- The level the qualifier sees at a VP (R184, R185). -/
def asyLevel (d : Dev) (u : Nat) (f : InFlight) : Bool :=
  let src := d.get (K.TRIG_SRC u)
  let line := bit f.lines (if bits src 12 4 = 1 then src % 8 else 8 + src % 8)
  if d.get (K.TRIG_COND u) = 4 then !line else line

/-- The qualifier of R186 at a sample: the new count and how often it is satisfied. -/
def asyQualify (d : Dev) (u : Nat) (f : InFlight) : Assay × Nat :=
  let a := d.asy u
  let kind := bits (d.get (K.TRIG_SRC u)) 12 4
  let cnt := max 1 (d.get (K.TRIG_COUNT u))
  let levelK := (kind == 1 || kind == 2) && decide (3 ≤ d.get (K.TRIG_COND u))
  if kind = 0 then (a, 0)
  else if levelK then
    if asyLevel d u f then (if a.qual + 1 = cnt then ({ a with qual := 0 }, 1) else ({ a with qual := a.qual + 1 }, 0))
    else ({ a with qual := 0 }, 0)
  else
    let k := if kind = 3 then b2n (f.first && bit f.raw 108) else (a.events.filter (fun c => decide (c ≤ f.cycle))).length
    let a := { a with events := a.events.filter (fun c => decide (f.cycle < c)) }
    ({ a with qual := (a.qual + k) % cnt }, (a.qual + k) / cnt)

/-- MISSED_TRIG counts `k` satisfactions; the first in an arm raises the event of record `recNo` (R186). -/
def asyMissed (d : Dev) (u k recNo : Nat) : Dev :=
  if k = 0 then d
  else
    let d := d.bumpBy (K.MISSED_TRIG u) k
    let a := d.asy u
    if a.missedEv then d else (d.setAsy u { a with missedEv := true }).event (192 + u) 5 recNo

/-- A sample enters the pre-trigger ring, in its slot of the capture space (R190, R192); where the room of the ring would exceed
the buffer, the record is closed with OVERRUN, no trigger taken (R193, log entry 16). -/
def asyRing (m : Memory) (d : Dev) (u : Nat) (x : AsySample) : Memory × Dev :=
  let depth := d.get (K.PRE_DEPTH u)
  let a := d.asy u
  if depth = 0 then (m, d)
  else if 1048576 < asyReserved d u then
    let recNo := bits (d.get (K.ASY_STATUS u)) 16 16
    let d := d.setAsy u { a with viol := 0, firstV := 0xFFFFFFFF, trigKind := 0, trigSel := 0, trigTb0 := 0, trigTb1 := 0, trigCyc := 0 }
    let r := asyClose m d u true false false
    (r.1, (asyQuiet (r.2.setB (K.ASY_STATUS u) 3 true) u 4).event (192 + u) 3 recNo)
  else
    let d := d.keepMax (K.ONCHIP_PEAK u) (asyReserved d u)
    let m := if bit (d.get (K.REDUCE u)) 0 then asyWrite m u (asySlotAt d u (a.ringCnt % depth)) (asyBytes d u x) else m
    let ring := (if a.ring.length < depth then a.ring else a.ring.drop 1) ++ [x]
    (m, (d.setAsy u { a with ring := ring, ringCnt := a.ringCnt + 1 }).setB (K.ASY_STATUS u) 2 (ring.length == depth))

/-- The bitmap byte of raw slot k over the post-trigger samples recorded (R191). -/
def asyMapByte (d : Dev) (u k : Nat) : Byte :=
  let depth := d.get (K.PRE_DEPTH u)
  BitVec.ofNat 8 (((List.range 8).map (fun b =>
    match (d.asy u).post[k / 8 * 8 + b - depth]? with
    | some x => if depth ≤ k / 8 * 8 + b ∧ x.vals ≠ 0 then 2 ^ b else 0
    | none => 0)).sum)

/-- The re-arm interval ends (R186): qualifier count 0, ring empty. -/
def asyRearmEnd (d : Dev) (u : Nat) : Dev :=
  let a := d.asy u
  if bit (d.get (K.ASY_STATUS u)) 1 && a.rearm == 0 then
    ((d.setAsy u { a with qual := 0, ring := [], ringCnt := 0 }).setB (K.ASY_STATUS u) 1 false).setB (K.ASY_STATUS u) 2 false
  else d

/-- A post-trigger sample: OVERRUN, recording, mask test, end of the record (R193 to R198). The flag asks for a STOP of
the linked sequencer (R196). -/
def asyPost (m : Memory) (d : Dev) (u : Nat) (x : AsySample) : Memory × Dev × Bool :=
  let a := d.asy u
  let i := a.post.length
  let recNo := bits (d.get (K.ASY_STATUS u)) 16 16
  if 1048576 < asyOccupancy d u (i + 1) then
    let r := asyClose m d u true false false
    (r.1, (asyQuiet (r.2.setB (K.ASY_STATUS u) 3 true) u 4).event (192 + u) 3 recNo, false)
  else
    let d := d.keepMax (K.ONCHIP_PEAK u) (asyOccupancy d u (i + 1))
    let slot := d.get (K.PRE_DEPTH u) + i
    let m := if bit (d.get (K.REDUCE u)) 0 then asyWrite m u (asySlotAt d u slot) (asyBytes d u x) else m
    let cfg := d.get (K.MASK_CFG u)
    let len := max 1 (d.get (K.MASK_LEN u))
    let tested := cfg % 4 == 2 || (cfg % 4 == 1 && decide (i < len))
    let bad := tested && !(maskOk m d u (i % len) x)
    let d := d.setAsy u { a with post := a.post ++ [x], viol := if bad then satAdd 0xFFFFFFFF a.viol 1 else a.viol, firstV := if bad && a.viol == 0 then i else a.firstV }
    let m := if bit (d.get (K.REDUCE u)) 2 then asyWrite m u (asyMapAt d u + slot / 8) [asyMapByte d u slot] else m
    let note (d : Dev) : Dev := if bad && a.viol == 0 then d.event (192 + u) 4 recNo else d
    if bad && bit cfg 2 then
      let r := asyClose m d u false false true
      (r.1, note (asyQuiet r.2 u 4), bit cfg 3)
    else if i + 1 = d.get (K.POST_COUNT u) then
      let r := asyClose m d u false false false
      if recNo + 1 < d.get (K.REC_COUNT u) then
        (r.1, note (((r.2.setAsy u { r.2.asy u with rearm := 1024 }).setB (K.ASY_STATUS u) 1 true).set (K.ASY_STATE u) 1), false)
      else (r.1, note ((asyQuiet r.2 u 4).event (192 + u) 2 recNo), false)
    else (m, note d, false)

/-- One retired, unsquashed VP at a linked unit (R177, R186, R187, R198). The flag asks for a STOP of the sequencer. The state a
CAPTURE entry stores last follows every sample, recorded or not; where a FORCE and a source trigger meet, TRIG_KIND and TRIG_SELECT
show the source, also where it is early, which is then not counted in EARLY_IGNORED (DESIGN CHOICE: log entry 57). -/
def asySample (m : Memory) (d : Dev) (u : Nat) (gang : List (Nat × Nat)) (f : InFlight) : Memory × Dev × Bool :=
  let st := d.get (K.ASY_STATE u)
  if st ≠ 1 ∧ st ≠ 2 then (m, d, false)
  else
    let d := asyRearmEnd d u
    let x := asySampleOf d u gang f
    let q := asyQualify d u f
    let d := d.setAsy u { q.1 with lastCap := x.vals }
    let recNo := bits (d.get (K.ASY_STATUS u)) 16 16
    if st = 2 then
      let r := asyPost m d u x
      (r.1, asyMissed r.2.1 u q.2 recNo, r.2.2)
    else if bit (d.get (K.ASY_STATUS u)) 1 then
      let d := asyMissed d u q.2 recNo
      (m, d.setAsy u { d.asy u with rearm := (d.asy u).rearm - 1 }, false)
    else
      let a := d.asy u
      let early := bit (d.get (K.CAP_FLAGS u)) 1 && decide (a.ring.length < d.get (K.PRE_DEPTH u))
      if a.force || (decide (0 < q.2) && !early) then
        let src := d.get (K.TRIG_SRC u)
        let tick := (f.t / 2560000).toNat
        let kind := if q.2 = 0 then 0 else bits src 12 4
        let sel := if q.2 = 0 ∨ bits src 12 4 = 3 then 0 else src % 32
        let a := { a with force := false, forced := a.force, viol := 0, firstV := 0xFFFFFFFF }
        let d := d.setAsy u { a with trigKind := kind, trigSel := sel, trigTb0 := f.tb0, trigTb1 := tick, trigCyc := f.cycle }
        let r := asyPost m (d.set (K.ASY_STATE u) 2) u x
        (r.1, asyMissed r.2.1 u (q.2 - 1) recNo, r.2.2)
      else
        let d := if 0 < q.2 then d.bumpBy (K.EARLY_IGNORED u) q.2 else d
        let p := asyRing m d u x
        (p.1, p.2, false)

/-- An edge or alarm firing reaches the units whose qualifier names it (R185): it maps to the first VP issued after it,
whose vector start at the channels lies 40 ns later (LAUNCH_LATENCY, R107; log entry 17), VP 0 before the start. `kind`,
`sel` as in TRIG_SRC. -/
def asyNotify (d : Dev) (kind sel : Nat) (rising : Bool) : Dev :=
  (List.range 16).foldl (fun d u =>
    let src := d.get (K.TRIG_SRC u)
    let st := d.get (K.ASY_STATE u)
    let cond := d.get (K.TRIG_COND u)
    let hit := kind == 4 || cond == 2 || (cond == 0 && rising) || (cond == 1 && !rising)
    if (st = 1 ∨ st = 2) ∧ bits src 12 4 = kind ∧ (if kind = 4 then src % 32 = sel else src % 8 = sel) ∧ hit then
      let a := d.asy u
      let n := d.get (K.ASY_SEQ u)
      d.setAsy u { a with events := a.events ++ [if d.get (K.SEQ_STATE n) = 1 then 0 else d.get (K.CYCLE n)] }
    else d) d

/-- The checks of ASY_CMD ARM (R201, R283), in order. -/
def asyArmChecks (d : Dev) (u : Nat) : Except Abort Unit := do
  need (!(d.loading [K.MASK_TEMPLATE u])) .busy
  need d.canArm .state
  need (d.get (K.ASY_STATE u) == 0 || d.get (K.ASY_STATE u) == 4) .state
  let n := d.get (K.ASY_SEQ u)
  need (decide (n < 64) && d.seqLive n) .state
  let spill := d.get (K.SPILL_KIB u)
  need (d.domOn (47 + u / 8) && (spill == 0 || d.get K.DDR_STATE == 3)) .state
  need (!(bit (d.get K.UNIT_FAILED) u)) .state
  let k := d.get (K.SEL_COUNT u)
  let sel := (List.range k).map (asySel d u)
  let gang := (Table.at d.runs {} n).gang
  need (decide (1 ≤ k) && decide (k ≤ 64) && decide sel.Nodup &&
    sel.all (fun x => if d.get (K.ASY_SOURCE u) = 2 then decide (x < 128) && d.get (K.SITE_SEQ x) == n
      else gang.any (fun p => p.1 == x))) .range
  let red := d.get (K.REDUCE u)
  need (red != 0 && !(d.get (K.ASY_SOURCE u) == 1 && (bit red 1 || bit red 2 || bit red 3))) .range
  need (decide (1 ≤ d.get (K.POST_COUNT u)) && decide (1 ≤ d.get (K.MASK_LEN u)) && decide (d.get (K.MASK_LEN u) ≤ 4096)) .range
  need (decide (d.get (K.REC_COUNT u) * asyR d u ≤ asyCapMax d u) &&
    decide (64 + 64 * ceilDiv (d.get (K.PRE_DEPTH u) * asyS d u) 64 ≤ 1048576)) .range
  need (spill == 0 || d.inArea K.SPILL_AREA_BASE K.SPILL_AREA_MIB (d.get (K.SPILL_BASE u)) (1024 * spill)) .range

/-- ARM (R183, R200): REC_BYTES is reported whether or not the arm succeeds. -/
def asyArmed (d : Dev) (u : Nat) : Dev :=
  let d := ((d.set (K.CAP_WR u) 0).set (K.ONCHIP_PEAK u) 0).set (K.ASY_STATUS u) (bits (d.get (K.ASY_STATUS u)) 4 1 * 16)
  (d.setAsy u { lastCap := (List.range 64).foldl (fun a j => a + 2 * 4 ^ j) 0 }).set (K.ASY_STATE u) 1

/-- FORCE (R187). -/
def asyForce (d : Dev) (u : Nat) : Except Abort Dev := do
  need (d.get (K.ASY_STATE u) != 2) .busy
  need (d.get (K.ASY_STATE u) == 1 && !(bit (d.get (K.ASY_STATUS u)) 1)) .state
  .ok (d.setAsy u { d.asy u with force := true })

/-- Bytes of the closed records below the spill size that are not in DDR4 (R192). -/
def asyClosedDue (d : Dev) (u : Nat) : Nat :=
  let a := d.asy u
  let closed := min (d.get (K.CAP_WR u)) (1024 * d.get (K.SPILL_KIB u))
  closed - a.evicted - (a.skip.map (fun p => min closed (p.1 + p.2) - max a.evicted p.1)).sum

/-- Post-trigger raw bytes of the current record below the spill size that are not in DDR4: final when written (R192). -/
def asyRawDue (d : Dev) (u : Nat) : Nat :=
  let a := d.asy u
  let at0 := asySlotAt d u (d.get (K.PRE_DEPTH u))
  if bit (d.get (K.REDUCE u)) 0 then min (a.post.length * asyS d u) (1024 * d.get (K.SPILL_KIB u) - at0) - a.evCur else 0

/-- As `asyRawDue` for the bitmap: a byte is final when its eight slots, none of the ring, have their samples. -/
def asyMapDue (d : Dev) (u : Nat) : Nat :=
  let a := d.asy u
  let depth := d.get (K.PRE_DEPTH u)
  let from_ := ceilDiv depth 8
  if bit (d.get (K.REDUCE u)) 2 then
    min ((depth + a.post.length) / 8 - from_) (1024 * d.get (K.SPILL_KIB u) - (asyMapAt d u + from_)) - a.evMap
  else 0

/-- Bytes the spill engine may still write: closed records in order, then what is final of the current record. -/
def asyEvictable (d : Dev) (u : Nat) : Nat := asyClosedDue d u + asyRawDue d u + asyMapDue d u

/-- EVICTION (R192, R193): up to `n` final bytes go to DDR4 at SPILL_BASE + o, oldest first, unless eviction is
suspended by shedding or DDR4 is not READY; a FAILED controller discards and counts them (R272). -/
def asyEvict (m : Memory) (d : Dev) (u n : Nat) : Memory × Dev :=
  let a := d.asy u
  let spill := 1024 * d.get (K.SPILL_KIB u)
  if bit (d.get (K.ASY_STATUS u)) 4 || (d.get K.DDR_STATE != 3 && d.get K.DDR_STATE != 5) || spill == 0 then (m, d)
  else
    let closed := min (d.get (K.CAP_WR u)) spill
    let copy (o k : Nat) : List Byte := Memory.rdN m d.fresh (assayAt u o) k
    if a.evicted < closed then
      match a.skip.find? (fun p => decide (p.1 ≤ a.evicted) && decide (a.evicted < p.1 + p.2)) with
      | some p => (m, d.setAsy u { a with evicted := min closed (p.1 + p.2), skip := a.skip.filter (fun q => q.1 != p.1) })
      | none =>
        let stop := (a.skip.filter (fun p => decide (a.evicted < p.1))).foldl (fun x p => min x p.1) closed
        let k := min n (stop - a.evicted)
        let r := ddrWrite m d 2 (d.get (K.SPILL_BASE u) + a.evicted) (copy a.evicted k)
        (r.1, r.2.setAsy u { a with evicted := a.evicted + k })
    else if 0 < asyRawDue d u then
      let o := asySlotAt d u (d.get (K.PRE_DEPTH u)) + a.evCur
      let k := min n (asyRawDue d u)
      let r := ddrWrite m d 2 (d.get (K.SPILL_BASE u) + o) (copy o k)
      (r.1, r.2.setAsy u { a with evCur := a.evCur + k })
    else
      let o := asyMapAt d u + ceilDiv (d.get (K.PRE_DEPTH u)) 8 + a.evMap
      let k := min n (asyMapDue d u)
      let r := ddrWrite m d 2 (d.get (K.SPILL_BASE u) + o) (copy o k)
      (r.1, r.2.setAsy u { a with evMap := a.evMap + k })

end Sys2Proof.Machine
end

