-- ==== Sys2Proof/Machine/Dowser.lean ====
section
/-! DEFINITION. The TMUs (R127, R128) and the Dowser engines (R202 to R211). -/

namespace Sys2Proof.Machine

/-! TMUs. -/

def Dev.tmu (d : Dev) (k : Nat) : Tmu := Table.at d.tmus {} k
def Dev.setTmu (d : Dev) (k : Nat) (t : Tmu) : Dev := { d with tmus := Table.put d.tmus k t }

/-- Samples a run takes: TMU_SAMPLES, or 256 for the run of a Dowser engine (R209). -/
def Dev.tmuWanted (d : Dev) (k : Nat) : Nat := if (d.tmu k).mine then 256 else d.get (K.TMU_SAMPLES k)

/-- A run begins: its figures start afresh. `mine`: it is the run of the TMU's holder. -/
def Dev.tmuBegin (d : Dev) (k : Nat) (mine : Bool) : Dev :=
  ((d.set (K.TMU_COUNT k) 0).setTmu k { d.tmu k with sum := 0, sumsq := 0, mine := mine }).set (K.TMU_STATE k) 2

/-- The mean and the standard deviation of a run in fs (R127). Which way a mean and a deviation that are no whole number of fs
are rounded, and whether the deviation is that of the samples or the estimate from them (COUNT or COUNT − 1), the spec does
not say: a free bit decides each (log entry 48). All figures of a run that took no sample are free values. -/
def Dev.tmuFigures (d : Dev) (k : Nat) : Dev :=
  let n := d.get (K.TMU_COUNT k)
  let t := d.tmu k
  if n = 0 then
    let d1 := (d.free 64).2.set (K.TMU_MEAN k) (d.free 64).1
    let d2 := (d1.free 64).2.set (K.TMU_MIN k) (d1.free 64).1
    let d3 := (d2.free 64).2.set (K.TMU_MAX k) (d2.free 64).1
    (d3.free 64).2.set (K.TMU_SIGMA k) (d3.free 64).1
  else
    let up := d.freeB
    let d := up.2.set (K.TMU_MEAN k) (t.sum / n + b2n (t.sum % n != 0 && up.1))
    let est := d.freeB
    let up := est.2.freeB
    let num := n * t.sumsq - t.sum * t.sum
    let den := n * (if est.1 && decide (1 < n) then n - 1 else n)
    let s := isqrt (num / den)
    up.2.set (K.TMU_SIGMA k) (s + b2n (s * s * den != num && up.1))

/-- A run ends in DONE (4) or ABORTED (5) with its figures and its event (R128, R412). -/
def Dev.tmuEnd (d : Dev) (k st : Nat) : Dev :=
  ((d.tmuFigures k).set (K.TMU_STATE k) st).event (307 + k) (if st = 4 then 1 else 2) 0

/-- One sample of `q` quarter picoseconds (R128); beyond 10 µs the interval is not measured and is a free value. -/
def Dev.tmuTake (d : Dev) (k q : Nat) : Dev :=
  let v := if q ≤ 40000000 then 250 * q else (d.free 64).1
  let d := if q ≤ 40000000 then d else (d.free 64).2
  let n := d.get (K.TMU_COUNT k)
  let t := d.tmu k
  let d := d.setTmu k { t with sum := t.sum + v, sumsq := t.sumsq + v * v }
  let d := d.set (K.TMU_MIN k) (if n = 0 then v else min v (d.get (K.TMU_MIN k)))
  let d := d.set (K.TMU_MAX k) (if n = 0 then v else max v (d.get (K.TMU_MAX k)))
  d.set (K.TMU_COUNT k) (n + 1)

/-- TMU_CMD START (R128): BUSY while a Winder routine or a Dowser engine holds the TMU, whatever runs. -/
def Dev.tmuStart (d : Dev) (k : Nat) : Except Abort Dev := do
  need ((d.tmu k).holder == 0) .busy
  need (d.get (K.TMU_STATE k) != 2 && !d.latchHeld (0x1604 + k) (K.TMU_STATE k)) .state
  .ok (d.tmuBegin k false)

/-- TMU_CMD ABORT (R128). -/
def Dev.tmuAbort (d : Dev) (k : Nat) : Except Abort Dev := do
  need (d.get (K.TMU_STATE k) == 2) .state
  .ok (d.tmuEnd k 5)

/-! Dowser engines. -/

def Dev.dws (d : Dev) (e : Nat) : Dowser := Table.at d.dowsers {} e
def Dev.setDws (d : Dev) (e : Nat) (w : Dowser) : Dev := { d with dowsers := Table.put d.dowsers e w }

/-- The listed channels, ascending (R206). -/
def Dev.dwsListed (d : Dev) (e : Nat) : List Nat :=
  (List.range 256).filter (fun ch => bit (d.get (K.DWS_CHANS e (ch / 64))) (ch % 64))

/-- The X search of a row: 0 BINARY, 1 LINEAR, 2 EYE (R205). -/
def Dev.dwsSearch (d : Dev) (e : Nat) : Nat := if d.get (K.DWS_KIND e) = 3 then d.get (K.INNER e) else d.get (K.DWS_KIND e)

/-- Rows of the search (R205). -/
def Dev.dwsRows (d : Dev) (e : Nat) : Nat :=
  if d.get (K.DWS_KIND e) = 3 then (d.get (K.Y_HI e) - d.get (K.Y_LO e)) / max 1 (d.get (K.Y_STEP e)) + 1 else 1

/-- Y of row r; 0 unless TWO_PARAM (R207). -/
def Dev.dwsY (d : Dev) (e r : Nat) : Nat :=
  if d.get (K.DWS_KIND e) = 3 then d.get (K.Y_LO e) + r * d.get (K.Y_STEP e) else 0

/-- A channel at the start of a row's X search: value and phase (0 to 2 BINARY, 3 LINEAR, 4 to 8 EYE). -/
def Dev.dwsFresh (d : Dev) (e ch : Nat) : DwsChan :=
  match d.dwsSearch e with
  | 1 => { chan := ch, value := d.get (K.X_LO e), phase := 3 }
  | 2 => { chan := ch, value := d.get (K.X_CENTRE e), phase := 4 }
  | _ => { chan := ch, value := d.get (K.X_LO e), phase := 0 }

/-- The next value of a bisection (R205). -/
def dwsMid (a b res : Nat) : Nat := a + res * ceilDiv (b - a) (2 * res)

/-- A BINARY search goes on or ends at its interval (R205). -/
def DwsChan.narrow (c : DwsChan) (res : Nat) : DwsChan :=
  if c.b - c.a ≤ res then { c with va := c.a, vb := c.b, status := some 0, phase := 2 }
  else { c with value := dwsMid c.a c.b res, phase := 2 }

/-- The lower half of an EYE search goes on, or ends with the passing side as VAL_A (R205, R207). -/
def DwsChan.narrowLo (c : DwsChan) (res hi : Nat) : DwsChan :=
  if c.b - c.a ≤ res then { c with va := c.b, value := hi, phase := 7 }
  else { c with value := dwsMid c.a c.b res, phase := 6 }

/-- The upper half of an EYE search goes on, or ends: CLIPPED if the lower end passed (R205). -/
def DwsChan.narrowHi (c : DwsChan) (res : Nat) : DwsChan :=
  if c.b - c.a ≤ res then { c with vb := c.a, status := some (if c.ra = some false then 6 else 0), phase := 8 }
  else { c with value := dwsMid c.a c.b res, phase := 8 }

/-- A channel's search after a measured pass (R203, R205); `r`: whether it failed, none without data. -/
def DwsChan.next (c : DwsChan) (lo hi res centre : Nat) (r : Option Bool) : DwsChan :=
  match r with
  | none => { c with status := some 3 }
  | some f =>
    match c.phase with
    | 0 => { c with ra := some f, pol := f, value := hi, phase := 1 }
    | 1 =>
      if c.ra = some f then { c with rb := some f, status := some (if f then 2 else 1) }
      else ({ c with rb := some f, a := lo, b := hi } : DwsChan).narrow res
    | 2 => (if c.ra = some f then { c with a := c.value } else { c with b := c.value } : DwsChan).narrow res
    | 3 =>
      (match c.ra with
       | none => { c with ra := some f, pol := f, a := c.value, value := c.value + res }
       | some r0 =>
         if f = r0 then
           (if c.value + res ≤ hi then { c with a := c.value, value := c.value + res }
            else { c with status := some (if f then 2 else 1) })
         else { c with va := c.a, vb := c.value, status := some 0 })
    | 4 => if f then { c with rc := some f, status := some 5 } else { c with rc := some f, value := lo, phase := 5 }
    | 5 =>
      if f then ({ c with ra := some f, pol := f, a := lo, b := centre } : DwsChan).narrowLo res hi
      else { c with ra := some f, va := lo, value := hi, phase := 7 }
    | 6 => (if f then { c with a := c.value } else { c with b := c.value } : DwsChan).narrowLo res hi
    | 7 =>
      if f then ({ c with a := centre, b := hi } : DwsChan).narrowHi res
      else { c with vb := hi, status := some 6 }
    | _ => (if f then { c with b := c.value } else { c with a := c.value } : DwsChan).narrowHi res

/-- A parameter of a channel written to the shadow copy of the claimed set (R205, R206). `b0`: the channel's EDGE_B at
START, whose STB2 − STB1 a STB_PAIR keeps. -/
def Dev.dwsPut (d : Dev) (n t ch param v b0 : Nat) : Dev :=
  match param with
  | 0 => d.setF (K.EDGE_A ch t) 0 21 v
  | 1 => d.setF (K.EDGE_A ch t) 21 21 v
  | 2 => d.setF (K.EDGE_A ch t) 42 21 v
  | 3 => d.setF (K.EDGE_B ch t) 0 21 v
  | 4 => d.setF (K.EDGE_B ch t) 21 21 v
  | 5 => d.setF (K.EDGE_B ch t) 42 21 v
  | 6 => (d.setF (K.EDGE_B ch t) 21 21 v).setF (K.EDGE_B ch t) 42 21 (v + 2 ^ 21 + fSTB2 b0 - fSTB1 b0)
  | _ => d.set (K.TSET_PERIOD n t) v

/-- The next step sealed (R204, R205): every listed channel's value, with the row's Y. -/
def Dev.dwsSealStep (d : Dev) (e : Nat) : Dev :=
  let w := d.dws e
  let n := d.get (K.DWS_SEQ e)
  let t := d.get (K.DWS_TSET e)
  let par := d.get (K.DWS_PARAM e)
  let d := w.chans.foldl (fun d c =>
    let b0 := Table.at w.orig 0 (K.EDGE_B c.chan t)
    let d := d.dwsPut n t c.chan (par % 16) c.value b0
    if d.get (K.DWS_KIND e) = 3 then d.dwsPut n t c.chan (par / 16) (d.dwsY e w.row) b0 else d) d
  (d.setDws e { w with sealPend := false, isSealed := true }).seal n (2 ^ t)

/-- The START values sealed again (R210). -/
def Dev.dwsRestore (d : Dev) (e : Nat) : Dev :=
  let w := d.dws e
  ((d.setAll w.orig).setDws e { w with sealPend := false, isSealed := false }).seal w.seq (2 ^ w.tset)

/-- START values that waited for their set are sealed (R210): those of SEQn whose set is among the sets just handed over. -/
def Dev.dwsPend (d : Dev) (e n sets : Nat) : Dev :=
  let w := d.dws e
  let due (p : Nat × Nat × List (Nat × Nat)) : Bool := p.1 == n && bit sets p.2.1
  if w.pend.any due then
    (w.pend.filter due).foldl (fun (d : Dev) p => (d.setAll p.2.2).seal n (2 ^ p.2.1)) (d.setDws e { w with pend := w.pend.filter (fun p => !due p) })
  else d

/-- The result record of a channel in a row (R207). A boundary that the search did not find has no value in the spec: VAL_A and
VAL_B are then free (log entry 4); an EYE search that ends in its upper half has found VAL_A. -/
def Dev.dwsRecord (d : Dev) (e row : Nat) (c : DwsChan) : Nat × Dev :=
  let st := c.status.getD 4
  let known := st == 0 || st == 6
  let knownA := known || (d.dwsSearch e == 2 && decide (7 ≤ c.phase))
  let va := if knownA then c.va else (d.free 32).1
  let d1 := if knownA then d else (d.free 32).2
  let vb := if known then c.vb else (d1.free 32).1
  let d2 := if known then d1 else (d1.free 32).2
  let width := if d.dwsSearch e = 2 then ofSigned 32 (((vb : Int) - va) * 500) else 0
  (fld 224 32 c.tspread + fld 192 32 c.tmean + fld 160 32 width + fld 96 32 vb + fld 64 32 va + fld 32 32 (d.dwsY e row) +
    fld 24 8 row + fld 16 8 c.chan + fld 8 8 (min 255 c.used) + fld 5 1 (b2n c.tvalid) + fld 4 1 (b2n c.pol) + fld 0 4 st, d2)

/-- The row's records are made (R207). -/
def Dev.dwsRowRecords (d : Dev) (e : Nat) : Dev :=
  let w := d.dws e
  let p := w.chans.foldl (fun (p : List Nat × Dev) c =>
    let r := p.2.dwsRecord e w.row c
    (p.1 ++ [r.1], r.2)) ([], d)
  p.2.setDws e { w with records := w.records ++ p.1 }

/-- Records of the rows an aborted search did not reach (R207: one per listed channel per row), all CUT. -/
def Dev.dwsRestRecords (d : Dev) (e : Nat) : Dev :=
  let w := d.dws e
  let p := ((List.range (min 256 (d.dwsRows e))).filter (fun r => decide (w.row < r))).foldl (fun (p : List Nat × Dev) r =>
    w.chans.foldl (fun (p : List Nat × Dev) c =>
      let x := p.2.dwsRecord e r { chan := c.chan }
      (p.1 ++ [x.1], x.2)) p) ([], d)
  p.2.setDws e { p.2.dws e with records := w.records ++ p.1 }

/-- The records become DWS_RESULT (R207). -/
def dwsWriteResult (m : Memory) (d : Dev) (e : Nat) : Memory × Dev :=
  let l := (d.dws e).records.flatMap (toBytes 32)
  (Memory.wrN m (domAt (K.DWS_RESULT e) 0) l, { d with domLen := Table.put d.domLen (K.DWS_RESULT e) l.length })

/-- The TMU an engine holds, if any (R209). -/
def Dev.dwsTmu (d : Dev) (e : Nat) : Option Nat := (List.range 4).find? (fun k => (d.tmu k).holder == 3 + e)

/-- The engine lets go of its TMU; a run it had under way ends with it (log entry 18). -/
def Dev.dwsFreeTmu (d : Dev) (e : Nat) : Dev :=
  match d.dwsTmu e with
  | some k =>
    let d := if d.get (K.TMU_STATE k) = 2 ∧ (d.tmu k).mine then d.set (K.TMU_STATE k) 0 else d
    d.setTmu k { d.tmu k with holder := 0, mine := false }
  | none => d

/-- The value sealed at the end under FINAL 1 for a channel (R206): the passing side of the boundary, for EYE the middle;
a free value where no boundary was found. -/
def Dev.dwsBoundary (d : Dev) (e : Nat) (c : DwsChan) : Nat × Dev :=
  if c.status = some 0 ∨ c.status = some 6 then
    (if d.dwsSearch e = 2 then (c.va + c.vb) / 2 else if c.pol then c.vb else c.va, d)
  else d.free 21

/-- A search ends (R204, R210): FINAL values sealed and JUMP issued in the same write, records written, DONE. -/
def dwsFinish (m : Memory) (d : Dev) (e : Nat) : Memory × Dev :=
  let n := d.get (K.DWS_SEQ e)
  let t := d.get (K.DWS_TSET e)
  let d :=
    if d.get (K.FINAL e) = 0 then d.dwsRestore e
    else
      let d := (d.dws e).chans.foldl (fun d c =>
        let v := d.dwsBoundary e c
        v.2.dwsPut n t c.chan (d.get (K.DWS_PARAM e) % 16) v.1 (Table.at (d.dws e).orig 0 (K.EDGE_B c.chan t))) d
      (d.setDws e { d.dws e with sealPend := false, isSealed := false }).seal n (2 ^ t)
  let run := Table.at d.runs {} n
  let d : Dev := { d with runs := Table.put d.runs n { run with arrivals := run.arrivals + 1 } }
  let r := dwsWriteResult m (d.dwsFreeTmu e) e
  (r.1, (r.2.set (K.DWS_STATE e) 4).event (208 + e) 1 0)

/-- An engine ends in ABORTED (R210): records with CUT, START values sealed as soon as the set is not sealed. -/
def dwsAborted (m : Memory) (d : Dev) (e cause : Nat) : Memory × Dev :=
  let d := if (d.dws e).final then d else (d.dwsRowRecords e).dwsRestRecords e
  let w := d.dws e
  let d := if bit (d.get (K.TSET_SEAL w.seq)) w.tset then
      d.setDws e { w with sealPend := false, isSealed := false, pend := w.pend ++ [(w.seq, w.tset, w.orig)] }
    else d.dwsRestore e
  let r := dwsWriteResult m (d.dwsFreeTmu e) e
  (r.1, ((r.2.set (K.DWS_STATE e) 5).set (K.DWS_CAUSE e) cause).event (208 + e) 2 0)

/-- An engine is RUNNING or PAUSED. -/
def Dev.dwsActive (d : Dev) (e : Nat) : Bool := d.get (K.DWS_STATE e) == 2 || d.get (K.DWS_STATE e) == 3

/-- The measured pass is over and retired: every open search takes its result, and the next step or the end waits to be
sealed (R203 to R205). -/
def Dev.dwsEvaluate (d : Dev) (e : Nat) : Dev :=
  let w := d.dws e
  let step (c : DwsChan) : DwsChan :=
    if c.status.isSome then c
    else
      ({ c with used := c.used + 1, judged := false, failed := false } : DwsChan).next (d.get (K.X_LO e)) (d.get (K.X_HI e))
        (d.get (K.X_RES e)) (d.get (K.X_CENTRE e)) (if c.judged then some c.failed else none)
  let w := { w with chans := w.chans.map step, measuring := none, lastCycle := 2 ^ 48, settled := none, sealPend := true }
  let d := (d.setDws e w).bump (K.DWS_STEPS e)
  if w.chans.all (fun c => c.status.isSome) then
    let d := d.dwsRowRecords e
    if w.row + 1 < d.dwsRows e then
      d.setDws e { d.dws e with row := w.row + 1, chans := w.chans.map (fun c => d.dwsFresh e c.chan) }
    else d.setDws e { d.dws e with final := true }
  else d

/-- The engine's TMU goes to the next listed channel of its shaft that has not been measured (R209). -/
def Dev.dwsTmuNext (d : Dev) (e : Nat) : Dev :=
  match d.dwsTmu e with
  | none => d
  | some k =>
    if d.get (K.TMU_STATE k) = 2 then d
    else match (d.dws e).chans.find? (fun c => c.chan / 64 == k && !c.tvalid) with
    | some _ => d.tmuBegin k true
    | none => d

/-- A sample of an engine's TMU run; the finished run's figures go to the channel it measured (R207, R209). -/
def Dev.dwsTmuDone (d : Dev) (e k : Nat) : Dev :=
  let w := d.dws e
  let pick (c : DwsChan) : Bool := c.chan / 64 == k && !c.tvalid
  match w.chans.find? pick with
  | none => d
  | some c0 =>
    let upd (c : DwsChan) : DwsChan :=
      if c.chan = c0.chan then
        { c with tvalid := true, tmean := d.get (K.TMU_MEAN k), tspread := d.get (K.TMU_MAX k) - d.get (K.TMU_MIN k) }
      else c
    (d.setDws e { w with chans := w.chans.map upd }).dwsTmuNext e

/-- TMU_SAMPLE (R128, R209). -/
def Dev.tmuSampled (d : Dev) (k q : Nat) : Dev :=
  if d.get (K.TMU_STATE k) = 2 then
    let d := d.tmuTake k q
    if d.tmuWanted k ≤ d.get (K.TMU_COUNT k) then
      let d := d.tmuEnd k 4
      (match (List.range 4).find? (fun e => (d.tmu k).holder == 3 + e) with
       | some e => if (d.tmu k).mine then d.dwsTmuDone e k else d.dwsTmuNext e
       | none => d)
    else d
  else d

/-- A settle segment (R204): it follows the measuring part of a pass, waits for a jump request, and leads to PASS_ENTRY or by
its JUMP to EXIT_ENTRY. -/
def Dev.dwsSettle (d : Dev) (e idx raw : Nat) : Bool :=
  idx != d.get (K.PASS_ENTRY e) && bits raw 156 4 == 1 && bits raw 184 16 == d.get (K.PASS_ENTRY e) && bits raw 168 16 == d.get (K.EXIT_ENTRY e)

/-- The measured pass has no later result than those of the VPs issued before `cycle`; its end is fixed once. -/
def Dev.dwsPassEnds (d : Dev) (e cycle oldest : Nat) : Dev :=
  let w := d.dws e
  match w.measuring with
  | some _ =>
    if w.lastCycle = 2 ^ 48 then
      let d := d.setDws e { w with lastCycle := cycle - 1 }
      if oldest < cycle then d else d.dwsEvaluate e
    else d
  | none => d

/-- A segment of SEQn starts (R202): a start of PASS_ENTRY ends the pass before it, and begins a measured pass if it takes the
engine's hand-over, else an idle one. The results of a measured pass are complete with the VP before the next start of PASS_ENTRY;
in a settle segment the engine may seal before that (log entry 49). `took`: the sets handed over at this
start; `cycle`: its first VP; `oldest`: cycle of the oldest VP not yet retired. -/
def dwsSegStart (m : Memory) (d : Dev) (e n idx raw seg took cycle oldest : Nat) : Memory × Dev :=
  let d := d.dwsPend e n took
  if !(d.dwsActive e) || d.get (K.DWS_SEQ e) != n then (m, d)
  else if idx = d.get (K.EXIT_ENTRY e) then dwsAborted m d e 3
  else if idx = d.get (K.PASS_ENTRY e) then
    let d := d.dwsPassEnds e cycle oldest
    let w := d.dws e
    if bit took w.tset && w.isSealed then
      (m, (d.setDws e { w with isSealed := false, measuring := some seg, lastCycle := 2 ^ 48, settled := none }).dwsTmuNext e)
    else (m, (d.bump (K.IDLE_PASSES e)).dwsTmuNext e)
  else if d.dwsSettle e idx raw && (d.dws e).settled.isNone then (m, d.setDws e { d.dws e with settled := some cycle })
  else (m, d)

/-- A VP of SEQn retires (R203): its results count for a measured pass; the pass's last VP ends the measurement.
`counts`: the VP is neither squashed nor discarded for the channel. -/
def Dev.dwsRetire (d : Dev) (e : Nat) (f : InFlight) (squashed : Bool) (discarded : Nat → Bool) : Dev :=
  let w := d.dws e
  match w.measuring with
  | none => d
  | some s =>
    if !(d.dwsActive e) || f.seg < s then d
    else
      let upd (c : DwsChan) : DwsChan :=
        match f.res.find? (fun r => r.chan == c.chan) with
        | some r => if r.judged && !squashed && !(discarded c.chan) then
            { c with judged := true, failed := c.failed || !r.pass } else c
        | none => c
      if w.lastCycle < f.cycle then d
      else
        let d := d.setDws e { w with chans := w.chans.map upd }
        let after := match (Table.at d.runs {} (d.get (K.DWS_SEQ e))).flight.drop 1 with | x :: _ => x.cycle | [] => d.get (K.CYCLE (d.get (K.DWS_SEQ e)))
        if w.lastCycle < after then d.dwsEvaluate e else d

/-- The engine may take the results of the pass being measured in its settle segment (R204): every VP before that segment has
retired, and every open search has a result (log entry 49). -/
def Dev.dwsKnown (d : Dev) (e : Nat) : Bool :=
  let w := d.dws e
  match w.measuring, w.settled with
  | some _, some c =>
    w.lastCycle == 2 ^ 48 && w.chans.all (fun x => x.status.isSome || x.judged) &&
    (match (Table.at d.runs {} (d.get (K.DWS_SEQ e))).flight with | x :: _ => decide (c ≤ x.cycle) | [] => true)
  | _, _ => false

/-- DWS_STEP_SEAL (R204): the step that waits is sealed, or the search ends; in a settle segment the results known until then are
the step's. -/
def dwsStep (m : Memory) (d : Dev) (e : Nat) : Memory × Dev :=
  let d := if d.get (K.DWS_STATE e) = 2 ∧ d.dwsKnown e then d.dwsEvaluate e else d
  let w := d.dws e
  if d.get (K.DWS_STATE e) = 2 ∧ w.sealPend then
    if w.final then dwsFinish m d e else (m, d.dwsSealStep e)
  else (m, d)

/-- The value an edge or the period takes at one corner of the ranges, for the validity check of R211; `b0` as in `dwsPut`. -/
def dwsTset (t0 : Tset) (param v b0 : Nat) : Tset :=
  match param with
  | 0 => { t0 with a := putBits t0.a 0 21 v }
  | 1 => { t0 with a := putBits t0.a 21 21 v }
  | 2 => { t0 with a := putBits t0.a 42 21 v }
  | 3 => { t0 with b := putBits t0.b 0 21 v }
  | 4 => { t0 with b := putBits t0.b 21 21 v }
  | 5 => { t0 with b := putBits t0.b 42 21 v }
  | 6 => { t0 with b := putBits (putBits t0.b 21 21 v) 42 21 (v + 2 ^ 21 + fSTB2 b0 - fSTB1 b0) }
  | _ => { t0 with p := periodP v }

/-- The corners of the X and Y ranges (R211). -/
def Dev.dwsCorners (d : Dev) (e : Nat) : List (Nat × Nat) :=
  let ys := if d.get (K.DWS_KIND e) = 3 then [d.get (K.Y_LO e), d.get (K.Y_HI e)] else [0]
  [d.get (K.X_LO e), d.get (K.X_HI e)].flatMap (fun x => ys.map (fun y => (x, y)))

/-- A value fits the parameter's field: the 21 bits of an edge; for STB_PAIR both strobes. -/
def dwsFits (param v b0 : Nat) : Bool :=
  param == 7 || (decide (v < 2 ^ 21) && (param != 6 || (decide (fSTB1 b0 ≤ v + fSTB2 b0) && decide (v + fSTB2 b0 - fSTB1 b0 < 2 ^ 21))))

/-- The set is valid, and its period at least TMIN, at every corner (R124, R211), written as a step is: X, then Y. -/
def Dev.dwsCornersOk (d : Dev) (e : Nat) : Bool :=
  let n := d.get (K.DWS_SEQ e)
  let t := d.get (K.DWS_TSET e)
  let par := d.get (K.DWS_PARAM e)
  let listed := d.dwsListed e
  let two := d.get (K.DWS_KIND e) == 3
  let gang := (Table.at d.runs {} n).gang
  (d.dwsCorners e).all (fun c =>
    gang.all (fun p => let b0 := d.get (K.ACT_EDGE_B p.1 t)
      !(listed.contains p.1) || (dwsFits (par % 16) c.1 b0 && (!two || dwsFits (par / 16) c.2 b0))) &&
    setValid gang (fun ch =>
      let s := d.actSet n ch t
      let s := if listed.contains ch then dwsTset s (par % 16) c.1 s.b else s
      if two && (listed.contains ch || par / 16 == 7) then dwsTset s (par / 16) c.2 (d.get (K.ACT_EDGE_B ch t)) else s) &&
    decide (periodP (d.get (K.TMIN n)) ≤ (if two && par / 16 == 7 then periodP c.2 else periodP (d.get (K.ACT_PERIOD n t)))) &&
    (!(two && par / 16 == 7) || c.2 != 0))

/-- The checks of START (R210, R211), in order. -/
def dwsStartChecks (m : Memory) (d : Dev) (e : Nat) : Except Abort Unit := do
  need d.canArm .state
  need (!(d.dwsActive e)) .state
  let n := d.get (K.DWS_SEQ e)
  let t := d.get (K.DWS_TSET e)
  need (d.domOn 49 && decide (n < 64) && (d.get (K.SEQ_STATE n) == 1 || d.get (K.SEQ_STATE n) == 2)) .state
  need (!(bit (d.get (K.TSET_SEAL n)) t)) .sealed
  let kind := d.get (K.DWS_KIND e)
  let listed := d.dwsListed e
  let ref := d.get (K.TMU_REF e)
  let useTmu := kind == 2 && ref != 0xFF
  need ((List.range 4).all (fun o => o == e || !(d.dwsActive o) ||
      (!(d.get (K.DWS_SEQ o) == n && d.get (K.DWS_TSET o) == t) && (d.dwsListed o).all (fun ch => !(listed.contains ch)))) &&
    (!useTmu || (d.tmu (ref / 64)).holder == 0)) .busy
  let par := d.get (K.DWS_PARAM e)
  let gang := (Table.at d.runs {} n).gang
  need (decide (kind ≤ 3) && decide (par % 16 ≤ 6) && decide (par / 16 ≤ 7) && (par / 16 != 7 || kind == 3) && !listed.isEmpty &&
    listed.all (fun ch => gang.any (fun p => p.1 == ch))) .range
  let lo := d.get (K.X_LO e)
  let hi := d.get (K.X_HI e)
  let res := d.get (K.X_RES e)
  let cen := d.get (K.X_CENTRE e)
  need (decide (lo < hi) && decide (1 ≤ res) && (hi - lo) % res == 0 &&
    (kind != 2 || (decide (lo < cen) && decide (cen < hi) && (cen - lo) % res == 0 && (hi - cen) % res == 0)) &&
    (kind != 3 || (decide (1 ≤ d.get (K.Y_STEP e)) && decide (d.get (K.Y_LO e) ≤ d.get (K.Y_HI e)) && decide (d.dwsRows e ≤ 256)))) .range
  need (d.dwsCornersOk e) .range
  let pe := d.get (K.PASS_ENTRY e)
  let xe := d.get (K.EXIT_ENTRY e)
  let cnt := entryCount m d n
  need (decide (pe < cnt) && decide (xe < cnt) &&
    (List.range (min 65536 cnt)).all (fun i => bit (segEntry m d n i) 110 == (i == pe || i == xe)) &&
    d.get (K.AUTO_SHADOW n) == 0) .range
  need (!(d.latchHeld (0x1600 + e) (K.DWS_STATE e))) .state

/-- START (R208 to R210): claim, the active copies to the shadow, the TMU held, the first step sealed. -/
def Dev.dwsStarted (d : Dev) (e : Nat) : Dev :=
  let n := d.get (K.DWS_SEQ e)
  let t := d.get (K.DWS_TSET e)
  let gang := (Table.at d.runs {} n).gang
  let d := gang.foldl (fun d p =>
    ((d.set (K.EDGE_A p.1 t) (d.get (K.ACT_EDGE_A p.1 t))).set (K.EDGE_B p.1 t) (d.get (K.ACT_EDGE_B p.1 t))).set
      (K.FMT p.1 t) (d.get (K.ACT_FMT p.1 t))) (d.set (K.TSET_PERIOD n t) (d.get (K.ACT_PERIOD n t)))
  let listed := d.dwsListed e
  let keys := K.TSET_PERIOD n t :: listed.flatMap (fun ch => [K.EDGE_A ch t, K.EDGE_B ch t])
  let orig := keys.foldl (fun l k => Table.put l k (d.get k)) []
  let d := ((d.set (K.DWS_STEPS e) 0).set (K.IDLE_PASSES e) 0).set (K.DWS_STATE e) 2
  let d : Dev := { d with domLen := Table.put d.domLen (K.DWS_RESULT e) 0 }
  let d := d.setDws e { seq := n, tset := t, chans := listed.map (d.dwsFresh e), orig := orig, pend := (d.dws e).pend }
  let ref := d.get (K.TMU_REF e)
  let d := if d.get (K.DWS_KIND e) = 2 ∧ ref ≠ 0xFF then d.setTmu (ref / 64) { d.tmu (ref / 64) with holder := 3 + e } else d
  d.dwsSealStep e

/-- Shedding pauses a RUNNING engine and its release resumes it (R210). -/
def Dev.dwsShed (d : Dev) (on : Bool) : Dev :=
  (List.range 4).foldl (fun d e =>
    if on ∧ d.get (K.DWS_STATE e) = 2 then (d.set (K.DWS_STATE e) 3).bump (K.SHED_PAUSES e)
    else if !on ∧ d.get (K.DWS_STATE e) = 3 then d.set (K.DWS_STATE e) 2 else d) d

end Sys2Proof.Machine
end

