-- ==== Sys2Proof/Machine/Ends.lean ====
section
/-! DEFINITION. What ends: parks (R88 to R91), the end of a run and what follows a sequencer (R73, R76, R89, R125, R136,
R168, R197, R210), graphs, Tram channels, the Winder's foreground routine (R361, R362) and the loss of a domain's hardware
state (R379). -/

namespace Sys2Proof.Machine

def Dev.run (d : Dev) (n : Nat) : SeqRun := Table.at d.runs {} n
def Dev.setRun (d : Dev) (n : Nat) (r : SeqRun) : Dev := { d with runs := Table.put d.runs n r }

/-! The fault log and its latches (R402, R403, R407). -/

/-- The class of a kind (R402): 0 C, 1 S, 2 F, 3 K. -/
def faultClass (fk : Nat) : Nat :=
  if [13, 18, 20, 24, 39].contains fk then 0
  else if [5, 6, 7, 8].contains fk then 1
  else if [28, 29, 30, 31, 32, 37, 38].contains fk then 3
  else 2

/-- A kind latches on an object index (R403). -/
def Dev.latch (d : Dev) (idx fk : Nat) : Dev :=
  { d with latched := Table.put d.latched idx (setBit (Table.at d.latched 0 idx) fk) }

/-- The 32-byte log entry of an occurrence (R407). -/
def faultEntry (stamp seqno info fk cls react chip inst reps : Nat) : Nat :=
  fld 176 80 stamp + fld 144 32 seqno + fld 64 64 info + fld 56 8 fk + fld 48 4 cls + fld 40 8 react + fld 32 8 chip +
  fld 16 16 inst + fld 0 16 reps

/-- The ring with one more occurrence (R407), and event 312 for a new entry and for the first overwrite (R413). -/
def Dev.faultLog (d : Dev) (fk inst info react : Nat) : Dev :=
  match d.ring.getLast? with
  | some e =>
    if bits e 56 8 = fk ∧ bits e 16 16 = inst then
      { d with ring := d.ring.dropLast ++ [putBits e 0 16 (satAdd 0xFFFF (e % 65536) 1)] }
    else push d
  | none => push d
where
  push (d : Dev) : Dev :=
    let d := d.bump K.FLOG_TOTAL
    let no := d.get K.FLOG_TOTAL
    let e := faultEntry d.tb0 no info fk (faultClass fk) react (d.get K.CHIP_STATE) inst 0
    let ei := fld 56 8 fk + fld 48 8 (faultClass fk) + fld 32 16 inst + fld 0 32 no
    if d.ring.length < 32 then ({ d with ring := d.ring ++ [e] } : Dev).event 312 1 ei
    else
      let first := !d.wrapped
      let d := ({ d with ring := d.ring.drop 1 ++ [e], wrapped := true } : Dev).event 312 1 ei
      if first then d.event 312 2 ei else d

/-! Chip state (R282). -/

/-- CHIP_STATE made `st`; PRIOR_STATE follows an entry into SHED or FAULT, STATE_CHANGES a change (R280). -/
def Dev.setChip (d : Dev) (st : Nat) : Dev :=
  let old := d.get K.CHIP_STATE
  if old = st then d
  else
    let d := if st = 5 ∨ st = 6 then d.set K.PRIOR_STATE old else d
    (d.set K.CHIP_STATE st).bump K.STATE_CHANGES

/-- A sequencer is RUNNING or PAUSED. -/
def Dev.anyIssuing (d : Dev) : Bool :=
  (List.range 64).any (fun n => d.get (K.SEQ_STATE n) == 2 || d.get (K.SEQ_STATE n) == 3)

/-- RUNNING becomes READY when no sequencer is RUNNING or PAUSED (R282). -/
def Dev.chipIdle (d : Dev) : Dev := if d.get K.CHIP_STATE = 4 ∧ !d.anyIssuing then d.setChip 3 else d

/-- The causes of TIMING_UNSURE replaced; event 314 when they leave or return to 0 (R129, R413). -/
def Dev.setUnsure (d : Dev) (v : Nat) : Dev :=
  let old := d.get K.UNSURE_CAUSE
  let info := fld 32 32 (d.get K.EPOCH_COUNT) + fld 0 8 v
  let d := d.set K.UNSURE_CAUSE v
  if old = 0 ∧ v ≠ 0 then d.event 314 2 info
  else if old ≠ 0 ∧ v = 0 then d.event 314 3 info
  else d

/-! DUT supply sequences and write lists. -/

def Dev.setPwr (d : Dev) (p : Power) : Dev := { d with pwr := p }

/-- What the block sends beside frames. -/
def Dev.emit (d : Dev) (l : List Out) : Dev := { d with egress := d.egress ++ l }

/-- The master a rail is on, and whether the rail is enabled (R387). -/
def Dev.railMaster (d : Dev) (r : Nat) : Nat := bits (d.get (K.RAIL_CFG r)) 24 1
def Dev.railOn (d : Dev) (r : Nat) : Bool := bit (d.get (K.RAIL_CFG r)) 8

/-- The commands of one try on a rail, PAGE first where the rail has one (R386, R387; OPERATION 0x80 and 0x00, log entry 24). -/
def Dev.railSends (d : Dev) (rail : Nat) (l : List (PmbCmd × Nat)) : Dev :=
  let c := d.get (K.RAIL_CFG rail)
  let mm := d.railMaster rail
  let l := if bits c 16 8 = 0xFF then l else (PmbCmd.page, bits c 16 8) :: l
  d.emit (l.map (fun p => .pmbus mm (bits c 0 7) (d.get (K.PMB_PEC mm) == 1) p.1 p.2))

/-- The commands of a transaction's try: ON reads VOUT_MODE and operates the device if that is LINEAR16. -/
def Dev.pmbSends (d : Dev) (o : PmbOp) (linear16 : Bool) : Dev :=
  d.railSends o.rail (match o.kind with
    | 1 => (PmbCmd.voutMode, 0) :: (if linear16 then [(PmbCmd.operation, 0x80)] else [])
    | 2 => [(PmbCmd.operation, 0)]
    | 3 => [(PmbCmd.readVout, 0), (PmbCmd.readIout, 0), (PmbCmd.statusWord, 0)]
    | 4 => [(PmbCmd.voutCommand, o.mv)]
    | _ => [(PmbCmd.statusWord, 0)])

/-- A transaction joins its master's queue. -/
def Dev.pmbAsk (d : Dev) (o : PmbOp) : Dev :=
  let mm := d.railMaster o.rail
  d.setPwr { d.pwr with pmb := Table.put d.pwr.pmb mm (Table.at d.pwr.pmb [] mm ++ [o]) }

/-- A set-point that waits for the rail's next ON is sent before it, as VOUT_COMMAND (R387). -/
def Dev.mvSend (d : Dev) (rail : Nat) : Dev :=
  if d.pwr.mvDue.contains rail then
    (d.setPwr { d.pwr with mvDue := d.pwr.mvDue.filter (· != rail) }).pmbAsk { kind := 4, rail := rail, mv := d.get (K.RAIL_MV rail) }
  else d

/-- The step in hand of a sequence. -/
def Dev.ssqStep (d : Dev) (q : Nat) : Nat := d.get (K.SSQ_STEP q (Table.at d.ssqs {} q).step)

/-- A step that is a transaction joins its master's queue when it begins (R387, R388): ON, OFF, and SET_MV of a rail that
is ON. -/
def Dev.ssqBegin (d : Dev) (q : Nat) : Dev :=
  let s := d.ssqStep q
  let rail := bits s 23 5
  match bits s 28 4 with
  | 1 => (d.mvSend rail).pmbAsk { kind := 1, rail := rail, seq := some q }
  | 2 => d.pmbAsk { kind := 2, rail := rail, seq := some q }
  | 3 => if d.get (K.RAIL_STATE rail) = 1 then d.pmbAsk { kind := 4, rail := rail, mv := bits s 0 16, seq := some q } else d
  | _ => d

/-- Supply sequence q + 1 starts at step 0, unless it runs already (R388, R389). -/
def Dev.ssqStart (d : Dev) (q : Nat) : Dev :=
  if d.get (K.SSQ_STATE q) = 2 then d
  else (({ d with ssqs := Table.put d.ssqs q {} }.set (K.SSQ_STATE q) 2).bump (K.SSQ_RUNS q)).ssqBegin q

/-- A site's SUPPLY_SEQ starts, if it has one (R88). -/
def Dev.supplyStart (d : Dev) (m : Nat) : Dev :=
  let s := d.get (K.SUPPLY_SEQ m)
  if 1 ≤ s ∧ s ≤ 16 then d.ssqStart (s - 1) else d

/-- The LEN bytes of an entry leave an SPI port, most significant first; LEN 0 sends nothing (R390). -/
def Dev.spiSend (d : Dev) (p e : Nat) : Dev :=
  if bits e 58 3 = 0 then d else d.emit [.spi p (toBytes (min 6 (bits e 58 3)) (bits e 0 48)).reverse]

/-- SPI write list w starts with entry 0, or a start while it runs is missed (R390). -/
def Dev.wlStart (d : Dev) (w : Nat) : Dev :=
  if d.get (K.WL_STATE w) = 2 then d.bump (K.WL_MISSED w)
  else (({ d with wls := Table.put d.wls w {} }.set (K.WL_STATE w) 2).bump (K.WL_RUNS w)).spiSend
    (bits (d.get (K.WL_ENTRY w 0)) 61 3) (d.get (K.WL_ENTRY w 0))

/-! Parks. -/

/-- The first granule boundary from a cycle on (R66). -/
def boundaryFrom (c : Nat) : Nat := roundUp c 8

/-- A site parks (R90, R91): results of VPs from `disc` on are discarded, its channels park from `boundary`, where its
SUPPLY_SEQ then starts. INVALID follows causes 3 to 7 (R159). -/
def Dev.parkSite (d : Dev) (m cause disc boundary : Nat) : Dev :=
  if d.get (K.SITE_COND m) = 1 ∨ d.get (K.SITE_COND m) = 2 then
    let r := d.site m
    let disc' := match r.discFrom with | some c => min c disc | none => disc
    let d := d.setSite m { r with discFrom := some disc', parkAt := some boundary, parkDue := 1 }
    let d := ((d.set (K.SITE_COND m) 3).set (K.PARK_CAUSE m) cause).set (K.PARK_CYCLE m) boundary
    if 3 ≤ cause ∧ cause ≤ 7 then d.setB (K.ACCT_FLAGS m) 1 true else d
  else d

/-- The PARK_CAUSE of a class S kind (R88): STARVED, BLOCK_FORMAT, LODE_ECC, RESULT_LATE. -/
def parkCauseOf (fk : Nat) : Nat := match fk with | 6 => 3 | 7 => 4 | 8 => 5 | 5 => 6 | _ => 7

/-- No site of SEQn is ACTIVE or MASKED: it ends issue at the next granule boundary (R89). -/
def Dev.siteCheck (d : Dev) (n : Nat) : Dev :=
  let r := d.run n
  if (d.get (K.SEQ_STATE n) = 2 ∨ d.get (K.SEQ_STATE n) = 3) ∧ r.stopReq = 0 ∧
      (d.sitesOf n).all (fun m => d.get (K.SITE_COND m) != 1 && d.get (K.SITE_COND m) != 2) then
    d.setRun n { r with stopReq := 3 }
  else d

/-- The park state of a site on a channel outside a VP (R88): driver off, low, high, or as it was. -/
def ChanOut.parkLevel (c : ChanOut) (mode : Nat) : ChanOut :=
  match mode with
  | 0 => { c with on := false, den := false, park := true }
  | 1 => { c with on := true, den := true, drv := false, park := true }
  | 2 => { c with on := true, den := true, drv := true, park := true }
  | _ => { c with park := true }

/-- The channels listed take their sites' park state, if they are not in it, with the edges of the next VP in the set of the
segment being issued (R73, R76, R88, R90, R116; log entry 42). Before a VP has issued no edge is placed. -/
def Dev.parkGang (d : Dev) (n : Nat) (gang : List (Nat × Nat)) : Dev :=
  let r := d.run n
  let tset := match r.cur with | some c => bits c.raw 139 5 | none => 0
  gang.foldl (fun (d : Dev) p =>
    let c := Table.at d.chans {} p.1
    let mode := d.get (K.PARK_MODE p.2)
    if c.park then d
    else if r.slots = 0 then { d with chans := Table.put d.chans p.1 (c.parkLevel mode) }
    else
      let s := d.actSet n p.1 tset
      d.setChan p.1 (drawPark ({ c with edges := [], park := true }, 0) r.t s (s.format == 0 || d.isDonor n tset r.gang p) mode)) d

/-- The gang channels whose site's park has come by CYCLE (R90). -/
def Dev.parkDueChans (d : Dev) (n : Nat) : List (Nat × Nat) :=
  (d.run n).gang.filter (fun p => match (d.site p.2).parkAt with | some b => decide (b ≤ d.get (K.CYCLE n)) | none => false)

/-- SUPPLY_SEQ of every park whose boundary has come by CYCLE starts (R90). -/
def Dev.parkSupplies (d : Dev) (n : Nat) : Dev :=
  (d.sitesOf n).foldl (fun (d : Dev) s =>
    match (d.site s).parkAt with
    | some b => if (d.site s).parkDue = 1 ∧ b ≤ d.get (K.CYCLE n) then
        (d.setSite s { d.site s with parkDue := 0 }).supplyStart s else d
    | none => d) d

/-- A channel in no site keeps its driver off (R13). -/
def Dev.strayOff (d : Dev) (chs : List Nat) : Dev :=
  chs.foldl (fun (d : Dev) ch =>
    if (List.range 128).any (fun s => bit (d.get (K.CHAN_MAP s (ch / 64))) (ch % 64)) then d
    else { d with chans := Table.put d.chans ch { Table.at d.chans {} ch with on := false, den := false, park := false } }) d

/-- The members of a bond group heard of: (GAL_NODE, what is known). -/
def Dev.peersOf (d : Dev) (g : Nat) : List (Nat × Peer) :=
  (d.peers.filter (fun p => p.1 / 256 == g)).map (fun p => (p.1 % 256, p.2))

/-! Bonding (R94, R95, R325). -/

/-- The enabled bond group of SEQn, if any: its number and configuration. -/
def Dev.bondOf (d : Dev) (n : Nat) : Option (Nat × Nat) :=
  let g := d.get (K.BOND_GROUP n)
  if g = 0 then none
  else
    let cfg := d.get (K.BOND_CFG (g - 1))
    if bit cfg 0 then some (g - 1, cfg) else none

/-- ARMED of BOND_STAT and BOND_READY follow the members' states; event 315 when the group becomes ready (R71, R93,
R413). -/
def Dev.bondRefresh (d : Dev) (n : Nat) : Dev :=
  match d.bondOf n with
  | none => d
  | some (g, cfg) =>
    let armed := b2n (d.get (K.SEQ_STATE n) == 1) + ((d.peersOf g).filter (fun q => q.2.state == 1)).length
    let ready := armed == bits cfg 2 2 + 1
    let was := bit (d.get (K.SEQ_STATUS n)) 1
    let d := (d.setF (K.BOND_STAT g) 8 3 (min 4 armed)).setB (K.SEQ_STATUS n) 1 ready
    if ready && !was then d.event 315 1 g else d

/-- A bonded member's state goes to the others (R325); at arm its membership goes before it (R94). -/
def Dev.bondAnnounce (d : Dev) (n : Nat) (own : Option Nat) : Dev :=
  match d.bondOf n with
  | none => d
  | some (_, cfg) =>
    let id := bits cfg 16 8
    let me := d.get K.GAL_NODE
    let d := match own with | some rl => d.tellSeq (.membership id me rl 0) | none => d
    (d.tellSeq (.memberState id me (d.get (K.SEQ_STATE n)))).bondRefresh n

/-- The STOP (0), PAUSE (1) or ABORTED (2) state of a bonded sequencer is sent twice, the second copy with the tick at which it
ended issue (R98, R325); one that has issued nothing or nothing since sends the present tick. -/
def Dev.bondSend (d : Dev) (n kind : Nat) : Dev :=
  let g := d.get (K.BOND_GROUP n)
  if g = 0 ∨ !(bit (d.get (K.BOND_CFG (g - 1))) 0) then d
  else
    let id := bits (d.get (K.BOND_CFG (g - 1))) 16 8
    let me := d.get K.GAL_NODE
    (d.tellTimed (.stopNotice id me kind)).tellSeq (.stopNotice id me kind ((d.run n).endTick.getD d.tb1))

/-! Windows at the end of a run (R48). -/

/-- Every window of SEQn becomes IDLE and empty; outstanding fetches are discarded, and so are the code buffers. -/
def Dev.windowsIdle (d : Dev) (n : Nat) : Dev :=
  let d := (List.range 16).foldl (fun (d : Dev) w =>
    let d : Dev := { d with wins := Table.put d.wins (16 * n + w) {} }
    (d.setWinState n w 0).setF (K.WIN_STAT n w) 0 16 0) d
  { d with slices := Table.put d.slices n ((Table.at d.slices [] n).map (fun s => { seam := s.seam, low := s.low })) }

/-! DDR4 self-refresh under shedding (R265). -/

/-- Width of the row, and of the bank group, of a device (R259). -/
def Dev.rowBits (d : Dev) : Nat :=
  let c := d.get K.DEVICE_CFG
  (if bits c 2 2 = 0 then 17 else 16) + c % 4
def Dev.bgBits (d : Dev) : Nat := if bits (d.get K.DEVICE_CFG) 2 2 = 2 then 1 else 2

/-- Ranks of a channel (R262). -/
def Dev.ddrRanks (d : Dev) : Nat := 1 + bits (d.get K.DEVICE_CFG) 4 1

/-- The configured capacity (R258). -/
def Dev.confCapacity (d : Dev) : Nat := d.ddrChans.length * d.ddrRanks * (8 * 2 ^ (d.rowBits + 12 + d.bgBits))

/-- CH_STATE of every channel follows DDR_STATE; out of service outside CHAN_MASK, OFF while its domain is off (R264);
CAPACITY is 0 unless READY (R262). -/
def Dev.setDdrState (d : Dev) (st : Nat) : Dev :=
  let d := d.set K.CAPACITY (if st = 3 then d.confCapacity else 0)
  (List.range 8).foldl (fun d c =>
    d.set (K.CH_STATE c) (if !(d.domOn (34 + c)) then 0 else if bit (d.get K.CHAN_MASK) c then st else 1)) (d.set K.DDR_STATE st)

/-- The words of a burst a partial write covers only in part, marked uncorrectable after an uncorrectable read for its
read-modify-write (R271). -/
def Dev.markWords (d : Dev) (b : Burst) : Dev :=
  let ws := (List.range 8).filter (fun j => bits b.be (8 * j) 8 != 0 && bits b.be (8 * j) 8 != 255)
  { d with badDdr := d.badDdr ++ (ws.map (fun j => b.addr + 8 * j)).filter (fun w => !d.badDdr.contains w) }

/-- A write covers some 8-byte word only in part (R268). -/
def Burst.rmw (b : Burst) : Bool := (List.range 8).any (fun j => bits b.be (8 * j) 8 != 0 && bits b.be (8 * j) 8 != 255)

/-- A word that a write covers only in part is marked uncorrectable already: so its read-modify-write finds it (R271). -/
def Dev.rmwBad (d : Dev) (b : Burst) : Bool :=
  (List.range 8).any (fun j => bits b.be (8 * j) 8 != 0 && bits b.be (8 * j) 8 != 255 && d.badDdr.contains (b.addr + 8 * j))

/-- The read-modify-write of a queued write finds its word uncorrectable as the queue empties under shedding (R271): counted,
marked, logged and raised; the chip is in FAULT already, so the reaction reaches the controller alone. -/
def Dev.rmwFound (d : Dev) (c : Nat) (b : Burst) : Dev :=
  let react := d.get (K.FAULT_REACT 21)
  let d := (((d.markWords b).bump (K.ECC_UNCORR c)).set (K.ECC_LAST_ADDR c) b.addr).bumpSat (K.FAULT_COUNT 21)
  let d := raiseN 257 (d.faultLog 21 (0x0901 + c) b.addr react) (228 + c) 2 b.addr (decide (1 ≤ react))
  if 3 ≤ react then d.latch 0x0900 21 else d

/-- READY becomes SELF_REFRESH: queued writes are issued; requests at the ports wait (R265). A reaction STOP_FUNCTION to what
their read-modify-writes find leaves the controller FAILED. -/
def Dev.ddrSelfRefresh (d : Dev) : Dev :=
  let found := d.ddr.any (fun p => p.2.wq.any d.rmwBad)
  let d := d.ddr.foldl (fun (d : Dev) p => p.2.wq.foldl (fun (d : Dev) b =>
    let d := d.portBytes p.1 b.port
    if d.rmwBad b then d.rmwFound p.1 b else d) d) d
  let d : Dev := { d with ddr := d.ddr.map (fun p => (p.1, { p.2 with wq := [], drain := false })) }
  d.setDdrState (if found ∧ 3 ≤ d.get (K.FAULT_REACT 21) then 5 else 4)

/-- The controller becomes FAILED (R272): queued and waiting writes are discarded and counted; the bytes they were to
store are as if never written. Reads complete as uncorrectable when their turn comes. -/
def ddrFail (m : Memory) (d : Dev) : Memory × Dev :=
  let lost := d.ddr.flatMap (fun p => (p.2.ports ++ p.2.wq).filter (·.write))
  let m := lost.foldl (fun m b => Memory.drop m (ddrAt b.addr) 64) m
  let d := d.bumpBy K.WRITES_LOST lost.length
  let d : Dev := { d with ddr := d.ddr.map (fun p => (p.1, { p.2 with ports := p.2.ports.filter (!·.write), wq := [], drain := false })) }
  (m, d.setDdrState 5)

/-- The controller is UNTRAINED: nothing is queued, and its devices hold no defined content (R264). -/
def ddrUntrained (m : Memory) (d : Dev) : Memory × Dev :=
  (m.filter (fun x => x.1 / 2 ^ 64 != 1), ({ d with ddr := [], badDdr := [] } : Dev).setDdrState 1)

/-- Shed level 3 or 4 puts DDR4 into self-refresh once no sequencer issues any more (R265, R384). -/
def Dev.ddrShed (d : Dev) : Dev :=
  if 3 ≤ d.get K.SHED_LEVEL ∧ d.get K.DDR_STATE = 3 ∧ !d.anyIssuing then d.ddrSelfRefresh else d

/-! The end of a run. -/

/-- Sites still ACTIVE or MASKED park under a fault or shed level 3 (R76): PARK_CAUSE FAULT at the present CYCLE. `sup`:
their SUPPLY_SEQ starts now; under shed level 3 the ramp-down runs it (R389). -/
def Dev.faultSites (d : Dev) (n : Nat) (sup : Bool) : Dev :=
  (d.sitesOf n).foldl (fun d m =>
    if d.get (K.SITE_COND m) = 1 ∨ d.get (K.SITE_COND m) = 2 then
      let d := d.parkSite m 7 (d.get (K.CYCLE n)) (d.get (K.CYCLE n))
      d.setSite m { d.site m with parkDue := if sup then 1 else 0 }
    else d) d

/-- Supply sequences of parks whose boundary has not come before the end start now (R90). -/
def Dev.dueSupplies (d : Dev) (n : Nat) : Dev :=
  (d.sitesOf n).foldl (fun d m =>
    if (d.site m).parkDue = 1 then (d.setSite m { d.site m with parkDue := 0 }).supplyStart m else d) d

/-- Assay units, Dowser engines and Hewers follow their sequencer (R136, R197, R210). -/
def followers (m : Memory) (d : Dev) (n final : Nat) : Memory × Dev :=
  let p := (List.range 16).foldl (fun (p : Memory × Dev) u =>
    if p.2.get (K.ASY_SEQ u) = n ∧ (p.2.get (K.ASY_STATE u) = 1 ∨ p.2.get (K.ASY_STATE u) = 2) then asyEnd p.1 p.2 u 4 else p) (m, d)
  let p := (List.range 4).foldl (fun (p : Memory × Dev) e =>
    let d := p.2.dwsPend e n (2 ^ 32 - 1)
    if d.get (K.DWS_SEQ e) = n ∧ d.dwsActive e then dwsAborted p.1 d e 2 else (p.1, d)) p
  let d := if final = 0 then
      (List.range 16).foldl (fun (d : Dev) h =>
        if d.get (K.HEW_SEQ h) = n ∧ d.get (K.HEW_STATE h) ≠ 0 then
          ({ d with hewers := Table.put d.hewers h {} } : Dev).set (K.HEW_STATE h) 0
        else d) p.2
    else p.2
  (p.1, d)

/-- SEQn enters `final` (0 STOPPED, 4 DONE, 5 ABORTED): END records if it issued, its sites INACTIVE, sealed sets handed
over, windows emptied, and everything that follows it (R73, R89, R125, R168). -/
def seqEnd (m : Memory) (d : Dev) (n final : Nat) : Memory × Dev :=
  let st := d.get (K.SEQ_STATE n)
  let r := d.run n
  let d := d.dueSupplies n
  let d := if st = 2 ∨ st = 3 then r.sites.foldl (fun d s => d.logEnd n s) d else d
  let d := (d.sitesOf n).foldl (fun d s => d.set (K.SITE_COND s) 0) d
  let d := (d.set (K.SEQ_STATE n) final).set (K.SEQ_STATUS n) (bits (d.get (K.SEQ_STATUS n)) 16 5 * 65536)
  let d := if final = 4 ∨ st = 1 ∨ st = 5 then d else d.parkGang n r.gang
  let d := d.windowsIdle n
  let sets := d.get (K.TSET_SEAL n)
  let d := if sets = 0 then d else (d.free 64).2.handOver n r.gang sets 0xFFFF (d.free 64).1
  let d := d.bondAnnounce n none
  let p := followers m d n final
  let d := if final = 0 then p.2.setRun n {} else p.2.setRun n { gang := r.gang, sites := r.sites, parked := r.parked, cur := r.cur, t := r.t, slots := r.slots, endTick := r.endTick }
  (p.1, d.chipIdle.ddrShed)

/-- A STOP, a fault or shed level 3 reaches SEQn (R73, R76). `why`: 4 STOP, 5 fault, 6 shed level 3. While RUNNING it
ends issue at the next granule boundary; in the drain of a PAUSE or a HALT, PAUSED or ARMED it acts at once. -/
def seqStop (m : Memory) (d : Dev) (n why : Nat) : Memory × Dev :=
  let st := d.get (K.SEQ_STATE n)
  let r := d.run n
  if st = 2 then
    if 1 ≤ r.drain ∧ r.drain < why then
      let d := (d.parkGang n r.gang).bondSend n (if why = 4 then 0 else 2)
      (m, d.setRun n { d.run n with drain := why })
    else (m, d.setRun n { r with stopReq := max why (if r.stopReq = 3 then 0 else r.stopReq) })
  else if st = 3 then
    let d := d.bondSend n (if why = 4 then 0 else 2)
    if why = 4 then seqEnd m d n 0 else seqEnd m (d.faultSites n (why == 5)) n 5
  else if st = 1 then
    if why = 4 then seqEnd m (d.bondSend n 0) n 0 else seqEnd m (d.bondSend n 2) n 5
  else if st = 4 ∧ why = 4 then seqEnd m (d.bondSend n 0) n 0
  else (m, d)

/-! Graphs and Tram channels. -/

/-- Open instances, stored items, ready and running operations of a graph are discarded (R225). A class entry is
g × 2^32 + instance. -/
def Dev.graphDrop (d : Dev) (g : Nat) : Dev :=
  let o := d.ovm
  let gr := Table.at o.graphs {} g
  { d with ovm := { o with
      graphs := Table.put o.graphs g { gr with insts := [], flows := [], outq := [], alarms := [], drain := false },
      ready := o.ready.filter (fun p => p.graph != g),
      running := o.running.filter (fun p => p.2.graph != g),
      entries := o.entries.map (fun p => (p.1, p.2.filter (fun e => e / 2 ^ 32 != g))) } }

/-- A RUNNING graph enters ABORTED (R225, R233). -/
def Dev.graphAbort (d : Dev) (g : Nat) : Dev :=
  if d.get (K.GRAPH_STATE g) = 2 then ((d.graphDrop g).set (K.GRAPH_STATE g) 5).event 268 2 g else d

/-- A RUNNING Tram channel enters ABORTED with a cause and an address in TRAM_ERR (R253 to R255). -/
def Dev.tramAbort (d : Dev) (c cause a : Nat) : Dev :=
  if d.get (K.TRAM_STATE c) = 2 then
    let d : Dev := { d with trams := Table.put d.trams c {} }
    ((d.set (K.TRAM_STATE c) 5).set (K.TRAM_ERR c) (fld 56 8 cause + fld 0 40 a)).event (252 + c) 3 0
  else d

/-! The loss of a domain's hardware state (R379, R421). -/

/-- The DDR4 bytes of a channel are lost. -/
def ddrDrop (m : Memory) (d : Dev) (c : Nat) : Memory :=
  m.filter (fun x => !(x.1 / 2 ^ 64 == 1 && d.ddrChanOf (x.1 % 2 ^ 64) == c))

/-- Cluster k takes its Collier firmware from the running image, into the 524,288 bytes of its memory reserved for it (R212,
R214; log entry 54). -/
def loadFirmware (m : Memory) (d : Dev) (k : Nat) : Memory :=
  Memory.wrN m (clusterAt k 3670016) ((d.fw.getD Config.collierFw).take 524288)

/-- Buffers, memories and PLL lock of domain dd are lost; objects keep their values (R379). -/
def domLost (m : Memory) (d : Dev) (dd : Nat) : Memory × Dev :=
  if dd = 1 then
    let t0 := d.free 64
    let t2 := t0.2.free 64
    let t3 := t2.2.free 64
    let t1 := t3.2.free 64
    (m, { t1.2 with tbs := [(0, t0.1), (2, t2.1), (3, t3.1)], tb1 := t1.1 })
  else if 2 ≤ dd ∧ dd ≤ 5 then
    (m, ({ d with staging := Table.del d.staging (dd - 2) } : Dev).set (K.PLL_STATE (dd - 2)) 0)
  else if 6 ≤ dd ∧ dd ≤ 21 then
    (m, { d with chans := d.chans.filter (fun p => p.1 / 16 != dd - 6) })
  else if 26 ≤ dd ∧ dd ≤ 33 then
    (Memory.drop m (lodeAt (4194304 * (dd - 26))) 4194304, { d with badLode := d.badLode.filter (fun l => l / 262144 != dd - 26) })
  else if 34 ≤ dd ∧ dd ≤ 41 then
    (ddrDrop m d (dd - 34), ({ d with ddr := Table.del d.ddr (dd - 34), badDdr := d.badDdr.filter (fun w => d.ddrChanOf w != dd - 34) } : Dev).set
      (K.CH_STATE (dd - 34)) 0)
  else if 42 ≤ dd ∧ dd ≤ 45 then
    (Memory.drop (Memory.drop m (clusterAt (dd - 42) 0) 4194304) (colAt (4 * (dd - 42)) 0) 1048576, d)
  else if dd = 46 then (m, { d with tarns := [], trams := [], ovm := {} })
  else if dd = 47 ∨ dd = 48 then
    (Memory.drop m (assayAt (8 * (dd - 47)) 0) (8 * 2 ^ 33), { d with assays := d.assays.filter (fun p => p.1 / 8 != dd - 47) })
  else if dd = 49 then (m, { d with hewers := [], dowsers := [], tmus := [] })
  else (m, d)

/-! The Winder's foreground routine: unwind and halt. -/

/-- A foreground routine is RUNNING or PAUSED. -/
def Dev.wndBusy (d : Dev) : Bool := d.get K.WND_STATE == 2 || d.get K.WND_STATE == 3

/-- A Winder event (R364, R372), with the routine and the step reached. -/
def Dev.wndInfo (d : Dev) : Nat := (Config.infoWinder (bits (d.get K.WND_STATUS) 24 8) (bits (d.get K.WND_STATUS) 8 16)).toNat
def Dev.wndEvent (d : Dev) (cause : Nat) : Dev := d.event 305 cause d.wndInfo

/-- SKEW_ADJ after SYNC_SKEW's adjustment (R131): (d_B − d_A) / 2 is added, in the object's steps of 500 fs. -/
def Dev.skewSum (d : Dev) : Int := (toSigned 64 (d.get K.SKEW_ADJ) + (d.wnd.skewB - d.wnd.skewA) / 2) / 500 * 500

/-- TMUs held by the Winder are released. -/
def Dev.wndRelease (d : Dev) : Dev := { d with tmus := d.tmus.map (fun p => (p.1, if p.2.holder = 2 then { p.2 with holder := 0 } else p.2)) }

/-- The target of a self-test loses its hardware state; a DDR4 channel leaves the controller UNTRAINED (R421); the PLL of a
shaft that stays ON locks again (R107). -/
def bistLost (m : Memory) (d : Dev) : Memory × Dev :=
  let t := d.get K.BIST_TARGET
  let dd := t % 64
  let u := bits t 8 4
  if u < 8 ∧ (dd = 47 ∨ dd = 48) then
    let unit := 8 * (dd - 47) + u
    (Memory.drop m (assayAt unit 0) (2 ^ 33), { d with assays := Table.del d.assays unit })
  else
    let p := domLost m d dd
    if 34 ≤ dd ∧ dd ≤ 41 then
      (p.1.filter (fun x => x.1 / 2 ^ 64 != 1), if d.get K.DDR_STATE = 0 then p.2 else p.2.setDdrState 1)
    else if 42 ≤ dd ∧ dd ≤ 45 then (loadFirmware p.1 p.2 (dd - 42), p.2)
    else if 2 ≤ dd ∧ dd ≤ 5 then (p.1, p.2.set (K.PLL_STATE (dd - 2)) 1)
    else p

/-- A self-test that runs ends in ABORTED (R418, R421). -/
def bistAborted (m : Memory) (d : Dev) : Memory × Dev :=
  if d.get K.BIST_STATE = 2 ∨ d.get K.BIST_STATE = 3 then
    let p := bistLost m d
    let t := d.get K.BIST_TARGET
    let res := fld 18 6 (t % 64) + fld 14 4 (bits t 8 4) + fld 11 3 (bits t 12 3) + 3
    (p.1, ((p.2.set K.BIST_RESULT res).set K.BIST_STATE 5).event 306 3 0)
  else (m, d)

/-! Free measured values. -/

/-- Objects set to free values of given widths. -/
def Dev.freeSet (d : Dev) (l : List (Nat × Nat)) : Dev :=
  l.foldl (fun (d : Dev) k => (d.free k.2).2.set k.1 (d.free k.2).1) d

/-- An object set to a free signed value from −n to +n, times a step. -/
def Dev.freeWithin (d : Dev) (key w n step : Nat) : Dev :=
  let x : Int := (((d.free 32).1 % (2 * n + 1) : Nat) : Int) - n
  (d.free 32).2.set key (ofSigned w (x * step))

/-- What a routine held is returned and it ends with `st` in WND_STATE; nothing of it waits any more. -/
def Dev.wndEnded (d : Dev) (st : Nat) : Dev :=
  ({ d with wnd := { d.wnd with intr := 0, stack := [], entered := false, waiting := false, phase := 0 } } : Dev).set K.WND_STATE st

/-- A routine ends in DONE (R364). -/
def Dev.wndFinish (d : Dev) : Dev :=
  let d := (d.wndRelease.wndEnded 4).wndEvent 1
  if bit (d.get K.WND_STATUS) 4 then d.wndEvent 4 else d

/-- The unwind has ended: what the routine held is released; `result` as in WND_STATUS. -/
def Dev.wndUnwound (d : Dev) (result : Nat) : Dev :=
  let d := d.wndRelease
  ((d.set K.WND_STATUS (putBits (setBit (d.get K.WND_STATUS) 6) 0 4 result)).wndEnded 5).wndEvent 2

/-- TRAIN_RESULT of each channel as far as DDR_TRAIN has trained, by the STEP reached (R366, R447): measured, so free. -/
def Dev.trainedSoFar (d : Dev) : Dev :=
  let step := bits (d.get K.WND_STATUS) 8 16
  d.freeSet (((setBits 8 (d.get K.CHAN_MASK)).filter (fun c => step != 0 && decide (c ≤ step / 256))).map (fun c => (K.TRAIN_RESULT c, 16)))

/-- PCH_CAL's EXIT_LIST runs, if it has one that does not run already: the routine stays RUNNING until it ends (R360, R368). -/
def Dev.wndExitList (d : Dev) (phase result : Nat) : Option Dev :=
  let list := bits d.wnd.arg 16 8
  if list < 16 ∧ d.get (K.WL_STATE list) ≠ 2 then
    some (({ d with wnd := { d.wnd with phase := phase, endRes := result, intr := 0, waiting := false } } : Dev).wlStart list)
  else none

/-- The routine's unwind (R361, R366): BIST ends ABORTED, PCH_CAL runs its EXIT_LIST if ENTER_LIST ran, DDR_TRAIN leaves
UNTRAINED with the DRAM contents lost; what the routine held is released. `result` as in WND_STATUS. -/
def wndUnwind (m : Memory) (d : Dev) (result : Nat) : Memory × Dev :=
  let w := d.wnd
  if w.routine = 6 then let p := bistAborted m d; (p.1, p.2.wndUnwound result)
  else if w.routine = 4 then let p := ddrUntrained m d.trainedSoFar; (p.1, p.2.wndUnwound result)
  else if w.routine = 1 ∧ w.entered then
    match d.wndExitList 1 result with
    | some e => (m, e)
    | none => (m, d.wndUnwound result)
  else (m, d.wndUnwound result)

/-- SPI list w has ended: the routine whose EXIT_LIST it is ends with it. -/
def Dev.wndListDone (d : Dev) (w : Nat) : Dev :=
  if d.get K.WND_STATE = 2 ∧ d.wnd.phase ≠ 0 ∧ bits d.wnd.arg 16 8 = w then
    if d.wnd.phase = 1 then d.wndUnwound d.wnd.endRes else d.wndFinish
  else d

/-- An object that a halt leaves at its old value or at the one `f` would write, whichever (R366). -/
def Dev.perhaps (d : Dev) (key : Nat) (f : Dev → Dev) : Dev :=
  let e := f (d.freeB).2
  if (d.freeB).1 then e else e.set key (d.get key)

/-- Objects that a halt may leave at any mixture of old and new values (R366), and those it may leave old or new (R362). -/
def Dev.wndPartial (d : Dev) : Dev :=
  let committed := bit (d.get K.WND_STATUS) 5 && d.wnd.phase == 0
  let w := d.wnd
  match w.routine with
  | 1 =>
    if committed then
      let off (d : Dev) (keys : List Nat) : Dev := keys.foldl (fun d k => d.perhaps k (fun d => d.freeWithin k 16 4000 1)) d
      let zero (d : Dev) (k : Nat) : Dev := d.perhaps k (fun d => d.set k 0)
      let any_ (d : Dev) (k : Nat) : Dev := d.perhaps k (fun d => d.freeSet [(k, 16)])
      (List.range 256).foldl (fun d ch =>
        if bit w.arg (ch / 64) then
          match d.spareFor ch with
          | some k => any_ (zero (zero (off d ((List.range 6).map (K.SPE_CAL k ·))) (K.SPE_THERM_ADJ k)) (K.THERM_ADJ ch)) (K.CAL_TEMP ch)
          | none => any_ (zero (off d [K.CAL_DRV_RISE ch, K.CAL_DRV_FALL ch, K.CAL_DEN_ON ch, K.CAL_DEN_OFF ch, K.CAL_CMPH ch,
              K.CAL_CMPL ch]) (K.THERM_ADJ ch)) (K.CAL_TEMP ch)
        else d) d
    else d
  | 3 => if committed then
      (d.perhaps K.SKEW_ADJ (fun d => d.set K.SKEW_ADJ (ofSigned 64 d.skewSum))).perhaps K.SKEW_RESIDUAL
        (fun d => d.freeSet [(K.SKEW_RESIDUAL, 64)])
    else d
  | 4 => (setBits 8 (d.get K.CHAN_MASK)).foldl (fun d c => d.perhaps (K.TRAIN_RESULT c) (fun d => d.freeSet [(K.TRAIN_RESULT c, 16)])) d
  | 8 => if committed then (setBits 4 w.arg).foldl (fun d k => d.perhaps (K.TMU_CALIBRATED k) (fun d => d.set (K.TMU_CALIBRATED k) 1)) d
    else d
  | 9 => if committed then
      let ks := setBits 4 w.arg
      let i := (d.free 3).1 % ks.length
      let d := (ks.take i).foldl (fun (d : Dev) k => (d.set (K.LIN_STATE k) 1).freeSet [(K.LIN_INL k, 64)]) (d.free 3).2
      (ks.drop i).take 1 |>.foldl (fun d k => d.set (K.LIN_STATE k) 2) d
    else d
  | _ => d

/-- A class K fault, or a TRAP after the commit point, halts the routine, in its unwind too (R362, R364, R367); `force`: its
event is delivered whatever its enable bit (R399). -/
def wndHaltF (m : Memory) (d : Dev) (force : Bool) : Memory × Dev :=
  if d.wndBusy then
    let w := d.wnd
    let d := d.wndPartial.wndRelease
    let p := if w.routine = 6 then bistAborted m d
      else if w.routine = 4 then (m.filter (fun x => x.1 / 2 ^ 64 != 1), d.setDdrState 5)
      else (m, d)
    let d := p.2.set K.WND_STATUS (putBits (setBit (p.2.get K.WND_STATUS) 7) 0 4 5)
    let d := raiseN 257 (d.wndEnded 5) 305 3 d.wndInfo force
    (p.1, if bit (d.get K.WND_STATUS) 4 then d.wndEvent 4 else d)
  else (m, d)

/-- The result code of the strongest pending interrupt request: FAULT, then SHED, then HOST (R360). -/
def intrResult (i : Nat) : Nat := if bit i 2 then 3 else if bit i 1 then 2 else 1

/-- An interrupt request `r` (0 HOST, 1 SHED, 2 FAULT) reaches the foreground routine (R360, R361): after the commit
point it is recorded as ABORT_DEFERRED; an unwind is not interrupted; a PAUSED routine takes it at once; otherwise it waits for a SAFE point. -/
def wndRequest (m : Memory) (d : Dev) (r : Nat) : Memory × Dev :=
  if d.wndBusy then
    if bit (d.get K.WND_STATUS) 5 then (m, d.setB K.WND_STATUS 4 true)
    else if d.wnd.phase = 1 then (m, d)
    else
      let d : Dev := { d with wnd := { d.wnd with intr := setBit d.wnd.intr r } }
      if d.get K.WND_STATE = 3 then wndUnwind m d (intrResult d.wnd.intr) else (m, d)
  else (m, d)

end Sys2Proof.Machine
end

