-- ==== Sys2Proof/Machine/Transfer.lean ====
section
/-! DEFINITION. How a domain transfer ends without its CLOSE (R293, R294). What a write transfer has carried is staged
above the content of every object, and takes effect at CLOSE. -/

namespace Sys2Proof.Machine

/-- Where byte o of an open write transfer to an object is staged. -/
def stageAt (key o : Nat) : Nat := domAt (key + 2 ^ 24) o

/-- The open transfer of an object. -/
def Dev.xferOf (d : Dev) (key : Nat) : Option Xfer := d.xfers.find? (fun x => x.key == key)

/-- The transfer of an object is over. -/
def Dev.xferDone (d : Dev) (key : Nat) : Dev :=
  let l := d.xfers.filter (fun x => x.key != key)
  ({ d with xfers := l } : Dev).set K.OPEN_BLOCKS l.length

/-- An incomplete load leaves the object as its chapter says (R51, R293): a PATTERN_IMAGE that had reached LOADING is
REJECTED and one that had not is unchanged; a graph image is EMPTY; the others hold their default. -/
def loadLost (m : Memory) (d : Dev) (key : Nat) : Memory × Dev :=
  let i := key / 256
  if 0x2000 ≤ i ∧ i ≤ 0x203F then
    (let n := i - 0x2000
     if d.get (K.IMAGE_STATUS n) % 16 = 1 then
       (Memory.drop m (domAt key 0) (2 ^ 33), (d.setF (K.IMAGE_STATUS n) 0 4 3))
     else (m, d))
  else if 0x2500 ≤ i ∧ i ≤ 0x253F then
    (Memory.drop m (domAt key 0) (2 ^ 33),
     ({ d with domLen := Table.del (Table.del d.domLen key) (0x2500FF + 256 * (i - 0x2500)) } : Dev).setAll
       [(K.GRAPH_STATUS (i - 0x2500), 0), (K.GRAPH_ID (i - 0x2500), 0)])
  else (Memory.drop m (domAt key 0) (2 ^ 33), { d with domLen := Table.del d.domLen key })

/-- A transfer is cancelled. -/
def xferCancel (m : Memory) (d : Dev) (x : Xfer) : Memory × Dev :=
  let d := d.xferDone x.key
  if x.write then loadLost (Memory.drop m (stageAt x.key 0) (2 ^ 33)) d x.key else (m, d)

/-- The chip enters FAULT: open write transfers are cancelled and their later requests refused with FAULT (R294). -/
def xfersFault (m : Memory) (d : Dev) : Memory × Dev :=
  (d.xfers.filter (·.write)).foldl (fun p x =>
    let q := xferCancel p.1 p.2 x
    (q.1, { q.2 with endedBy := Table.put q.2.endedBy x.key 0x0B })) (m, d)

end Sys2Proof.Machine
end

