-- ==== Sys2Proof/Machine/Faults.lean ====
section
/-! DEFINITION. Faults: occurrence, log, reaction, latching and clearing (R398 to R407, R413 to R416), and the release of
shed actions. -/

namespace Sys2Proof.Machine

/-- One instance reacts with STOP_FUNCTION (R399, R402): it enters ABORTED, or FAILED for the DDR4 controller, and the
fault latches on it. -/
def stopInstance (m : Memory) (d : Dev) (fk idx : Nat) : Memory × Dev :=
  if 0x1200 ≤ idx ∧ idx ≤ 0x123F then
    (if d.seqLive (idx - 0x1200) then seqStop m (d.latch idx fk) (idx - 0x1200) (if fk = 30 ∨ fk = 31 then 6 else 5) else (m, d))
  else if 0x1500 ≤ idx ∧ idx ≤ 0x150F then
    (let u := idx - 0x1500
     if d.get (K.ASY_STATE u) = 1 ∨ d.get (K.ASY_STATE u) = 2 then
       (m, asyQuiet (d.latch idx fk) u 5)
     else (m, d))
  else if 0x0C40 ≤ idx ∧ idx ≤ 0x0C7F then
    (if d.get (K.GRAPH_STATE (idx - 0x0C40)) = 2 then (m, (d.latch idx fk).graphAbort (idx - 0x0C40)) else (m, d))
  else if 0x0A00 ≤ idx ∧ idx ≤ 0x0A0F then
    (let c := idx - 0x0A00
     if d.get (K.TRAM_STATE c) = 2 then (m, (d.latch idx fk).tramAbort c 0 (d.get (K.CUR_DESC c)))
     else if fk = 19 then (m, d.latch idx fk) else (m, d))
  else if idx = 0x0900 then ddrFail m (d.latch idx fk)
  else if 0x1604 ≤ idx ∧ idx ≤ 0x1607 then
    (if d.get (K.TMU_STATE (idx - 0x1604)) = 2 then (m, (d.latch idx fk).tmuEnd (idx - 0x1604) 5) else (m, d))
  else (m, d)

/-- Several instances react (R416: in ascending order). -/
def stopInstances (m : Memory) (d : Dev) (fk : Nat) (l : List Nat) : Memory × Dev :=
  l.foldl (fun p idx => stopInstance p.1 p.2 fk idx) (m, d)

/-- The Canary stops for a cause (R414, R413), holding its level. -/
def Dev.canaryStop (d : Dev) (cause : Nat) : Dev :=
  if d.get K.CANARY_STATE = 2 then ((d.set K.CANARY_STATE 0).set K.CANARY_STOP_CAUSE cause).event 316 1 cause else d

/-- The Canary resumes (R414, R413). -/
def Dev.canaryResume (d : Dev) : Dev :=
  if d.get K.CANARY_STATE = 0 then (d.set K.CANARY_STATE 2).event 316 2 (d.get K.CANARY_STOP_CAUSE) else d

/-- In BOOT and LOCKED the Canary resumes once no cause persists (R402, R414). -/
def Dev.canaryTry (d : Dev) : Dev :=
  if d.get K.CHIP_STATE < 2 ∧ !d.pwr.hfDown ∧ !d.pwr.refLost ∧ !d.pwr.memBad ∧ d.pwr.calm then d.canaryResume else d

/-- STOP_CHIP (R401): the chip enters FAULT; every sequencer, graph, Tram channel and TMU ends in ABORTED with the kind
latched on it, and so do the Dowser engines that follow their sequencers and a DDR4 controller whose training is halted; the Winder is
halted by a class K fault, with the event of WINDER_HANG or WINDER_STORE_ECC (R372), and interrupted by another. -/
def stopChip (m : Memory) (d : Dev) (fk : Nat) : Memory × Dev :=
  let p := xfersFault m ((d.latch 0x0300 fk).setChip 6)
  let engines := (List.range 4).filter p.2.dwsActive
  let p := stopInstances p.1 p.2 fk ((List.range 64).map (0x1200 + ·) ++ (List.range 64).map (0x0C40 + ·) ++
    (List.range 16).map (0x0A00 + ·) ++ (List.range 4).map (0x1604 + ·))
  let p := (p.1, engines.foldl (fun (d : Dev) e => d.latch (0x1600 + e) fk) p.2)
  let p := (p.1, if p.2.wndBusy && faultClass fk == 3 && p.2.wnd.routine == 4 then p.2.latch 0x0900 fk else p.2)
  let d := if p.2.wndBusy && (faultClass fk == 3 || !(bit (p.2.get K.WND_STATUS) 5)) then p.2.latch 0x0740 fk else p.2
  let d := if d.get K.BIST_STATE = 2 ∨ d.get K.BIST_STATE = 3 then d.latch 0x0800 fk else d
  if faultClass fk = 3 then wndHaltF p.1 d (fk == 28 || fk == 29) else wndRequest p.1 d 2

/-- The functions whose faults are of an object index that a test of a domain holds (R365, R421). -/
def inTestDomain (dd unit idx : Nat) : Bool :=
  let within (lo hi : Nat) : Bool := decide (lo ≤ idx) && decide (idx ≤ hi)
  idx == 0x0500 + dd ||
  (if 2 ≤ dd ∧ dd ≤ 5 then idx == 0x1710 + (dd - 2)
  else if 22 ≤ dd ∧ dd ≤ 25 then within (0x1100 + 2 * (dd - 22)) (0x1101 + 2 * (dd - 22))
  else if 34 ≤ dd ∧ dd ≤ 41 then idx == 0x0900 || idx == 0x0901 + (dd - 34)
  else if 42 ≤ dd ∧ dd ≤ 45 then idx == 0x0C01 + (dd - 42)
  else if dd = 46 then within 0x0A00 0x0A0F || within 0x0B00 0x0BFF || within 0x0C40 0x0C7F
  else if dd = 47 ∨ dd = 48 then
    (if unit < 8 then idx == 0x1500 + 8 * (dd - 47) + unit else within (0x1500 + 8 * (dd - 47)) (0x1507 + 8 * (dd - 47)))
  else if dd = 49 then within 0x1300 0x130F || within 0x1600 0x1607
  else if dd = 51 then within 0x0210 0x0215
  else false)

/-- The running foreground routine holds the function at an object index (R360, R365). -/
def Dev.wndHolds (d : Dev) (idx : Nat) : Bool :=
  let a := d.wnd.arg
  d.wndBusy && (match d.wnd.routine with
    | 2 => idx == 0x1200 + a % 64
    | 3 => idx == 0x1800 || idx == 0x1604 + d.get K.MASTER_PORT
    | 4 => decide (0x0900 ≤ idx) && decide (idx ≤ 0x0908)
    | 6 => let t := d.get K.BIST_TARGET; inTestDomain (t % 64) (bits t 8 4) idx
    | 1 | 8 | 9 => (setBits 4 a).any (fun k => idx == 0x1604 + k || idx == 0x1710 + k)
    | _ => false)

/-- A fault occurs (FAULT_OCCURRENCE, R399): kind, raising instance, information, the event of its source (number, cause,
information), the instances of its STOP_FUNCTION column, and for class S the sites that park with the cycle their
results are discarded from. In BOOT and LOCKED it is counted and logged only, and class K stops the Canary (R416). -/
def raiseFault (m : Memory) (d : Dev) (fk inst info : Nat) (ev : Option (Nat × Nat × Nat)) (targets : List Nat)
    (parks : List (Nat × Nat)) : Memory × Dev :=
  let react := if faultClass fk = 3 then 4 else d.get (K.FAULT_REACT fk)
  let d := (d.bumpSat (K.FAULT_COUNT fk)).faultLog fk inst info react
  let d : Dev := if fk = 29 ∨ fk = 38 then { d with pwr := { d.pwr with memBad := true } } else d
  let d := match ev with
    | some (e, c, i) => raiseN 257 d e c i (decide (1 ≤ react))
    | none => d
  let k := faultClass fk = 3
  let stop := if fk = 37 then 2 else if fk = 31 ∨ (fk = 30 ∧ d.get K.SHED_LEVEL = 4) then 3 else 1
  if d.get K.CHIP_STATE < 2 then
    (m, if k then d.canaryStop stop else d)
  else
    let d := if 2 ≤ react then parks.foldl (fun (d : Dev) q =>
        let n := d.get (K.SITE_SEQ q.1)
        let parked := d.get (K.SITE_COND q.1) == 1 || d.get (K.SITE_COND q.1) == 2
        let d := d.parkSite q.1 (parkCauseOf fk) q.2 (max (boundaryFrom q.2) (boundaryFrom (d.get (K.CYCLE n))))
        if parked then (d.setRun n { d.run n with parked := setBit (d.run n).parked fk }).siteCheck n else d) d
      else d
    let p := if react = 3 then stopInstances m d fk targets else (m, d)
    let p := if react = 4 then (let q := stopInstances p.1 p.2 fk targets; stopChip q.1 q.2 fk) else p
    let p := if faultClass fk = 2 ∧ react < 4 ∧ (inst :: targets).any p.2.wndHolds then wndRequest p.1 p.2 2 else p
    (p.1, if k then p.2.canaryStop stop else p.2)

/-- A sequencer's fault (R100): its event carries entry index and CYCLE. -/
def seqFault (m : Memory) (d : Dev) (n fk entry cycle : Nat) (parks : List (Nat × Nat)) : Memory × Dev :=
  let info := fld 48 16 entry + fld 0 48 cycle
  raiseFault m d fk (0x1200 + n) info (some (n, (Config.causeOfFault fk).toNat, info)) [0x1200 + n] parks

/-- The class S kinds that parked a site latch on a sequencer that ends in ABORTED for want of sites (R403). -/
def Dev.latchParked (d : Dev) (n : Nat) : Dev :=
  (setBits 64 (d.run n).parked).foldl (fun d fk => d.latch (0x1200 + n) fk) d

/-! Clearing (R404). -/

/-- The shafts a sequencer uses: its home and those of its gang. -/
def Dev.shaftsOf (d : Dev) (n : Nat) : List Nat :=
  (List.range 4).filter (fun k => k == homeShaft n || (d.gangOf n).any (fun p => p.1 / 64 == k))

/-- A latched kind's cause persists (R402); `rails`: a RAIL_FAULT read made by the clear found a fault. -/
def Dev.persists (d : Dev) (idx fk : Nat) (rails : Bool) : Bool :=
  match fk with
  | 9 => (setBits 4 (Table.at d.pllOf 0 idx)).any (fun k => d.domOn (2 + k) && d.get (K.PLL_STATE k) != 2)
  | 23 => d.pwr.alert != 0
  | 29 | 38 => true
  | 30 | 31 => !d.pwr.calm
  | 32 => d.pwr.refLost
  | 34 => rails
  | 37 => d.pwr.hfDown
  | _ => false

/-- Rails the clear reads: ENABLE 1 and FAULT (R404). -/
def Dev.faultyRails (d : Dev) : List Nat :=
  (List.range 32).filter (fun r => bit (d.get (K.RAIL_CFG r)) 8 && d.get (K.RAIL_STATE r) == 2)

/-- A STATUS_WORD read made by a clear (R404): 0 returns the rail to the state last commanded; an unacknowledged read
raises PMBUS_NACK. -/
def railReread (m : Memory) (d : Dev) (r : Nat) (status : Option Nat) : Memory × Dev :=
  let d := d.railSends r [(.statusWord, 0)]
  match status with
  | some 0 => (m, (d.set (K.RAIL_STATUS r) 0).set (K.RAIL_STATE r) (Table.at d.pwr.railWant 0 r))
  | some s => (m, d.set (K.RAIL_STATUS r) (s % 65536))
  | none =>
    let mm := d.railMaster r
    raiseFault m (d.bump (K.PMB_NACKS mm)) 35 (0x0570 + mm) 0 (some (299 + mm, 2, 0)) [] []

/-- Shed actions of the levels are released (R384): SHED_LEVEL, cluster clocks, Overman, spills, paused engines. -/
def Dev.shedClear (d : Dev) (level : Nat) : Dev :=
  let d := ({ d with pwr := { d.pwr with ramp := [], ramped := [] } } : Dev).set K.SHED_LEVEL level
  let d := if level = 0 then
      ((List.range 4).foldl (fun d k => if d.get (K.CLUSTER_STATE k) = 0 then d else d.set (K.CLUSTER_CLOCK k) 2000) d).dwsShed false
    else d
  let d := if level < 2 then (List.range 16).foldl (fun d u => d.setB (K.ASY_STATUS u) 4 false) (d.set K.OVM_STATE 1) else d
  d

/-- An instance takes the state its chapter gives for a fault status cleared with the cause gone (R404). The chip, STOPPED, is
SHED at once where level 1 or 2 is in force (R282). -/
def clearInstance (m : Memory) (d : Dev) (idx : Nat) : Memory × Dev :=
  let shed := bit (d.latchedOn idx) 30 || bit (d.latchedOn idx) 31
  let d : Dev := { d with latched := Table.del d.latched idx, pllOf := Table.del d.pllOf idx }
  if idx = 0x0300 then
    let d := if shed then d.shedClear 0 else d
    (m, if d.get K.CHIP_STATE = 6 then
        (let d := d.setChip 2
         (if 1 ≤ d.get K.SHED_LEVEL ∧ d.get K.SHED_LEVEL ≤ 2 then d.setChip 5 else d).canaryResume)
      else d)
  else if 0x1200 ≤ idx ∧ idx ≤ 0x123F then
    (if d.get (K.SEQ_STATE (idx - 0x1200)) = 5 then seqEnd m d (idx - 0x1200) 0 else (m, d))
  else if 0x1500 ≤ idx ∧ idx ≤ 0x150F then
    (m, if d.get (K.ASY_STATE (idx - 0x1500)) = 5 then d.set (K.ASY_STATE (idx - 0x1500)) 0 else d)
  else if 0x0C40 ≤ idx ∧ idx ≤ 0x0C7F then
    (m, if d.get (K.GRAPH_STATE (idx - 0x0C40)) = 5 then
        ({ d with ovm := { d.ovm with graphs := Table.del d.ovm.graphs (idx - 0x0C40) } } : Dev).set (K.GRAPH_STATE (idx - 0x0C40)) 0
      else d)
  else if 0x0A00 ≤ idx ∧ idx ≤ 0x0A0F then
    (m, if d.get (K.TRAM_STATE (idx - 0x0A00)) = 5 then d.set (K.TRAM_STATE (idx - 0x0A00)) 0 else d)
  else if idx = 0x0900 then if d.get K.DDR_STATE = 5 then ddrUntrained m d else (m, d)
  else if 0x1600 ≤ idx ∧ idx ≤ 0x1603 then
    (m, if d.get (K.DWS_STATE (idx - 0x1600)) = 5 then d.set (K.DWS_STATE (idx - 0x1600)) 0 else d)
  else if 0x1604 ≤ idx ∧ idx ≤ 0x1607 then
    (m, if d.get (K.TMU_STATE (idx - 0x1604)) = 5 then d.set (K.TMU_STATE (idx - 0x1604)) 0 else d)
  else if idx = 0x0740 then (m, if d.get K.WND_STATE = 5 then d.set K.WND_STATE 0 else d)
  else if idx = 0x0800 then (m, if d.get K.BIST_STATE = 5 then d.set K.BIST_STATE 0 else d)
  else (m, d)

/-- An instance on its way to ABORTED, which a fault latches on as it ends there (R403): none to clear yet. -/
def Dev.latchComing (d : Dev) (idx : Nat) : Bool :=
  if 0x1200 ≤ idx ∧ idx ≤ 0x123F then d.seqLive (idx - 0x1200)
  else if 0x1600 ≤ idx ∧ idx ≤ 0x1603 then d.dwsActive (idx - 0x1600)
  else if idx = 0x0740 then d.wndBusy
  else if idx = 0x0800 then d.get K.BIST_STATE == 2 || d.get K.BIST_STATE == 3
  else false

/-- The instances a FAULT_CLEAR of `v` names: one, or with 0xFFFF all, of those that hold a latch (R404). -/
def Dev.clearNames (d : Dev) (v : Nat) : List Nat :=
  (d.latched.filter (fun p => p.2 != 0 && (v == 0xFFFF || p.1 == v) && !d.latchComing p.1)).map (·.1)

/-- FAULT_CLEAR of one instance, or of all with 0xFFFF (R404): none holding a latch is STATE; any cause that persists is
CAUSE_PRESENT and unlatches nothing. `reads`: what the STATUS_WORD reads of a RAIL_FAULT clear return by rail. -/
def faultClear (m : Memory) (d : Dev) (v : Nat) (reads : List (Nat × Option Nat)) : (Memory × Dev) × Option Abort :=
  let insts := d.clearNames v
  if insts.isEmpty then ((m, d), some .state)
  else
    let rail := insts.any (fun i => bit (d.latchedOn i) 34)
    let p := if rail then
        d.faultyRails.foldl (fun p r => railReread p.1 p.2 r ((reads.find? (fun q => q.1 == r)).bind (·.2))) (m, d)
      else (m, d)
    let bad := !p.2.faultyRails.isEmpty
    if insts.any (fun i => (setBits 64 (p.2.latchedOn i)).any (fun fk => p.2.persists i fk bad)) then (p, some .causePresent)
    else (insts.foldl (fun p i => clearInstance p.1 p.2 i) p, none)

/-! Uncorrectable DDR4 reads (R271, R272). -/

/-- An uncorrectable read or scrub of channel c at address a (R271). -/
def ddrUncorr (m : Memory) (d : Dev) (c a : Nat) : Memory × Dev :=
  let d := (d.bump (K.ECC_UNCORR c)).set (K.ECC_LAST_ADDR c) a
  raiseFault m d 21 (0x0901 + c) a (some (228 + c, 2, a)) [0x0900] []

/-- Bytes [a, a + len) read as uncorrectable: one of their 8-byte words is marked so (R271), or the controller is FAILED
(R272). -/
def Dev.ddrBad (d : Dev) (a len : Nat) : Bool :=
  d.get K.DDR_STATE == 5 || d.badDdr.any (fun w => decide (w < a + len) && decide (a < w + 8))

/-- The address an uncorrectable read of [a, a + len) reports: its first such word, or a. -/
def Dev.ddrBadAt (d : Dev) (a len : Nat) : Nat :=
  match d.badDdr.filter (fun w => decide (w < a + len) && decide (a < w + 8)) with
  | [] => a
  | w :: l => max a (l.foldl min w)

/-- The bursts of an uncorrectable access to [a, a + len): those with a marked word in it; the first where none has one (its
outcome came with the access); all while the controller is FAILED (R271, R272). -/
def Dev.badBursts (d : Dev) (a len : Nat) : List Nat :=
  let all := (List.range (burstsOf a len)).map (fun i => (a / 64 + i) * 64)
  let marked := all.filter (fun b => d.badDdr.any (fun w =>
    decide (w < a + len) && decide (a < w + 8) && decide (b ≤ w) && decide (w < b + 64)))
  if d.get K.DDR_STATE = 5 then all else if marked.isEmpty then all.take 1 else marked

/-- The address the uncorrectable burst b of an access from a reports. -/
def Dev.badBurstAt (d : Dev) (a len b : Nat) : Nat := d.ddrBadAt (max a b) (min (a + len) (b + 64) - max a b)

/-- A reader's access to [a, a + len) through a port, uncorrectable if `bad`: its bursts wait at the port, and each
uncorrectable one is counted and raised at once (R271); while the controller is FAILED nothing waits (R272). -/
def ddrReadBy (m : Memory) (d : Dev) (port a len : Nat) (bad : Bool) (src : Nat := 0) (lines : List Nat := []) : Memory × Dev :=
  let hit := if bad then d.badBursts a len else []
  let d := if d.get K.DDR_STATE = 3 then d.ddrTraffic port a len false [] hit src lines else d
  hit.foldl (fun p b => ddrUncorr p.1 p.2 (p.2.ddrChanOf b) (d.badBurstAt a len b)) (m, d)

end Sys2Proof.Machine
end

