-- ==== Sys2Proof/Machine/Decompress.lean ====
section
/-! DEFINITION. Pattern data: sub-streams, blocks and code buffers (R31 to R39, R43 to R45) and refill windows (R46 to
R49). A format or ECC error is carried by its granule and takes effect when that granule issues (log entry 19). -/

namespace Sys2Proof.Machine

/-- Granules a code buffer holds, a RUN counting as the granules it stands for. -/
def fillOf (l : List Gran) : Nat := (l.map (·.n)).sum

/-- Granules of one iteration of a segment (R58, R66). -/
def granules (entry : Nat) : Nat := bits entry 224 32 / 8

def segKind (entry : Nat) : Nat := bits entry 144 3
def segRepeat (entry : Nat) : Nat := bits entry 200 24
def segLen (entry : Nat) : Nat := bits entry 224 32

/-- The expander at the start of a slice's sub-stream (R43, R44); none where its directory entry or descriptor could not be
read (R39). -/
def startSub (c : Commit) (seam : Nat) : Option Expander :=
  match c.subs.find? (fun p => p.1 == seam && !(c.bad.contains seam)) with
  | none => none
  | some (_, x) =>
    if segKind c.raw = 1 then
      some ⟨c.seg, c.idx, c.raw, 0, 0, 0, x % 2 ^ 21, bits x 32 13, bits x 104 24, some (bits x 52 4),
        ((c.wb.find? (fun p => p.1 == seam)).map (·.2)).getD 0, none, false⟩
    else some ⟨c.seg, c.idx, c.raw, 0, 0, 0, x % 2 ^ 21, 2 ^ 32, 2 ^ 32, none, 0, none, false⟩

/-- The same sub-stream at its first block again (R33). -/
def Expander.restart (e : Expander) : Expander := { e with iter := e.iter + 1, g := 0, pos := 0, prev := none, dead := false }

/-- The successor the run has fixed, if any: the one a hold precedes, or the decision's. -/
def SeqRun.succ (r : SeqRun) : Option Commit :=
  match r.fast, r.holdThen, r.next with
  | some c, _, _ => some c
  | _, some c, _ => some c
  | _, _, some (.seg c) => some c
  | _, _, _ => none

/-- Where the decompressor of a slice goes on (R33, R45): the block that follows in the sub-stream, the next iteration, or
the successor. Iterations are expanded ahead of their decision; the count of the segment is never passed. -/
def expReady (r : SeqRun) (seam : Nat) (x : Option Expander) : Option Expander :=
  match x with
  | none => r.succ.bind (fun c => startSub c seam)
  | some e =>
    if e.dead then none
    else if e.g < granules e.entry then some e
    else
      let more := segRepeat e.entry == 0 || decide (e.iter + 1 < segRepeat e.entry)
      match r.cur with
      | some c =>
        if c.seg = e.seg then
          (match r.succ with
           | some s => if e.iter < r.iter then some e.restart else startSub s seam
           | none =>
             match r.next with
             | some .exhaust => none
             | some .halt => none
             | _ => if more then some e.restart else none)
        else if e.seg < c.seg then startSub c seam
        else if more then some e.restart else none
      | none => none

/-- What reading a sub-stream gives: nothing yet, a line beyond the partition, or bits with whether a line they came from
has uncorrectable check bits. -/
inductive Rdv where
  | wait
  | past
  | val (v : Nat) (bad : Bool)
  deriving DecidableEq, Repr

/-- The window geometry of WIN_CFG (R46). -/
def winBase (cfg : Nat) : Nat := cfg % 2 ^ 21
def winSize (cfg : Nat) : Nat := bits cfg 27 16
def winPanic (cfg : Nat) : Nat := bits cfg 43 16

/-- Partition offset of line i of a sub-stream (R43, R44, R46). -/
def Dev.lineOff (d : Dev) (n : Nat) (e : Expander) (i : Nat) : Nat :=
  if i < e.head then e.line + i
  else match e.win with
    | some w => winBase (d.get (K.WIN_CFG n w)) + (e.wbase + i - e.head) % max 1 (winSize (d.get (K.WIN_CFG n w)))
    | none => e.line + i

/-- Line i of a sub-stream has arrived (R44, R46). -/
def Dev.lineHere (d : Dev) (n : Nat) (e : Expander) (i : Nat) : Bool :=
  decide (i < e.head) || (match e.win with
    | some w => decide (i < e.lines) && decide (e.wbase + i - e.head < (Table.at d.wins {} (16 * n + w)).wr)
    | none => true)

/-- Lode line l reads with an uncorrectable error: its check bits are bad (R39, R271), or nothing has written it since its
bank came on and its undefined check bits happen to be so (R37). -/
def Dev.lineBad (m : Memory) (d : Dev) (l : Nat) : Bool :=
  d.badLode.contains l ||
    ((List.range 16).any (fun i => (Memory.look m (lodeAt (16 * l + i))).isNone) && Config.freeCheck d.fresh l)

/-- The next `w` bits of a sub-stream (R31, R34, R37). -/
def readSub (m : Memory) (d : Dev) (n : Nat) (e : Expander) (w : Nat) : Rdv :=
  let lo := e.pos / 128
  let lines := (List.range ((e.pos + w - 1) / 128 + 1 - lo)).map (lo + ·)
  if lines.any (fun i => decide (d.get (K.LODE_LINES n) ≤ d.lineOff n e i)) then .past
  else if lines.all (d.lineHere n e) then
    let base := d.get (K.LODE_BASE n)
    let bytes := lines.flatMap (fun i => Memory.rdN m d.fresh (lodeAt (16 * (base + d.lineOff n e i))) 16)
    .val (bits (ofBytes bytes) (e.pos % 128) w) (lines.any (fun i => d.lineBad m (base + d.lineOff n e i)))
  else .wait

/-- What a block gives: its type, whether an error is found (a fault kind), the 512 code bits, granules it stands for and
its length in bits. Type 6 stands for a block that cannot be named (reserved, or beyond the partition). -/
structure Block where
  type  : Nat
  err   : Nat
  codes : Nat
  n     : Nat
  len   : Nat
  deriving DecidableEq, Repr

/-- Granule codes with the listed positions taken from groups of 32 bits (R31 DELTA). -/
def deltaCodes (prev mask data : Nat) : Nat :=
  ((setBits 16 mask).zipIdx.foldl (fun c p =>
    (List.range 8).foldl (fun c v => putBits c (4 * (16 * v + p.1)) 4 (bits data (32 * p.2 + 4 * v) 4)) c) prev)

/-- Granule codes with the listed positions taken from code pairs (R31 SCAN, R35). -/
def scanCodes (pair : Nat → Nat) (prev mask data : Nat) : Nat :=
  ((setBits 16 mask).zipIdx.foldl (fun c p =>
    (List.range 8).foldl (fun c v =>
      putBits c (4 * (16 * v + p.1)) 4 (if bit data (8 * p.2 + v) then pair p.1 / 16 else pair p.1 % 16)) c) prev)

/-- The block at an expander's place (R31 to R36, R39, R52); none while a line it needs has not arrived. -/
def nextBlock (m : Memory) (d : Dev) (n seam : Nat) (e : Expander) : Option Block :=
  let bad (t : Nat) : Option Block := some ⟨t, 7, 0, 1, 4⟩
  let whole (t len : Nat) (k : Nat → Block) : Option Block :=
    match readSub m d n e len with
    | .wait => none
    | .past => bad t
    | .val v ecc => some (if ecc then ⟨t, 8, 0, 1, len⟩ else k v)
  match readSub m d n e 4 with
  | .wait => none
  | .past => bad 6
  | .val h ecc =>
    if ecc then some ⟨6, 8, 0, 1, 4⟩
    else if 6 ≤ h ∨ (h = 4 ∧ imageField m d n 32 8 = 1) then bad 6
    else if e.g = 0 ∧ h ≠ 0 ∧ h ≠ 2 then bad h
    else
      let prev := e.prev.getD 0
      match h with
      | 0 => whole 0 516 (fun v => ⟨0, 0, v / 16, 1, 516⟩)
      | 1 => some ⟨1, 0, prev, 1, 4⟩
      | 2 => whole 2 16 (fun v =>
          let i := v / 16
          let l := d.get (K.LODE_BASE n) + d.get (K.DICT_OFFSET n) + 4 * i
          if d.get (K.DICT_COUNT n) ≤ i ∨ d.get (K.LODE_LINES n) ≤ d.get (K.DICT_OFFSET n) + 4 * i + 3 then ⟨2, 7, 0, 1, 16⟩
          else if (List.range 4).any (fun k => d.lineBad m (l + k)) then ⟨2, 8, 0, 1, 16⟩
          else ⟨2, 0, Memory.rdVal m d.fresh (lodeAt (16 * l)) 64, 1, 16⟩)
      | 5 => whole 5 12 (fun v =>
          let k := v / 16
          if k = 0 ∨ granules e.entry < e.g + k then ⟨5, 7, 0, 1, 12⟩ else ⟨5, 0, prev, k, 12⟩)
      | _ =>
        match readSub m d n e 20 with
        | .wait => none
        | .past => bad h
        | .val v ecc =>
          if ecc then some ⟨h, 8, 0, 1, 20⟩
          else
            let mask := v / 16
            let k := popCount 16 mask
            if h = 3 then whole 3 (20 + 32 * k) (fun v => ⟨3, 0, deltaCodes prev mask (v / 2 ^ 20), 1, 20 + 32 * k⟩)
            else
              let pair (c : Nat) : Nat :=
                if bit e.entry 111 then d.get (K.SCAN_PAIR_B (16 * seam + c)) else d.get (K.SCAN_PAIR_A (16 * seam + c))
              whole 4 (20 + 8 * k) (fun v => ⟨4, 0, scanCodes pair prev mask (v / 2 ^ 20), 1, 20 + 8 * k⟩)

/-! Windows (R47, R48). -/

def Dev.win (d : Dev) (n w : Nat) : Window := Table.at d.wins {} (16 * n + w)
def Dev.setWin (d : Dev) (n w : Nat) (x : Window) : Dev := { d with wins := Table.put d.wins (16 * n + w) x }

/-- FILL, MIN_FILL and the panic level after lines were written or read (R47, R48). -/
def Dev.winFill (d : Dev) (n w : Nat) : Dev :=
  let x := d.win n w
  let fill := x.wr - x.rd
  let panic := winPanic (d.get (K.WIN_CFG n w))
  let st := d.winState n w
  let d := d.setF (K.WIN_STAT n w) 0 16 fill
  let d :=
    if st = 2 ∧ fill < panic then
      (d.setWinState n w 3).setF (K.WIN_STAT n w) 32 16 (satAdd 0xFFFF (bits (d.get (K.WIN_STAT n w)) 32 16) 1)
    else if st = 3 ∧ panic + 64 ≤ fill then d.setWinState n w 2
    else d
  if st = 2 ∨ st = 3 then
    d.setF (K.WIN_STAT n w) 48 16 (min fill (bits (d.get (K.WIN_STAT n w)) 48 16))
  else d

/-- A committed successor of the run uses window w. -/
def SeqRun.succUses (r : SeqRun) (w seg : Nat) : Bool :=
  match r.succ with
  | some c => c.seg != seg && segKind c.raw == 1 && c.subs.any (fun p => bits p.2 52 4 == w && bit p.2 31)
  | none => false

/-- The slice a fetch is for is parked: starved, or after an error (R34, R39, R49). -/
def Dev.sliceBad (d : Dev) (n seam : Nat) : Bool := (Table.at d.slices [] n).any (fun s => s.seam == seam && s.bad)

/-- A parked slice reads and discards what its window holds, so the window stays in step with the sequencer (R49). A
STARVED window stays so until the sequencer stops (R48); one parked after an error returns to IDLE with the last line of
its sub-stream (log entry 43). -/
def Dev.winDiscard (d : Dev) (n w seg : Nat) : Dev :=
  let x := d.win n w
  let d := d.setWin n w { x with rd := x.wr }
  if d.winState n w = 4 then d.setF (K.WIN_STAT n w) 0 16 0
  else
    let d := (if d.winState n w = 1 then d.setWinState n w 2 else d).winFill n w
    if x.queue.isEmpty ∧ !((d.run n).succUses w seg) then d.setWinState n w 0 else d

/-- The decompressor has read a streaming sub-stream up to its position (R48). -/
def Dev.winRead (d : Dev) (n : Nat) (e : Expander) : Dev :=
  match e.win with
  | none => d
  | some w =>
    let ended := decide (granules e.entry ≤ e.g)
    let done := if ended then e.lines else min e.lines (e.pos / 128)
    let x := d.win n w
    let d := d.setWin n w { x with rd := max x.rd (e.wbase + (done - e.head)) }
    let d := if d.winState n w = 1 ∧ e.head ≤ done then
        d.setWinState n w (if ended && e.lines == e.head then 0 else 2) else d
    let d := d.winFill n w
    if ended ∧ (d.winState n w = 2 ∨ d.winState n w = 3) ∧ !((d.run n).succUses w e.seg) then
      d.setWinState n w 0
    else d

/-- REFILL_LINES (R48, R267): the next 64 bytes of the first sub-stream still to fetch enter the window; of the last unit
only the lines the sub-stream has (log entry 43). A controller that is FAILED answers as uncorrectable; otherwise it must
be READY. The lines of a parked slice are discarded as they arrive (R49). -/
def refill (m : Memory) (d : Dev) (n w ecc : Nat) : Memory × Dev :=
  let x := d.win n w
  let cfg := d.get (K.WIN_CFG n w)
  match x.queue with
  | [] => (m, d)
  | f :: q =>
    let k := min 4 f.left
    if (d.get K.DDR_STATE ≠ 3 ∧ d.get K.DDR_STATE ≠ 5) ∨ winSize cfg < x.wr - x.rd + k ∨ k = 0 then (m, d)
    else
      let base := d.get (K.LODE_BASE n) + winBase cfg
      let at0 (i : Nat) : Nat := base + (x.wr + i) % max 1 (winSize cfg)
      let poisoned (i : Nat) : Bool := ecc == 2 || d.get K.DDR_STATE == 5 ||
        d.badDdr.any (fun a => decide (f.addr + 16 * i ≤ a) && decide (a < f.addr + 16 * i + 16))
      let m' := (List.range k).foldl (fun mm i =>
        Memory.wrN mm (lodeAt (16 * at0 i)) (Memory.rdN m d.fresh (ddrAt (f.addr + 16 * i)) 16)) m
      let bad := (List.range k).foldl (fun l i =>
        if poisoned i then at0 i :: l.filter (· != at0 i) else l.filter (· != at0 i)) d.badLode
      let r := ddrReadBy m' d 0 f.addr 64 ((List.range k).any poisoned) 0 ((List.range k).map at0)
      let m' := r.1
      let d := r.2
      let f' := { f with addr := f.addr + 64, left := f.left - k }
      let d : Dev := { d with badLode := bad }
      let d := d.setWin n w { x with wr := x.wr + k, queue := if f'.left = 0 then q else f' :: q }
      (m', if d.sliceBad n f.seam then d.winDiscard n w f.seg else d.winFill n w)

/-! Expansion. -/

/-- The granules a block adds to a code buffer, and the expander after it. -/
def Expander.take (e : Expander) (b : Block) (ecc : Nat) : Gran × Expander :=
  let err := if b.err ≠ 0 then b.err else if ecc = 2 then 8 else 0
  (⟨e.seg, e.iter, e.g, b.n, b.codes, err⟩,
   { e with g := e.g + b.n, pos := e.pos + b.len, prev := some b.codes, dead := err != 0 })

/-- A block of type `t` is the next one: the buffer has room and its bits have arrived. -/
def blockDue (m : Memory) (d : Dev) (n seam t : Nat) (buf : List Gran) (x : Option Expander) : Option (Expander × Block) :=
  match x with
  | none => none
  | some e =>
    if 32 ≤ fillOf buf then none
    else match nextBlock m d n seam e with
      | some b => if b.type = t ∨ b.type = 6 then some (e, b) else none
      | none => none

/-- A block command (LIT, REP, DICT, DELTA, SCAN, RUN): the slice of SEQn in a seam expands its next block if it is of
that type, into its code buffer or, on a fast-resolve sequencer, ahead into the second one (R83). -/
def expand (m : Memory) (d : Dev) (n seam t ecc : Nat) : Dev :=
  let l := Table.at d.slices [] n
  let r := d.run n
  match l.find? (fun s => s.seam == seam) with
  | none => d
  | some s =>
    if !(d.seqLive n) || s.bad then d
    else
      let put (s' : Slice) (d : Dev) : Dev :=
        { d with slices := Table.put d.slices n (l.map (fun y => if y.seam = seam then s' else y)) }
      let corr (d : Dev) : Dev := if ecc = 1 then d.bump (K.LODE_ECC_CORR n) else d
      match blockDue m d n seam t s.buf (expReady r seam s.exp) with
      | some (e, b) =>
        let g := e.take b ecc
        (corr (put { s with exp := some g.2, buf := s.buf ++ [g.1] } d)).winRead n g.2
      | none =>
        let alt := match s.alt with
          | some e => if e.dead || decide (granules e.entry ≤ e.g) then none else some e
          | none => none
        match blockDue m d n seam t s.abuf alt with
        | some (e, b) =>
          let g := e.take b ecc
          (corr (put { s with alt := some g.2, abuf := s.abuf ++ [g.1] } d)).winRead n g.2
        | none => d

/-! What a decision does to the buffers. -/

/-- The slices of SEQn after its next segment is fixed: granules of the segment being issued up to iteration `iter` and
granules of the successor stay; the decompressor leaves what will not issue. -/
def Dev.dropAhead (d : Dev) (n seg iter : Nat) (succ : Option Commit) : Dev :=
  let step (s : Slice) : Slice :=
    let keep (g : Gran) : Bool := (g.seg == seg && decide (g.iter ≤ iter)) || (succ.map (·.seg)) == some g.seg
    let x := match s.exp with
      | some e => if e.seg = seg ∧ iter < e.iter then succ.bind (fun c => startSub c s.seam) else some e
      | none => none
    { s with buf := s.buf.filter keep, exp := x }
  { d with slices := Table.put d.slices n ((Table.at d.slices [] n).map step) }

/-- A fast-resolve exit or jump (R24, R83, R87): prefetched granules are discarded; the second buffer takes over where it
holds the successor. -/
def Dev.switchTo (d : Dev) (n : Nat) (c : Commit) : Dev :=
  let step (s : Slice) : Slice :=
    match s.alt with
    | some e =>
      if e.seg = c.seg then { s with buf := s.abuf, exp := some e, alt := none, abuf := [] }
      else { s with buf := [], exp := startSub c s.seam, alt := none, abuf := [] }
    | none => { s with buf := [], exp := startSub c s.seam, alt := none, abuf := [] }
  { d with slices := Table.put d.slices n ((Table.at d.slices [] n).map step) }

/-- The second buffers begin on the JUMP successor of a FASTRES segment (R83). -/
def Dev.altStart (d : Dev) (n : Nat) (c : Option Commit) : Dev :=
  let step (s : Slice) : Slice :=
    { s with alt := if s.bad then none else c.bind (fun c => startSub c s.seam), abuf := [] }
  { d with slices := Table.put d.slices n ((Table.at d.slices [] n).map step) }

/-- Sub-streams of a committed segment queue for refill (R45, R48); a window that was IDLE enters HEAD. A descriptor that
could not be read names no window (R39). -/
def Dev.openWindows (d : Dev) (n : Nat) (c : Commit) : Dev :=
  if segKind c.raw = 1 then
    (c.subs.filter (fun p => !(c.bad.contains p.1))).foldl (fun d p =>
      let w := bits p.2 52 4
      let left := bits p.2 104 24 - bits p.2 32 13
      let x := d.win n w
      let wb := ((c.wb.find? (fun q => q.1 == p.1)).map (·.2)).getD 0
      let f : Fetch := ⟨c.seg, d.get (K.STREAM_BASE n) + 64 * bits p.2 64 34, left, wb, p.1⟩
      let d := d.setWin n w { x with queue := if left = 0 then x.queue else x.queue ++ [f] }
      if d.winState n w = 0 then d.setWinState n w 1 else d) d
  else d

/-- A committed successor that is abandoned gives its window lines back (R87). -/
def Dev.closeWindows (d : Dev) (n : Nat) (c : Commit) : Dev :=
  if segKind c.raw = 1 then
    (c.subs.filter (fun p => !(c.bad.contains p.1))).foldl (fun d p =>
      let w := bits p.2 52 4
      let x := d.win n w
      let wb := ((c.wb.find? (fun q => q.1 == p.1)).map (·.2)).getD 0
      let d := d.setWin n w { x with wr := min x.wr wb, rd := min x.rd wb, queue := x.queue.filter (fun f => f.seg != c.seg) }
      (if d.winState n w = 1 then d.setWinState n w 0 else d).winFill n w) d
  else d

end Sys2Proof.Machine
end

