-- ==== Sys2Proof/Machine/Hewer.lean ====
section
/-! DEFINITION. Hewers (R134 to R152): instructions, address generation, scrambling, merging and segment control. -/

namespace Sys2Proof.Machine

def Dev.hew (d : Dev) (h : Nat) : Hewer := Table.at d.hewers {} h
def Dev.setHew (d : Dev) (h : Nat) (x : Hewer) : Dev := { d with hewers := Table.put d.hewers h x }

/-- The Hewers that name a sequencer, ascending. -/
def Dev.hewersOf (d : Dev) (n : Nat) : List Nat := (List.range 16).filter (fun h => d.get (K.HEW_SEQ h) == n)

/-! Instruction fields (R139). -/

def hOpc (i : Nat) : Nat := bits i 58 6
def hEmit (i : Nat) : Bool := bit i 57
def hPage (i : Nat) : Nat := bits i 55 2
def hSpan (i : Nat) : Nat := bits i 51 4
def hDsel (i : Nat) : Nat := bits i 48 3
def hXstep (i : Nat) : Nat := bits i 46 2
def hYstep (i : Nat) : Nat := bits i 44 2
def hZstep (i : Nat) : Nat := bits i 43 1
def hDinv (i : Nat) : Bool := bit i 42
def hCtl (i : Nat) : Nat := bits i 34 8
def hSel (i : Nat) : Nat := bits i 32 2
def hRa (i : Nat) : Nat := bits i 28 4
def hRb (i : Nat) : Nat := bits i 24 4
def hImm (i : Nat) : Nat := bits i 0 24
def hImm32 (i : Nat) : Nat := bits i 0 32
def hT (i : Nat) : Nat := bits i 0 10

/-- Instruction a of Hewer h's program (R135). -/
def hewInstr (m : Memory) (d : Dev) (h a : Nat) : Nat := Memory.rdVal m d.fresh (domAt (K.HEW_PROGRAM h) (8 * a)) 8

/-! Registers (R139): 0 X, 1 Y, 2 Z, 3 XMAX, 4 YMAX, 5 ZMAX, 6 to 9 C0 to C3. -/

def HewCtx.reg (c : HewCtx) (r : Nat) : Nat := c.regs.getD r 0

/-- A register written: 24 bits, Z and ZMAX 8. -/
def HewCtx.setReg (c : HewCtx) (r v : Nat) : HewCtx :=
  { c with regs := c.regs.set r (v % 2 ^ (if r = 2 ∨ r = 5 then 8 else 24)) }

/-- The context executes instructions. -/
def HewCtx.live (c : HewCtx) : Bool := c.run && !c.waiting

/-- Operations queued, markers and uncovered granules not counted. -/
def HewCtx.ops (c : HewCtx) : Nat := (c.queue.filter (fun o => o.span != 0 && o.page != 4)).length

/-! Steps (R141). -/

/-- One step of a `w`-bit register within its limit: the new value and whether it wrapped. `dir` 1 is +1, 2 is −1. A value above
its limit that rolls over at the register's width counts as no wrap (DESIGN CHOICE: log entry 57). -/
def stepReg (w v top dir : Nat) : Nat × Bool :=
  if dir = 1 then (if v = top then (0, true) else ((v + 1) % 2 ^ w, false))
  else if dir = 2 then (if v = 0 then (top, true) else (v - 1, false))
  else (v, false)

/-- XSTEP, YSTEP and ZSTEP with the carries of ADDR_MODE; wraps set F12, F13 and F14. -/
def HewCtx.steps (c : HewCtx) (mode i : Nat) : HewCtx :=
  let x := stepReg 24 (c.reg 0) (c.reg 3) (hXstep i)
  let ydir := if bit mode 0 then (if x.2 then hXstep i else 0) else hYstep i
  let y := stepReg 24 (c.reg 1) (c.reg 4) ydir
  let zdir := if bit mode 1 then (if y.2 then ydir else 0) else hZstep i
  let z := stepReg 8 (c.reg 2) (c.reg 5) zdir
  let c := ((c.setReg 0 x.1).setReg 1 y.1).setReg 2 z.1
  { c with flags := c.flags ||| fld 12 1 (b2n x.2) ||| fld 13 1 (b2n y.2) ||| fld 14 1 (b2n z.2) }

/-! The operation (R137, R142, R143). -/

/-- The physical address of a logical one: permutation, XOR, lookup, each if enabled (R143). -/
def scramble (m : Memory) (d : Dev) (h l : Nat) : Nat :=
  let en := d.get (K.SCR_EN h)
  let perm (i : Nat) : Nat := bits (d.get (K.SCR_PERM h (i / 8))) (8 * (i % 8)) 6
  let p := if bit en 0 then maskOf ((List.range 56).filter (fun i => bit l (perm i))) else l
  let x := if bit en 1 then
      maskOf ((List.range 56).filter (fun i =>
        bit p i != parity 56 (p &&& (Memory.rdVal m d.fresh (domAt (K.SCR_XOR h) (8 * i)) 8))))
    else p
  let a := if bit en 2 then putBits x 0 16 (Memory.rdVal m d.fresh (domAt (K.SCR_LUT_X h) (2 * bits x 0 16)) 2) else x
  if bit en 3 then putBits a 24 16 (Memory.rdVal m d.fresh (domAt (K.SCR_LUT_Y h) (2 * bits a 24 16)) 2) else a

/-- The LFSR after one step (R142). -/
def lfsrStep (poly v : Nat) : Nat :=
  let s := (2 * v) % 2 ^ 64
  if bit v 63 then s ^^^ poly else s

/-- The data word before topology (R142). -/
def dataWord (d : Dev) (h dsel phys : Nat) (c : HewCtx) : Nat :=
  match dsel with
  | 0 => c.bg0
  | 1 => c.bg1
  | 2 => if parity 56 (phys &&& d.get (K.CHK_MASK h)) then c.bg1 else c.bg0
  | 3 => phys
  | _ => c.lfsr

/-- The data word after topology inversion (R143). -/
def topo (d : Dev) (h phys data : Nat) : Nat :=
  let sel := d.get (K.TOPO_SEL h)
  let idx := maskOf ((List.range 8).filter (fun i => bit sel (8 * i + 7) && bit phys (bits sel (8 * i) 6)))
  if bit (d.get (K.TOPO_TABLE h (idx / 64))) (idx % 64) then data ^^^ d.get (K.TOPO_MASK h) else data

/-- The operation an instruction with EMIT builds from the registers before its changes, and the context with the LFSR
advanced if it is the data source (R138, R142). -/
def emitOp (m : Memory) (d : Dev) (h i : Nat) (c : HewCtx) : HewOp × HewCtx :=
  let l := fld 48 8 (c.reg 2) + fld 24 24 (c.reg 1) + fld 0 24 (c.reg 0)
  let phys := scramble m d h l
  let w := dataWord d h (hDsel i) phys c
  let w := if hDinv i then 2 ^ 64 - 1 - w else w
  let vec := fld 120 8 (hCtl i) + fld 56 64 (topo d h phys w) + phys
  (⟨vec, hPage i, l, 0, hSpan i + 1, false⟩,
   if hDsel i = 4 then { c with lfsr := lfsrStep (d.get (K.LFSR_POLY h)) c.lfsr } else c)

/-! Queue positions (R145, R146). -/

/-- A queue cut at `left` granules: what stays, and granules it leaves uncovered. Markers cover no granule: those at the cut
were queued before what follows it (R148). -/
def cutQueue : List HewOp → Nat → List HewOp × Nat
  | [], left => ([], left)
  | o :: l, left =>
    if left = 0 then ((o :: l).takeWhile (fun x => x.span == 0), 0)
    else if o.span ≤ left then
      let r := cutQueue l (left - o.span)
      (o :: r.1, r.2)
    else ([{ o with span := left }], 0)

/-- What a queue holds past a cut at `left` granules; the rest of an operation the cut divides is gone. -/
def pastCut : List HewOp → Nat → List HewOp
  | [], _ => []
  | o :: l, left =>
    if left = 0 then (o :: l).dropWhile (fun x => x.span == 0)
    else if o.span ≤ left then pastCut l (left - o.span)
    else l

/-- The flags of the last marker of a queue, else `f` (R148). -/
def lastMark (q : List HewOp) (f : Nat) : Nat := (((q.filter (fun o => o.span == 0)).getLast?).map (·.flags)).getD f

/-- Granules that nothing covers. -/
def gapOf (k : Nat) : List HewOp := if k = 0 then [] else [⟨0, 4, 0, 0, k, false⟩]

/-- A program starts at `pc`: flags and call stack cleared, registers unchanged (R141), its first operation covering the
granule after `before` more (R146). -/
def HewCtx.restart (c : HewCtx) (pc before lead : Nat) (q : List HewOp) : HewCtx :=
  { c with pc := pc, flags := 0, stack := [], queue := q, run := true, waiting := false, count := 0, before := before,
           grans := 0, lead := lead, pend := none }

/-- A START or STOP that waits takes effect once the program has covered every granule before it, or executes no more. -/
def HewCtx.settle (c : HewCtx) : HewCtx :=
  match c.pend with
  | none => c
  | some (p, left) =>
    let r := cutQueue c.queue left
    if r.2 = 0 ∨ !c.live then
      match p with
      | some pc => c.restart pc left 8 (r.1 ++ gapOf r.2)
      | none => { c with queue := r.1, run := false, pend := none }
    else c

/-! Executing (R136, R138, R140). -/

/-- What an opcode does beyond the steps: the context with its registers changed and where execution goes on; an end by
HALT or WSEG; or a stack fault. -/
inductive HewDo where
  | on (c : HewCtx) (pc : Nat)
  | halt (c : HewCtx)
  | wait (c : HewCtx)
  | stack
  deriving DecidableEq, Repr

/-- Granules a queue covers or leaves uncovered. -/
def HewCtx.covers (c : HewCtx) : Nat := (c.queue.map (·.span)).sum

/-- The Hewer may execute: its sequencer is ARMED or RUNNING (R136), the next instruction has the opcode, and the queue
has room for an operation it emits: 64 operations, or for a standby context its first 32 granules (R149). -/
def hewReady (m : Memory) (d : Dev) (h opc : Nat) (c : HewCtx) (standby : Bool) : Bool :=
  let st := d.get (K.SEQ_STATE (d.get (K.HEW_SEQ h)))
  let i := hewInstr m d h c.pc
  (st == 1 || st == 2) && c.live && decide (c.pc < 1024) && hOpc i == opc && (!hEmit i || (if standby then decide (c.covers < 32) else decide (c.ops < 64)))

/-- A Hewer fault (R151): event 212 + h, HEW_ERR, the Hewer ABORTED, and a class F fault of the attached sequencer. -/
def hewFault (m : Memory) (d : Dev) (h fk cause a : Nat) : Memory × Dev :=
  let d := d.set (K.HEW_ERR h) (fld 24 8 cause + fld 0 10 a)
  let d := (d.set (K.HEW_STATE h) 5).setHew h { d.hew h with main := { (d.hew h).main with run := false, pend := none }, stand := none }
  let info := d.get (K.HEW_ERR h)
  raiseFault m d fk (0x1300 + h) info (some (212 + h, (Config.causeOfFault fk).toNat, info)) [0x1200 + d.get (K.HEW_SEQ h)] []

/-- One instruction of a context: the order of R138. -/
def hewStep (m : Memory) (d : Dev) (h : Nat) (f : HewCtx → Nat → HewDo) (c : HewCtx) : HewCtx × HewDo :=
  let i := hewInstr m d h c.pc
  let e := emitOp m d h i c
  let c1 := (if hEmit i then e.2 else c).steps (d.get (K.ADDR_MODE h)) i
  let r := f c1 i
  let fin (c : HewCtx) : HewCtx :=
    { c with count := c.count + 1,
             queue := if hEmit i then c.queue ++ [{ e.1 with flags := c.flags }] else c.queue }
  match r with
  | .on c pc => (fin c, .on (fin c) pc)
  | .halt c => (fin c, .halt (fin c))
  | .wait c => (fin c, .wait (fin c))
  | .stack => (fin c1, .stack)

/-- An instruction command: the Hewer's context, or else its standby context, executes the instruction if it has the
opcode. -/
def hewExec (m : Memory) (d : Dev) (h opc : Nat) (f : HewCtx → Nat → HewDo) : Memory × Dev :=
  let x := d.hew h
  let st := d.get (K.HEW_STATE h)
  let main : Bool := (st == 2 || x.main.pend.isSome) && hewReady m d h opc x.main false
  let stand : Bool := match x.stand with | some c => hewReady m d h opc c true | none => false
  if main || stand then
    let c := if main then x.main else x.stand.getD {}
    let put (d : Dev) (c : HewCtx) : Dev :=
      if main then d.setHew h { x with main := c.settle } else d.setHew h { x with stand := some c }
    let i := hewInstr m d h c.pc
    let r := hewStep m d h f c
    let d := (d.set (K.HEW_PC_LAST h) c.pc).set (K.HEW_FLAGS h) r.1.flags
    match r.2 with
    | .on c' pc =>
      if 1024 ≤ pc then hewFault m (put d { c' with pc := 1024 }) h 11 3 c.pc
      else (m, put d { c' with pc := pc })
    | .halt c' =>
      let d := put d { c' with run := false, queue := c'.queue ++ [⟨0, 0, 0, c'.flags, 0, false⟩] }
      let d := if main && st == 2 && x.main.pend.isNone then d.set (K.HEW_STATE h) 4 else d
      (m, if bit i 0 then d.event (212 + h) Config.causeHalt.toNat 0 else d)
    | .wait c' =>
      let d := put d { c' with pc := c.pc + 1, waiting := true, queue := c'.queue ++ [⟨0, 0, 0, c'.flags, 0, false⟩] }
      (m, if main && st == 2 && x.main.pend.isNone then d.set (K.HEW_STATE h) 3 else d)
    | .stack => hewFault m (put d r.1) h 11 2 c.pc
  else (m, d)

/-- Opcodes that only go on to the next address. -/
def hewNext (g : HewCtx → Nat → HewCtx) (c : HewCtx) (i : Nat) : HewDo := .on (g c i) (c.pc + 1)

/-- Opcodes that branch to T on a condition. -/
def hewIf (g : HewCtx → Nat → Bool) (c : HewCtx) (i : Nat) : HewDo := .on c (if g c i then hT i else c.pc + 1)

/-! The 22 opcodes (R140). -/

def hewNop (m : Memory) (d : Dev) (h : Nat) : Memory × Dev := hewExec m d h 0x00 (hewNext fun c _ => c)
def hewHalt (m : Memory) (d : Dev) (h : Nat) : Memory × Dev := hewExec m d h 0x01 (fun c _ => .halt { c with flags := setBit c.flags 15 })
def hewJmp (m : Memory) (d : Dev) (h : Nat) : Memory × Dev := hewExec m d h 0x02 (hewIf fun _ _ => true)
def hewJfs (m : Memory) (d : Dev) (h : Nat) : Memory × Dev := hewExec m d h 0x03 (hewIf fun c i => bit c.flags (hRa i))
def hewJfc (m : Memory) (d : Dev) (h : Nat) : Memory × Dev := hewExec m d h 0x04 (hewIf fun c i => !bit c.flags (hRa i))
/-- A counter at 0 becomes 0xFF_FFFF. -/
def hewLoop (m : Memory) (d : Dev) (h : Nat) : Memory × Dev :=
  hewExec m d h 0x05 (fun c i =>
    let v := (c.reg (hRa i) + 2 ^ 24 - 1) % 2 ^ 24
    .on (c.setReg (hRa i) v) (if v ≠ 0 then hT i else c.pc + 1))
/-- The stack holds 4 addresses. A CALL at address 1,023 pushes 1,024, and the RET to it raises PC_OVF with the RET's own address
(DESIGN CHOICE: log entry 57). -/
def hewCall (m : Memory) (d : Dev) (h : Nat) : Memory × Dev :=
  hewExec m d h 0x06 (fun c i => if 4 ≤ c.stack.length then .stack else .on { c with stack := (c.pc + 1) :: c.stack } (hT i))
def hewRet (m : Memory) (d : Dev) (h : Nat) : Memory × Dev :=
  hewExec m d h 0x07 (fun c _ => match c.stack with
    | [] => .stack
    | a :: l => .on { c with stack := l } a)
def hewLdi (m : Memory) (d : Dev) (h : Nat) : Memory × Dev :=
  hewExec m d h 0x08 (hewNext fun c i => c.setReg (hRa i) (hImm i))

/-- Half of the SEL register loaded (lo 0 or 32); an LFSR left 0 becomes 1. -/
def loadHalf (lo : Nat) (c : HewCtx) (i : Nat) : HewCtx :=
  match hSel i with
  | 0 => { c with bg0 := putBits c.bg0 lo 32 (hImm32 i) }
  | 1 => { c with bg1 := putBits c.bg1 lo 32 (hImm32 i) }
  | 2 => { c with lfsr := (if putBits c.lfsr lo 32 (hImm32 i) = 0 then 1 else putBits c.lfsr lo 32 (hImm32 i)) }
  | _ => c

def hewLdbl (m : Memory) (d : Dev) (h : Nat) : Memory × Dev := hewExec m d h 0x09 (hewNext (loadHalf 0))
def hewLdbh (m : Memory) (d : Dev) (h : Nat) : Memory × Dev := hewExec m d h 0x0A (hewNext (loadHalf 32))
def hewAddi (m : Memory) (d : Dev) (h : Nat) : Memory × Dev :=
  hewExec m d h 0x0B (hewNext fun c i => c.setReg (hRa i) ((c.reg (hRa i) + hImm i) % 2 ^ 24))
def hewMov (m : Memory) (d : Dev) (h : Nat) : Memory × Dev :=
  hewExec m d h 0x0C (hewNext fun c i => c.setReg (hRa i) (c.reg (hRb i)))
def hewSwapbg (m : Memory) (d : Dev) (h : Nat) : Memory × Dev :=
  hewExec m d h 0x0D (hewNext fun c _ => { c with bg0 := c.bg1, bg1 := c.bg0 })
def hewNotbg (m : Memory) (d : Dev) (h : Nat) : Memory × Dev :=
  hewExec m d h 0x0E (hewNext fun c i =>
    { c with bg0 := (if hSel i = 0 ∨ hSel i = 2 then 2 ^ 64 - 1 - c.bg0 else c.bg0),
             bg1 := (if hSel i = 1 ∨ hSel i = 2 then 2 ^ 64 - 1 - c.bg1 else c.bg1) })
def hewSetf (m : Memory) (d : Dev) (h : Nat) : Memory × Dev :=
  hewExec m d h 0x0F (hewNext fun c i => { c with flags := if hRa i ≤ 11 then setBit c.flags (hRa i) else c.flags })
def hewClrf (m : Memory) (d : Dev) (h : Nat) : Memory × Dev :=
  hewExec m d h 0x10 (hewNext fun c i => { c with flags := if hRa i ≤ 14 then clrBit c.flags (hRa i) else c.flags })
def hewJrz (m : Memory) (d : Dev) (h : Nat) : Memory × Dev := hewExec m d h 0x11 (hewIf fun c i => c.reg (hRa i) == 0)
def hewJrnz (m : Memory) (d : Dev) (h : Nat) : Memory × Dev := hewExec m d h 0x12 (hewIf fun c i => c.reg (hRa i) != 0)
def hewJlt (m : Memory) (d : Dev) (h : Nat) : Memory × Dev :=
  hewExec m d h 0x13 (hewIf fun c i => decide (c.reg (hRa i) < c.reg (hRb i)))
def hewSwxy (m : Memory) (d : Dev) (h : Nat) : Memory × Dev :=
  hewExec m d h 0x14 (hewNext fun c _ =>
    (((c.setReg 0 (c.reg 1)).setReg 1 (c.reg 0)).setReg 3 (c.reg 4)).setReg 4 (c.reg 3))
def hewWseg (m : Memory) (d : Dev) (h : Nat) : Memory × Dev := hewExec m d h 0x15 (fun c _ => .wait c)

/-! Segment control (R136, R146). -/

/-- ARM of the sequencer a Hewer names (R136): registers, flags, stack and queue cleared, LFSR 1, ARMED; HEW_OPS counts
from here. -/
def Dev.hewArm (d : Dev) (n : Nat) : Dev :=
  (d.hewersOf n).foldl (fun (d : Dev) h => ((d.setHew h {}).set (K.HEW_STATE h) 1).set (K.HEW_OPS h) 0) d

/-- A HEW_CTL taken when its segment is committed with `rem` granules before its first one, or at arm (`lead` 64). A STOP
discards the operations queued for the segment's granules in DONE too, where HEW_STATE stays; a CONTINUE discards none, but the
operation that reaches past the segment's start is cut there, as R146 says of every HEW_CTL. -/
def hewTake (m : Memory) (d : Dev) (n raw rem lead : Nat) : Memory × Dev :=
  let h := bits raw 103 4
  let st := d.get (K.HEW_STATE h)
  if bit raw 107 ∧ d.get (K.HEW_SEQ h) = n then
    let x := d.hew h
    let c := x.main
    match bits raw 101 2 with
    | 1 =>
      if [1, 2, 3, 4].contains st then
        let c := if lead = 64 then c.restart (bits raw 91 10) 0 64 [] else { c with pend := some (some (bits raw 91 10), rem) }.settle
        (m, (d.setHew h { x with main := c }).set (K.HEW_STATE h) 2)
      else (m, d)
    | 2 =>
      if st = 2 ∨ st = 3 then (m, (d.setHew h { x with main := { c with pend := some (none, rem) }.settle }).set (K.HEW_STATE h) 4)
      else if st = 4 ∧ c.pend = none then (m, d.setHew h { x with main := { c with pend := some (none, rem) }.settle })
      else (m, d)
    | 0 =>
      if st = 3 then
        let r := cutQueue c.queue rem
        let c := { c with queue := r.1 ++ gapOf r.2 ++ pastCut c.queue rem, run := true, waiting := false, count := 0, before := rem, grans := 0, lead := 8 }
        let d := (d.setHew h { x with main := c }).set (K.HEW_STATE h) 2
        if 1024 ≤ c.pc then hewFault m d h 11 3 1023 else (m, d)
      else (m, d)
    | _ => (m, d)
  else (m, d)

/-- A FASTRES segment starts: Hewers that its JUMP successor restarts begin a standby context (R149), with the main context's
registers, backgrounds and LFSR as they stand then (DESIGN CHOICE: log entry 57). -/
def Dev.hewStandby (d : Dev) (n : Nat) (succ : Option Nat) : Dev :=
  (d.hewersOf n).foldl (fun (d : Dev) h =>
    let x := d.hew h
    let stand := match succ with
      | some raw =>
        if bit raw 107 ∧ bits raw 103 4 = h ∧ bits raw 101 2 = 1 ∧ d.get (K.HEW_STATE h) ≠ 0 ∧ d.get (K.HEW_STATE h) ≠ 5 then
          some (x.main.restart (bits raw 91 10) 0 8 [])
        else none
      | none => none
    if stand = none ∧ x.stand = none then d else d.setHew h { x with stand := stand }) d

/-- Granules prefetched beyond the one being issued that a Hewer has operations for: the largest fill of the slices with a
channel it maps, at most the 32 granules a code buffer holds (R18, R149). -/
def Dev.prefetched (d : Dev) (n h : Nat) : Nat :=
  (((Table.at d.slices [] n).filter (fun s => (List.range 16).any (fun p =>
    bit (d.get (K.PINMAP_EN h ((16 * s.seam + p) / 64))) ((16 * s.seam + p) % 64)))).map (fun s => min 32 (fillOf s.buf))).foldl max 0

/-- A fast-resolve exit or jump (R149): the operations of each Hewer's `lost` granules are lost; the standby context replaces the
program its JUMP successor restarts, whose markers of the lost granules stay the last ones queued (R148); any other HEW_CTL of the
successor is taken with no granule before it. A HEW_CTL taken for a successor that is abandoned and still pending is cancelled, one
that has settled stays, and HEW_STATE stays as the commit set it, a DONE Hewer executing no more (DESIGN CHOICE: log entry 57). -/
def hewFast (m : Memory) (d : Dev) (n raw : Nat) (lost : Nat → Nat) : Memory × Dev :=
  let d := (d.hewersOf n).foldl (fun (d : Dev) h =>
    let x := d.hew h
    let c := x.main
    let stops := match c.pend with | some (none, _) => true | _ => false
    if d.get (K.HEW_STATE h) = 0 then d
    else d.setHew h { x with cover := none, main :=
      { c with queue := cutRest c.queue (lost h), grans := c.grans + lost h, run := c.run && !stops, pend := none } }) d
  let h := bits raw 103 4
  let x := d.hew h
  match x.stand with
  | some c =>
    if bit raw 107 ∧ bits raw 101 2 = 1 ∧ d.get (K.HEW_SEQ h) = n then
      (m, (d.setHew h { x with main := c, stand := none, mark := lastMark (cutQueue x.main.queue 0).1 x.mark }).set (K.HEW_STATE h) (if c.waiting then 3 else if c.run then 2 else 4))
    else hewTake m d n raw 0 8
  | none => hewTake m d n raw 0 8
where
  /-- What stays of a queue after its first granules are lost; markers stay (R148). -/
  cutRest : List HewOp → Nat → List HewOp
    | [], _ => []
    | o :: l, k =>
      if k = 0 then o :: l
      else if o.span = 0 then o :: cutRest l k
      else if o.span ≤ k then cutRest l (k - o.span)
      else { o with span := o.span - k } :: l

/-! Granules (R145, R147, R148). -/

/-- Hewer clocks per granule (R146). -/
def Dev.hewClocks (d : Dev) (n : Nat) : Nat := 8 * periodP (d.get (K.TMIN n)) / 320000

/-- Markers at the head of a queue are passed; the flags of the last stay. -/
def passMarks : List HewOp → Nat → List HewOp × Nat
  | [], f => ([], f)
  | o :: l, f => if o.span = 0 then passMarks l o.flags else (o :: l, f)

/-- A granule of the Hewer's program is not yet due: its queue is empty while its program still has time (R147). -/
def Dev.hewBehind (d : Dev) (n h : Nat) : Bool :=
  let c := (d.hew h).main
  c.live && (passMarks c.queue 0).1.isEmpty && decide (c.count < d.hewClocks n * (c.grans + c.lead))

/-- A granule of SEQn starts: every attached Hewer gives it its next operation (R145) or, RUNNING with none, underruns
(R147); HEW_ERR then gives the address of the instruction it would execute next (DESIGN CHOICE: log entry 57). -/
def hewGranule (m : Memory) (d : Dev) (n : Nat) : Memory × Dev :=
  (d.hewersOf n).foldl (fun p h =>
    let d := p.2
    if d.get (K.HEW_STATE h) = 0 then p
    else
      let x := d.hew h
      let q := passMarks x.main.queue x.mark
      let c0 := x.main
      let c := { c0 with
        before := c0.before - 1, grans := (if c0.before = 0 then c0.grans + 1 else c0.grans),
        pend := (match c0.pend with | some (p, k) => some (p, k - 1) | none => none) }
      match q.1 with
      | o :: l =>
        let rest := if 1 < o.span then { o with span := o.span - 1, begun := true } :: l else l
        let d := if o.page ≠ 4 ∧ !o.begun then d.bump (K.HEW_OPS h) else d
        let cover := if o.page = 4 then none else some o
        (p.1, d.setHew h { x with main := { c with queue := rest }.settle, cover := cover, mark := q.2 })
      | [] =>
        let d := d.setHew h { x with main := { c with queue := [] }.settle, cover := none, mark := q.2 }
        if d.get (K.HEW_STATE h) = 2 ∧ c0.live then hewFault p.1 d h 10 1 c0.pc else (p.1, d)) (m, d)

/-- The flags the COND HEWER condition reads (R148). Before the first marker an uncovered granule reads 0, operations queued or
not (DESIGN CHOICE: log entry 57). -/
def Dev.hewFlag (d : Dev) (h i : Nat) : Bool :=
  match (d.hew h).cover with
  | some o => bit o.flags i
  | none => bit (d.hew h).mark i

/-- The merged code of a channel at a VP slot (R144, R145). -/
def hewCode (m : Memory) (d : Dev) (n ch slot code : Nat) : Nat :=
  match (d.hewersOf n).find? (fun h => d.get (K.HEW_STATE h) != 0 && bit (d.get (K.PINMAP_EN h (ch / 64))) (ch % 64)) with
  | none => code
  | some h =>
    match (d.hew h).cover with
    | none => code
    | some o =>
      let e := Memory.rdVal m d.fresh (domAt (K.HEW_PINMAP h) (2 * (32 * ch + 8 * o.page + slot))) 2
      let b := bit o.vec (bits e 4 7) != bit e 12
      match bits e 13 3 with
      | 1 => e % 16
      | 2 => if b then 1 else 0
      | 3 => if b then 6 else 5
      | 4 => if b then 11 else 10
      | _ => code

/-- Hewers that cover the granule being issued, with the logical address each carries (R150). -/
def Dev.hewAddrs (d : Dev) (n : Nat) : List (Nat × Nat) :=
  (d.hewersOf n).filterMap (fun h => if d.get (K.HEW_STATE h) = 0 then none else ((d.hew h).cover.map (fun o => (h, o.addr))))

/-! The arm checks of R152. -/

/-- Operand fields an opcode uses: RA as a register, RA as a flag, RB, IMM bits, SEL. -/
def hewFieldsOk (i : Nat) : Bool :=
  let ra := hRa i
  let rb := hRb i
  let z (lo w : Nat) : Bool := bits i lo w == 0
  match hOpc i with
  | 0x00 => z 0 34
  | 0x01 => z 1 33
  | 0x02 => z 10 24
  | 0x03 => z 32 2 && z 10 18
  | 0x04 => z 32 2 && z 10 18
  | 0x05 => z 32 2 && z 10 18 && decide (6 ≤ ra) && decide (ra ≤ 9)
  | 0x06 => z 10 24
  | 0x07 => z 0 34
  | 0x08 => z 32 2 && z 24 4 && decide (ra ≤ 9)
  | 0x09 => hSel i != 3
  | 0x0A => hSel i != 3
  | 0x0B => z 32 2 && z 24 4 && decide (ra ≤ 9)
  | 0x0C => z 32 2 && z 0 24 && decide (ra ≤ 9) && decide (rb ≤ 9)
  | 0x0D => z 0 34
  | 0x0E => hSel i != 3 && z 0 32
  | 0x0F => z 32 2 && z 0 28 && decide (ra ≤ 11)
  | 0x10 => z 32 2 && z 0 28 && decide (ra ≤ 14)
  | 0x11 => z 32 2 && z 10 18 && decide (ra ≤ 9)
  | 0x12 => z 32 2 && z 10 18 && decide (ra ≤ 9)
  | 0x13 => z 32 2 && z 10 14 && decide (ra ≤ 9) && decide (rb ≤ 9)
  | 0x14 => z 0 34
  | 0x15 => z 0 34
  | _ => false

/-- A legal instruction word (R139, R140, R152): no reserved opcode, data source, step value or operand. -/
def hewInstrOk (i : Nat) : Bool :=
  hewFieldsOk i && decide (hDsel i ≤ 4) && hXstep i != 3 && hYstep i != 3

/-- Arming SEQn: every Hewer that names it (R152; a reserved CODE is refused in any entry of a mapped channel, whatever its
MODE). -/
def hewChecks (m : Memory) (d : Dev) (n : Nat) : Except Abort Unit :=
  let gang := d.gangOf n
  let mapped (h ch : Nat) : Bool := bit (d.get (K.PINMAP_EN h (ch / 64))) (ch % 64)
  (d.hewersOf n).foldlM (fun _ h => do
    need (d.domOn 49) .state
    need ((List.range 1024).all (fun a => hewInstrOk (hewInstr m d h a))) .range
    need ((List.range 256).all (fun ch => !mapped h ch || (List.range 32).all (fun e =>
      let v := Memory.rdVal m d.fresh (domAt (K.HEW_PINMAP h) (2 * (32 * ch + e))) 2
      decide (bits v 13 3 ≤ 4) && !([12, 13, 14].contains (v % 16))))) .range
    need ((List.range 256).all (fun ch => !mapped h ch ||
      (gang.any (fun p => p.1 == ch) && (d.hewersOf n).all (fun k => k == h || !mapped k ch)))) .range
    need (decide (d.get (K.ADDR_MODE h) < 4) && decide (d.get (K.SCR_EN h) < 16) &&
      (List.range 56).all (fun j => bits (d.get (K.SCR_PERM h (j / 8))) (8 * (j % 8) + 6) 2 == 0) &&
      (List.range 8).all (fun j => !bit (d.get (K.TOPO_SEL h)) (8 * j + 6))) .range) ()

end Sys2Proof.Machine
end

