-- ==== Sys2Proof/Machine/SeqArm.lean ====
section
/-! DEFINITION. Arming a sequencer: the checks of R101, R152, R176, R55 and R54 in order, and what an accepted arm does
(R22, R45, R47, R73, R94). -/

namespace Sys2Proof.Machine

/-! Gates of R367, R421 and R422 that an ARM or START passes first. -/

/-- The domains are under test, as a whole or in the one Assay unit (R421). -/
def Dev.underTest (d : Dev) (doms : List Nat) (unit : Option Nat) : Bool :=
  let t := d.get K.BIST_TARGET
  let u := bits t 8 4
  (d.get K.BIST_STATE == 2 || d.get K.BIST_STATE == 3) && doms.contains (t % 64) &&
    (match unit with | some k => decide (8 ≤ u) || u == k % 8 | none => true)

/-- A domain, or the Assay unit, is marked failed (R422). -/
def Dev.marked (d : Dev) (doms : List Nat) (unit : Option Nat) : Bool :=
  doms.any (fun x => bit (d.get K.DOMAIN_FAILED) x) || (match unit with | some k => bit (d.get K.UNIT_FAILED) k | none => false)

/-- Both gates (R421, R422). -/
def Dev.gate (d : Dev) (doms : List Nat) (unit : Option Nat) : Except Abort Unit := do
  need (!(d.underTest doms unit)) .busy
  need (!(d.marked doms unit)) .state

/-- The Winder's foreground routine holds a sequencer (R365, R367). -/
def Dev.wndHoldsSeq (d : Dev) (n : Nat) : Bool :=
  let a := d.wnd.arg
  let chans (_ : Unit) : Bool := (d.gangOf n).any (fun p => bit a (p.1 / 64))
  d.wndBusy && (match d.wnd.routine with
    | 1 => chans ()
    | 2 => a % 64 == n
    | 3 => true
    | 9 => chans ()
    | _ => false)

/-! Entries (R58 to R63, R66). -/

def segNext (e : Nat) : Nat := bits e 184 16
def segJump (e : Nat) : Nat := bits e 168 16
def segTrig (e : Nat) : Nat := bits e 160 8
def segCond (e : Nat) : Nat := bits e 156 4
def segArg (e : Nat) : Nat := bits e 147 8
def segTset (e : Nat) : Nat := bits e 139 5
def segCntOp (e : Nat) : Nat := bits e 137 2
def segFast (e : Nat) : Bool := bit e 112
def segSrc (e : Nat) : Nat := bits e 0 21

/-- MATCH, FAIL, NOFAIL and BOND are compare-dependent (R60). -/
def compareDep (cond : Nat) : Bool := [2, 3, 4, 8].contains cond

/-- The condition a result decides: COND, or BOND's local condition (R60, R77). -/
def localCond (e : Nat) : Nat := if segCond e = 8 then segArg e % 16 else segCond e

/-- The indices NEXT and JUMP that KIND and COND can select, whatever REPEAT (R64, R101). -/
def segTargets (e : Nat) : List Nat :=
  match segKind e with
  | 3 => [segNext e, segJump e]
  | 4 => []
  | 5 => []
  | _ => segNext e :: (if segCond e = 0 then [] else [segJump e])

/-- Reserved fields and codes of an entry (R60 to R62, R101). -/
def segFieldsOk (e : Nat) : Bool :=
  let c := segCond e
  let a := segArg e
  bits e 21 70 == 0 && decide (segKind e ≤ 5) && decide (c ≤ 8) && bits e 101 2 != 3 &&
  (match c with
   | 6 => decide (a < 16)
   | 7 => decide (a < 32)
   | 8 => bits a 4 3 == 0 && [2, 3, 4].contains (a % 16)
   | _ => a == 0) &&
  (!(bit e 155) || [1, 5, 6, 7].contains c)

/-- Length and the combinations of KIND, REPEAT, COND and FASTRES (R63, R66). -/
def segShapeOk (e : Nat) : Bool :=
  let c := segCond e
  let r := segRepeat e
  let matchLike := c == 2 || (c == 8 && segArg e % 16 == 2)
  segLen e % 8 == 0 && decide ((if segKind e = 1 then 2048 else 64) ≤ segLen e) &&
  (match segKind e with
   | 0 => !matchLike && !(r == 0 && c == 0) && (!(segFast e) || [1, 3, 4, 8].contains c)
   | 1 => r == 1 && [0, 1, 5, 6, 7].contains c && !(segFast e)
   | 2 => matchLike
   | _ => r == 1 && c == 0 && !(segFast e))

/-- The entries of SEQn's image, 0 to ENTRY_COUNT − 1. -/
def entriesOf (m : Memory) (d : Dev) (n : Nat) : List Nat :=
  (List.range (min 65536 (entryCount m d n))).map (segEntry m d n)

/-! Directories and descriptors (R43 to R45). -/

/-- Directory entry or descriptor line of an entry in a seam. -/
def subOf (m : Memory) (d : Dev) (n e seam : Nat) : Nat :=
  let base := 16 * (d.get (K.LODE_BASE n) + segSrc e)
  if segKind e = 1 then Memory.rdVal m d.fresh (lodeAt (base + 16 * seam)) 16
  else Memory.rdVal m d.fresh (lodeAt (base + 4 * seam)) 4

/-- The seams whose directory entry or descriptor line an entry's read finds uncorrectable (R37, R39): an entry's line is one
of 4, a descriptor's its own. -/
def subsBad (m : Memory) (d : Dev) (n e : Nat) : List Nat :=
  (List.range 16).filter (fun s => d.lineBad m (d.get (K.LODE_BASE n) + segSrc e + (if segKind e = 1 then s else s / 4)))

/-- The power domains of spare engines mapped to channels of SEQn's gang (R10). -/
def Dev.spareDoms (d : Dev) (n : Nat) : List Nat :=
  ((List.range 4).filter (fun k => (d.gangOf n).any (fun p => p.1 / 64 == k && (d.spareFor p.1).isSome))).map (22 + ·)

/-- The domains R10 places SEQn in, with those of its attached Hewers and of the spares in its gang. -/
def Dev.seqDoms (d : Dev) (n : Nat) : List Nat :=
  (2 + homeShaft n) :: (seamsOf (d.gangOf n)).map (6 + ·) ++ d.spareDoms n

/-- The seams marked PRESENT, with their directory entries or descriptor lines. -/
def subsOf (m : Memory) (d : Dev) (n e : Nat) : List (Nat × Nat) :=
  (List.range 16).filterMap (fun s => let x := subOf m d n e s; if bit x 31 then some (s, x) else none)

/-! The budget (R53, R54), in Mbit/s as fractions. -/

/-- A sum of fractions. -/
def fracAdd (a b : Nat × Nat) : Nat × Nat := (a.1 * b.2 + b.1 * a.2, a.2 * b.2)

/-- a ≤ b. -/
def fracLe (a b : Nat × Nat) : Bool := decide (a.1 * b.2 ≤ b.1 * a.2)

/-- Banks that hold any of `k` lines from Lode line `l`. -/
def banksOf (l k : Nat) : List Nat :=
  if k = 0 then [] else (List.range 8).filter (fun b => decide (l < 262144 * (b + 1)) && decide (262144 * b < l + k))

/-- Bits of a resident sub-stream's blocks for `k` granules, by their headers; a header that names no block ends it (log entry
57). -/
def subBits (rd : Nat → Nat → Nat) (major : Nat) : Nat → Nat → Nat → Nat
  | 0, pos, _ => pos
  | fuel + 1, pos, k =>
    if k = 0 then pos
    else match rd pos 4 with
      | 0 => subBits rd major fuel (pos + 516) (k - 1)
      | 1 => subBits rd major fuel (pos + 4) (k - 1)
      | 2 => subBits rd major fuel (pos + 16) (k - 1)
      | 3 => subBits rd major fuel (pos + 20 + 32 * popCount 16 (rd (pos + 4) 16)) (k - 1)
      | 4 => if major = 1 then pos + 4 else subBits rd major fuel (pos + 20 + 8 * popCount 16 (rd (pos + 4) 16)) (k - 1)
      | 5 => subBits rd major fuel (pos + 12) (k - max 1 (rd (pos + 4) 8))
      | _ => pos + 4

/-- Lines of a resident sub-stream, which the model reads off its block headers (log entry 57: the spec does not say how the
device knows how far it extends). -/
def subLines (m : Memory) (d : Dev) (line major k : Nat) : Nat :=
  let rd (pos w : Nat) : Nat := bits (Memory.rdVal m d.fresh (lodeAt (16 * line + pos / 8)) 16) (pos % 8) w
  max 1 (ceilDiv (subBits rd major k 0 k) 128)

/-- Bits per granule of segment i in slice s: STREAM_BITS and DICT_BITS (R52, R54). -/
def budgetBits (m : Memory) (d : Dev) (n i s : Nat) : Nat × Nat :=
  let dict (v : Nat) : Nat := if d.get (K.DICT_COUNT n) = 0 then 0 else v
  if imageField m d n 32 8 = 1 then (532, dict 512)
  else
    let v := Memory.rdVal m d.fresh (domAt (K.PATTERN_IMAGE n) (budgetAt + 64 * i + 4 * s)) 4
    (v / 65536, dict (v % 65536))
where
  /-- Offset of the BUDGET section in the control part (R51). -/
  budgetAt : Nat :=
    let cnt := imageField m d n 96 16
    let sec (j : Nat) : Nat := Memory.rdVal m d.fresh (domAt (K.PATTERN_IMAGE n) (64 + 16 * j)) 16
    let before := (List.range cnt).takeWhile (fun j => sec j % 256 != 4)
    64 + 16 * cnt + (before.map (fun j => bits (sec j) 64 32)).sum

/-- Banks slice s of an entry reads for its data: resident sub-stream, or head and window. -/
def sliceBanks (m : Memory) (d : Dev) (n e x : Nat) : List Nat :=
  let base := d.get (K.LODE_BASE n)
  if segKind e = 1 then
    let cfg := d.get (K.WIN_CFG n (bits x 52 4))
    banksOf (base + x % 2 ^ 21) (bits x 32 13) ++ banksOf (base + winBase cfg) (winSize cfg)
  else banksOf (base + x % 2 ^ 21) (subLines m d (base + x % 2 ^ 21) (imageField m d n 32 8) (granules e))

/-- Read (0), write (1) and DDR4 (2) demand of SEQn, in units of its granule rate: kind and bank give bits per granule. -/
def seqDemand (m : Memory) (d : Dev) (n kind bank : Nat) : Nat × Nat :=
  let es := (entriesOf m d n).zipIdx
  let base := d.get (K.LODE_BASE n)
  let dictIn := (banksOf (base + d.get (K.DICT_OFFSET n)) (4 * d.get (K.DICT_COUNT n))).contains bank
  let slice (s : Nat) : Nat := (es.map (fun p =>
    let x := subOf m d n p.1 s
    let b := budgetBits m d n p.2 s
    match kind with
    | 0 => (if (sliceBanks m d n p.1 x).contains bank then b.1 else 0) + (if dictIn then b.2 else 0)
    | 1 =>
      let cfg := d.get (K.WIN_CFG n (bits x 52 4))
      if segKind p.1 = 1 ∧ (banksOf (base + winBase cfg) (winSize cfg)).contains bank then b.1 else 0
    | _ => if segKind p.1 = 1 then b.1 else 0)).foldl max 0
  let sum := ((seamsOf (d.gangOf n)).map slice).sum
  let starts := if kind = 0 then
      es.foldl (fun (a : Nat × Nat) p =>
        let k := if segKind p.1 = 1 then 16 else 4
        let inBank := ((List.range k).filter (fun i => (banksOf (base + segSrc p.1 + i) 1).contains bank)).length
        let v : Nat × Nat := (128 * inBank, max 1 (granules p.1))
        if fracLe v a then a else v) (0, 1)
    else (0, 1)
  fracAdd (sum, 1) starts

/-- The demand of SEQn on a resource in Mbit/s: bits per granule times 32,000,000 / P of Tmin. -/
def seqMbits (m : Memory) (d : Dev) (n p kind bank : Nat) : Nat × Nat :=
  let x := seqDemand m d n kind bank
  (x.1 * 32000000, x.2 * max 1 p)

/-- The limit of a resource in Mbit/s (R53); a DDR4 channel is in service only while DDR_STATE is READY (R258). -/
def Dev.budgetLimit (d : Dev) (kind : Nat) : Nat × Nat :=
  match kind with
  | 0 => (512000, 1)
  | 1 => (256000, 1)
  | _ => (1300000 * d.get K.DATA_RATE * (if d.get K.DDR_STATE = 3 then popCount 8 (d.get K.CHAN_MASK) else 0), 3200 * 8)

/-- The resources in the order that breaks ties: kind, then bank. -/
def budgetResources : List (Nat × Nat) :=
  (List.range 8).map (fun b => (0, b)) ++ (List.range 8).map (fun b => (1, b)) ++ [(2, 0)]

/-- BUDGET_REPORT and whether the arm is within its limits (R41, R54). -/
def budgetReport (m : Memory) (d : Dev) (n p : Nat) : Nat × Bool :=
  let live := d.liveSeqs.filter (· != n)
  let demand (r : Nat × Nat) : Nat × Nat :=
    live.foldl (fun a k => fracAdd a (seqMbits m d k (periodP (d.get (K.TMIN k))) r.1 r.2)) (seqMbits m d n p r.1 r.2)
  let ratio (r : Nat × Nat) : Nat × Nat :=
    let x := demand r
    let l := d.budgetLimit r.1
    if l.1 = 0 then (if x.1 = 0 then (0, 1) else (1, 0)) else (x.1 * l.2, x.2 * l.1)
  let worst := budgetResources.foldl (fun w r => if fracLe (ratio r) (ratio w) then w else r) (0, 0)
  let x := demand worst
  let excess := !(fracLe x (d.budgetLimit worst.1))
  let bank := if worst.1 = 2 then 0 else worst.2
  (fld 48 8 (worst.1 + 1) + fld 45 3 bank + fld 32 1 (b2n excess) + fld 0 32 (min 0xFFFFFFFF (ceilDiv x.1 x.2)), !excess)

/-! The checks. -/

/-- Two ranges overlap. -/
def overlap (a la b lb : Nat) : Bool := decide (a < b + lb) && decide (b < a + la)

/-- RL of SEQn on its own (R22, R94): loop latency, 128 ns a hop if bonded, over Tmin, up to a whole granule. -/
def Dev.ownRl (d : Dev) (n p : Nat) : Nat :=
  let g := d.get (K.BOND_GROUP n)
  let hops := if g = 0 then 0 else bits (d.get (K.BOND_CFG (g - 1))) 4 2
  roundUp (ceilDiv ((d.get (K.LOOP_LATENCY n) + 128000000 * hops) * 256) (1000 * max 1 p)) 8

/-- GROUP_RL: the largest RL of any member (R94). -/
def Dev.groupRl (d : Dev) (n p : Nat) : Nat :=
  let g := d.get (K.BOND_GROUP n)
  if g = 0 then d.ownRl n p else ((d.peersOf (g - 1)).map (fun q => q.2.rl)).foldl max (d.ownRl n p)

/-- The checks of R101, in order. -/
def armChecks101 (m : Memory) (d : Dev) (n : Nat) : Except Abort Unit := do
  need (d.get (K.SEQ_STATE n) == 0) .state
  need (d.get (K.IMAGE_STATUS n) % 16 == 2) .state
  let base := d.get (K.SEG_BASE n)
  let cnt := d.get (K.SEG_COUNT n)
  let live := d.liveSeqs
  need (decide (1 ≤ cnt) && decide (base + cnt ≤ 65536) &&
    live.all (fun k => !(overlap base cnt (d.get (K.SEG_BASE k)) (d.get (K.SEG_COUNT k))))) .range
  let ec := entryCount m d n
  let es := entriesOf m d n
  need (decide (ec ≤ cnt) && decide (d.get (K.START_ENTRY n) < ec) &&
    es.all (fun e => (segTargets e).all (fun t => decide (t < ec)))) .range
  need (es.all segFieldsOk) .range
  need (es.all segShapeOk) .range
  need (decide (n < 8) || es.all (fun e => !(segFast e))) .range
  let gang := d.gangOf n
  let seams := seamsOf gang
  need ((d.sitesOf n).any (fun s => d.get (K.SITE_ENABLE s) == 1) &&
    gang.all (fun p => ((List.range 128).filter (fun s => bit (d.get (K.CHAN_MAP s (p.1 / 64))) (p.1 % 64))).length == 1) &&
    seams.all (fun s => decide ((live.filter (fun k => (seamsOf (d.gangOf k)).contains s)).length < 4))) .range
  need (d.get (K.LOOP_LATENCY n) != 0) .state
  need ((setBits 32 (referencedSets m d n)).all (fun t =>
    d.get (K.ACT_PERIOD n t) != 0 && setValid gang (fun ch => d.actSet n ch t))) .range
  let p := tminP m d n
  let g := d.get (K.BOND_GROUP n)
  need (decide (d.groupRl n p ≤ 2048) &&
    (g == 0 || (d.peersOf (g - 1)).all (fun q => decide (q.2.hops ≤ bits (d.get (K.BOND_CFG (g - 1))) 4 2)))) .range
  need (es.all (fun e => !(bit e 107) || d.get (K.HEW_SEQ (bits e 103 4)) == n)) .state
  let bonded := es.any (fun e => segCond e == 8) || bits (d.get (K.START_SRC n)) 0 3 == 3
  need ((!bonded || (g != 0 && bit (d.get (K.BOND_CFG (g - 1))) 0)) && ((!bonded && g == 0) || d.get K.UNSURE_CAUSE == 0)) .state
  need ((d.seqDoms n).all d.domOn) .state

/-- The checks of R176, each over all enabled logging sites before the next (log entry 57). -/
def armChecks176 (d : Dev) (n : Nat) : Except Abort Unit := do
  let qs := ((d.sitesOf n).filter (fun s => d.get (K.SITE_ENABLE s) == 1 && bit (d.get (K.LOG_CFG s)) 8)).map
    (fun s => d.get (K.LOG_CFG s) % 256)
  need (qs.all (fun q => d.get (K.Q_SIZE q) == 9)) .range
  need (qs.all (fun q => (List.range 16).any (fun x => d.get (K.SUMP_STATE x) != 0 && d.get (K.SUMP_QUEUE x) == q) || d.qGraphIn q)) .state
  need (qs.isEmpty || d.domOn 46) .state

/-- A 4-bit header at a partition line is LIT or DICT (R33). -/
def headOk (m : Memory) (d : Dev) (n line : Nat) : Bool :=
  let h := (Memory.rd m d.fresh (lodeAt (16 * (d.get (K.LODE_BASE n) + line)))).toNat % 16
  h == 0 || h == 2

/-- The checks of R55 before the budget, in order. The first header of a head is the line at HEAD_LINE even where HEAD is 0
(log entry 43). -/
def armChecks55 (m : Memory) (d : Dev) (n : Nat) : Except Abort Unit := do
  let base := d.get (K.LODE_BASE n)
  let lines := d.get (K.LODE_LINES n)
  need ((banksOf base lines).all (fun b => d.domOn (26 + b))) .state
  need (decide (base + lines ≤ 2097152) &&
    d.liveSeqs.all (fun k => !(overlap base lines (d.get (K.LODE_BASE k)) (d.get (K.LODE_LINES k))))) .range
  let res := imageField m d n 288 32
  let wins := (List.range 16).filter (fun w => winSize (d.get (K.WIN_CFG n w)) != 0)
  let wb (w : Nat) : Nat := winBase (d.get (K.WIN_CFG n w))
  let ws (w : Nat) : Nat := winSize (d.get (K.WIN_CFG n w))
  need (decide (res ≤ lines) && wins.all (fun w =>
    ws w % 4 == 0 && decide (256 ≤ ws w) && decide (ws w ≤ 65532) && decide (winPanic (d.get (K.WIN_CFG n w)) < ws w) &&
    decide (res ≤ wb w) && decide (wb w + ws w ≤ lines) && wins.all (fun v => v == w || !(overlap (wb w) (ws w) (wb v) (ws v))))) .range
  let es := entriesOf m d n
  let streams := es.filter (fun e => segKind e == 1)
  need (streams.all (fun e =>
    let ws := (subsOf m d n e).map (fun p => bits p.2 52 4)
    ws.all wins.contains && decide ws.Nodup)) .range
  let seams := seamsOf (d.gangOf n)
  need (es.all (fun e => (subsOf m d n e).map (·.1) == seams)) .range
  need (es.all (fun e =>
    decide (segSrc e + (if segKind e = 1 then 16 else 4) ≤ lines) &&
    (subsOf m d n e).all (fun p => decide (p.2 % 2 ^ 21 < lines) &&
      (segKind e != 1 || decide (p.2 % 2 ^ 21 + bits p.2 32 13 ≤ lines))))) .range
  need (es.all (fun e => (subsOf m d n e).all (fun p => headOk m d n (p.2 % 2 ^ 21)))) .range
  let sl := imageField m d n 128 64
  if sl = 0 then
    need (streams.all (fun e => (subsOf m d n e).all (fun p => bits p.2 104 24 == bits p.2 32 13))) .range
  else do
    need (d.get K.DDR_STATE == 3) .state
    need (d.inArea K.PAT_AREA_BASE K.PAT_AREA_MIB (d.get (K.STREAM_BASE n)) sl) .range

/-- A channel marked failed that no MAPPED spare replaces, or a shaft left PARTIAL, holds back an arm (R133, R370, R422). -/
def Dev.armMarks (d : Dev) (n : Nat) : Bool :=
  (d.gangOf n).all (fun p => d.get (K.LIN_STATE (p.1 / 64)) != 2 &&
    (d.get (K.CH_BIST_FAILED p.1) == 0 || (d.spareFor p.1).isSome))

/-- RWS domain objects whose open load refuses an arm of SEQn: its image, and those of the Hewers it arms (R136, R294). -/
def Dev.armLoads (d : Dev) (n : Nat) : List Nat :=
  K.PATTERN_IMAGE n :: (d.hewersOf n).flatMap (fun h => (List.range 16).map (fun s => (0x2100 + h) * 256 + s))

/-- Every check of an arm but the budget, in order: open loads (R294), the Winder and self-test (R367, R421), the chip state
(R283), an armed epoch (R130), marks (R370, R422), R101, R152, R176, R55. -/
def armChecks (m : Memory) (d : Dev) (n : Nat) : Except Abort Unit := do
  need (!(d.loading (d.armLoads n))) .busy
  need (!(d.wndHoldsSeq n)) .busy
  need (d.canArm && d.get K.SYNC_STATE != 1) .state
  d.gate (d.seqDoms n ++ (if (d.hewersOf n).isEmpty then [] else [49])) none
  armChecks101 m d n
  need (d.armMarks n) .state
  hewChecks m d n
  armChecks176 d n
  armChecks55 m d n

/-! Commit (R57, R45, R123). -/

/-- Entry idx committed as segment start `seg`: its copy, its directory or descriptor, the sealed sets its start takes if
it is a hand-over point, by seam the window count its streamed lines begin at, and what could not be read (R39). -/
def commitOf (m : Memory) (d : Dev) (n idx seg : Nat) : Commit :=
  let raw := segEntry m d n idx
  let subs := subsOf m d n raw
  let wb := if segKind raw = 1 then subs.map (fun p =>
      let x := d.win n (bits p.2 52 4)
      (p.1, x.wr + (x.queue.map (·.left)).sum)) else []
  let sets := if bit raw 110 || d.get (K.AUTO_SHADOW n) == 1 then d.get (K.TSET_SEAL n) else 0
  ⟨seg, idx, raw, subs, sets, wb, subsBad m d n raw⟩

/-- Directory or descriptor lines have been read: how many had a single-bit error corrected is not said by any command, so
LODE_ECC_CORR shows a free value beside its own count until it is cleared (R39; log entry 43). -/
def Dev.readDir (d : Dev) (n : Nat) : Dev := { d with dirRead := n :: d.dirRead.filter (· != n) }

/-- An accepted ARM (R73; START_ENTRY's window enters HEAD and its refill begins here, log entry 43): RL and TMIN fixed, counts since arm cleared, windows and slices ready, START_ENTRY committed,
Hewers ARMED (R136). -/
def seqArmed (m : Memory) (d : Dev) (n : Nat) : Memory × Dev :=
  let p := tminP m d n
  let gang := d.gangOf n
  let g := d.get (K.BOND_GROUP n)
  let rl := d.groupRl n p
  let d := (d.set (K.RL n) rl).set (K.TMIN n) (periodFs p)
  let d := (((d.set (K.SQUASHED_VP n) 0).set (K.DEADTIME_VP n) 0).set (K.FASTRES_EXITS n) 0).set (K.SEQ_STATUS n) 0
  let d := (List.range 16).foldl (fun (d : Dev) w =>
    ({ d with wins := Table.put d.wins (16 * n + w) {} } : Dev).set (K.WIN_STAT n w) (0xFFFF * 2 ^ 48)) d
  let d := if g = 0 then d else d.setF (K.BOND_STAT (g - 1)) 16 16 rl
  let c := commitOf m d n (d.get (K.START_ENTRY n)) 0
  let slices := (seamsOf gang).map (fun s => ({ seam := s, exp := startSub c s } : Slice))
  let d : Dev := { d with slices := Table.put d.slices n slices }
  let d := (((d.setRun n { gang := gang, cur := some c, nseg := 1 }).readDir n).openWindows n c).set (K.SEQ_STATE n) 1
  let d := (d.hewArm n).bondAnnounce n (some (d.ownRl n p))
  hewTake m d n c.raw 0 64

/-- SEQ_CMD ARM: BUDGET_REPORT follows the attempt (R54). -/
def seqArm (m : Memory) (d : Dev) (n : Nat) : Except Abort (Memory × Dev) := do
  armChecks m d n
  need (budgetReport m d n (tminP m d n)).2 .range
  .ok (seqArmed m (d.set (K.BUDGET_REPORT n) (budgetReport m d n (tminP m d n)).1) n)

/-- BUDGET_REPORT after a refused arm attempt, whatever the sequencer's state: 0 where it was refused before the budget check
was made (R54). -/
def Dev.budgetNote (m : Memory) (d : Dev) (n : Nat) : Dev :=
  d.set (K.BUDGET_REPORT n) (if d.get K.CHIP_STATE = 6 then 0 else
    match armChecks m d n with
    | .ok _ => (budgetReport m d n (tminP m d n)).1
    | .error _ => 0)

end Sys2Proof.Machine
end

