-- ==== Sys2Proof/Machine/Issue.lean ====
section
/-! DEFINITION. A running sequencer's issue: starts (R73 to R76), granule boundaries, holds (R80 to R82), decisions (R64,
R65, R77), segment starts (R69, R122), and one VP on every channel of the gang (R102 to R119, R144). -/

namespace Sys2Proof.Machine

/-- HOLD of SEQ_STATUS (R71): 1 DEAD_TIME, 2 FENCE, 3 EXHAUST, 4 DRAIN. -/
def Dev.hold (d : Dev) (n : Nat) : Nat := bits (d.get (K.SEQ_STATUS n)) 8 3
def Dev.setHold (d : Dev) (n v : Nat) : Dev := d.setF (K.SEQ_STATUS n) 8 3 v

/-- EXTJ_PENDING (R85). -/
def Dev.extj (d : Dev) (n : Nat) : Bool := bit (d.get (K.SEQ_STATUS n)) 0
def Dev.setExtj (d : Dev) (n : Nat) (b : Bool) : Dev := d.setB (K.SEQ_STATUS n) 0 b

/-- The sites of SEQn that are ACTIVE. -/
def Dev.activeSites (d : Dev) (n : Nat) : List Nat := (d.sitesOf n).filter (fun s => d.get (K.SITE_COND s) == 1)

/-- The sites of SEQn in the scope of the conditions at a VP: a site leaves it from the first VP whose results are
discarded (R92). -/
def Dev.scopeSites (d : Dev) (n cycle : Nat) : List Nat :=
  (d.sitesOf n).filter (fun s => d.get (K.SITE_COND s) != 0 &&
    (match (d.site s).discFrom with | some x => decide (cycle < x) | none => true))

/-- The return stack replaced, with its depth in SEQ_STATUS. -/
def Dev.setStack (d : Dev) (n : Nat) (l : List Nat) : Dev :=
  (d.setRun n { d.run n with stack := l }).setF (K.SEQ_STATUS n) 16 5 l.length

/-- A successor fixed now: its commit, its windows, its HEW_CTL (R45, R57, R146). `rem`: granules before its first. -/
def commitSucc (m : Memory) (d : Dev) (n idx rem : Nat) : Memory × Dev × Commit :=
  let r := d.run n
  let c := commitOf m d n idx r.nseg
  let d := ((d.setRun n { r with nseg := r.nseg + 1 }).readDir n).openWindows n c
  let p := hewTake m d n c.raw rem 8
  (p.1, p.2, c)

/-- The JUMP index of the segment being issued. -/
def SeqRun.jumpIdx (r : SeqRun) : Nat := match r.cur with | some c => segJump c.raw | none => 0

/-- The exit of the segment being issued is resolved. -/
def SeqRun.exited (r : SeqRun) : Bool :=
  match r.cur, r.resolved with
  | some c, some (s, _) => c.seg == s
  | _, _ => false

/-! Ends of issue and drains (R75, R76, R89). -/

/-- The drain is over: every issued VP has retired. -/
def drainDone (m : Memory) (d : Dev) (n : Nat) : Memory × Dev :=
  let r := d.run n
  let code := if r.stopReq = 3 ∧ r.drain < 3 then 3 else r.drain
  match code with
  | 1 =>
    let p := match r.next, r.cur with
      | some .exhaust, some c =>
        let q := commitSucc m d n (if r.exited then r.jumpIdx else segNext c.raw) 0
        (q.1, q.2.1.setRun n { q.2.1.run n with next := some (.seg q.2.2) })
      | _, _ => (m, d)
    let m := p.1
    let d := p.2
    let r := d.run n
    let d := ((d.setRun n { r with drain := 0, pauseReq := false, pauseDue := false, startTick := none }).set (K.SEQ_STATE n) 3).setHold n 0
    (m, d.bondAnnounce n none)
  | 2 => seqEnd m d n 4
  | 3 =>
    if (d.sitesOf n).any (fun s => decide (3 ≤ d.get (K.PARK_CAUSE s)) && decide (d.get (K.PARK_CAUSE s) ≤ 7)) then
      seqEnd m ((d.latchParked n).bondSend n 2) n 5
    else seqEnd m d n 4
  | 4 => seqEnd m d n 0
  | 5 => seqEnd m (d.faultSites n true) n 5
  | _ => seqEnd m (d.faultSites n false) n 5

/-- The end of issue of a member that acted on the second copy of a stop notice (R98): later than HOPS × 128 ns and one
granule after the tick the frame carries, it is BOND_LATE. Times in 1/256 ps. -/
def lateNote (m : Memory) (d : Dev) (n : Nat) : Memory × Dev :=
  let r := d.run n
  match r.lateTick with
  | none => (m, d)
  | some tick =>
    let d := d.setRun n { r with lateTick := none }
    let g := d.get (K.BOND_GROUP n)
    if bits (d.get (K.BOND_CFG (g - 1))) 4 2 * 128000 * 256 + 8 * r.lastP < (d.tb1 - tick) * 10000 * 256 then
      seqFault m d n 3 ((r.cur.map (·.idx)).getD 0) (d.get (K.CYCLE n)) []
    else (m, d)

/-- A PAUSE that takes effect in a dead time or a fence hold keeps the committed successor (R75, R98). -/
def SeqRun.keepSucc (r : SeqRun) (code : Nat) : SeqRun :=
  match code, r.holdThen with
  | 1, some c => { r with next := some (.seg c), holdThen := none, off := segLen ((r.cur.map (·.raw)).getD 0) }
  | _, _ => r

/-- SEQn issues no further VP and drains (codes as in SeqRun): but for PAUSE and HALT its channels take the park state
here. -/
def enterDrain (m : Memory) (d : Dev) (n code : Nat) : Memory × Dev :=
  let r := { (d.run n).keepSucc code with endTick := some d.tb1 }
  let d := (d.setRun n r).setHold n 4
  let d := if code = 1 ∨ code = 2 then d else d.parkGang n r.gang
  let d := if code = 1 then d.bondSend n 1 else if code = 4 then d.bondSend n 0 else if 5 ≤ code then d.bondSend n 2 else d
  let d := d.setRun n { r with drain := code, stopReq := 0, holdLeft := 0, fast := none }
  let p := lateNote m d n
  let m := p.1
  let d := p.2
  if r.flight.isEmpty ∧ (d.run n).drain ≠ 0 then drainDone m d n else (m, d)

/-- A site command reaches its boundary (R91). -/
def Dev.siteCmdActs (d : Dev) (n s : Nat) : Dev :=
  let r := d.site s
  let c := d.get (K.CYCLE n)
  let d := d.setSite s { r with cmd := 0 }
  if bit r.cmd 0 then d.parkSite s 2 c c
  else if bit r.cmd 1 ∧ d.get (K.SITE_COND s) = 1 then
    (d.setSite s { d.site s with discFrom := some (match r.discFrom with | some x => min x c | none => c) }).set (K.SITE_COND s) 2
  else d

/-- Granules of a slice that hold no codes any more for what issues next are dropped. -/
def trimBuf (l : List Gran) (seg iter g : Nat) : List Gran :=
  l.filter (fun x => !(x.seg < seg || (x.seg == seg && (x.iter < iter || (x.iter == iter && x.g + x.n ≤ g)))))

/-- The segment being issued ends here for `c`: a successor committed earlier is abandoned, prefetched granules are
discarded (R24, R87, R149). -/
def leaveFor (m : Memory) (d : Dev) (n : Nat) (c : Commit) : Memory × Dev :=
  let r := d.run n
  let d := match r.next with
    | some (.seg old) => d.closeWindows n old
    | _ => d
  let lost := d.prefetched n
  let d := (d.setRun n { r with next := none, fast := none, altSeg := none }).switchTo n c
  hewFast m (d.openWindows n c) n c.raw lost

/-- A fast-resolve exit or jump begins its dead time of 32 VP (R24, R87). -/
def fastBegin (m : Memory) (d : Dev) (n : Nat) (c : Commit) : Memory × Dev :=
  let p := leaveFor m d n c
  let d := (p.2.setRun n { p.2.run n with holdThen := some c, holdLeft := 32 }).setHold n 1
  (p.1, d.bump (K.FASTRES_EXITS n))

/-- A PAUSE or a drain finds `c` to be what follows: it is committed, and no dead time is held (R75). -/
def pauseExit (m : Memory) (d : Dev) (n : Nat) (c : Commit) : Memory × Dev :=
  let p := leaveFor m d n c
  let r := p.2.run n
  (p.1, p.2.setRun n { r with next := some (.seg c), off := segLen ((r.cur.map (·.raw)).getD 0) })

/-- A pending PAUSE takes effect: what follows stays committed in `next` (R75). -/
def pauseNow (m : Memory) (d : Dev) (n : Nat) : Memory × Dev :=
  enterDrain m (d.setRun n { d.run n with pauseReq := false, pauseDue := false }) n 1

/-! Successors. -/

/-- The segment being issued is over and `c` follows: after a fence hold if it carries COMMIT_FENCE (R82), else at the
next VP. -/
def Dev.goOn (d : Dev) (n : Nat) (c : Commit) : Dev :=
  let r : SeqRun := { d.run n with next := none, holdThen := none }
  if bit c.raw 109 ∧ 0 < d.get (K.RL n) ∧ !r.fenced then
    (d.setRun n { r with holdThen := some c, holdLeft := d.get (K.RL n), fenced := true }).setHold n 2
  else (d.setRun n { r with cur := some c, iter := 0, off := 0, fenced := false, altSeg := none }).setHold n 0

/-- The end of an iteration (R64, R75, R81): a PAUSE takes effect; the decided successor starts; a last iteration of a
compare-dependent segment without an exit holds for RL VP. It follows the retirements due at that VP (R24, R81). -/
def iterEnd (m : Memory) (d : Dev) (n : Nat) : Memory × Dev :=
  let r := d.run n
  if r.pauseDue then pauseNow m d n
  else match r.next with
    | some .again => (m, d.setRun n { r with iter := r.iter + 1, off := 0, next := none })
    | some (.seg c) => (m, d.goOn n c)
    | some .exhaust =>
      if r.exited then
        let p := commitSucc m d n r.jumpIdx 0
        (p.1, p.2.1.goOn n p.2.2)
      else (m, (d.setRun n { r with holdLeft := d.get (K.RL n) }).setHold n 3)
    | some .halt => enterDrain m d n 2
    | none => (m, d)

/-- Every retirement due by the VP about to issue is in (R21). -/
def Dev.retiredUp (d : Dev) (n : Nat) : Bool :=
  (d.run n).flight.all (fun f => decide (d.get (K.CYCLE n) < f.cycle + d.get (K.RL n) + 1))

/-- The last VP of the iteration has issued, and nothing has followed it yet. -/
def SeqRun.iterOver (r : SeqRun) : Bool := match r.cur with | some c => r.off == segLen c.raw | none => false

/-- What a granule boundary brings before the VP at CYCLE issues: site commands (R91), supply sequences of parks (R90),
the end of issue (R76, R89), a fast-resolve exit (R24), and the end of an iteration (R64). -/
def atBoundary (m : Memory) (d : Dev) (n : Nat) : Memory × Dev :=
  if d.get (K.SEQ_STATE n) = 2 ∧ (d.run n).drain = 0 ∧ d.get (K.CYCLE n) % 8 = 0 ∧ (d.run n).cur.isSome ∧
      (d.run n).startTick = none then
    let d := (d.sitesOf n).foldl (fun d s => if (d.site s).cmd ≠ 0 then d.siteCmdActs n s else d) d
    let d := (d.parkSupplies n).siteCheck n
    let r := d.run n
    if r.stopReq ≠ 0 then enterDrain m d n r.stopReq
    else match r.fast with
      | some c =>
        if r.pauseReq ∨ r.pauseDue then
          let p := pauseExit m d n c
          pauseNow p.1 p.2 n
        else fastBegin m d n c
      | none => if d.hold n = 0 ∧ r.iterOver ∧ d.retiredUp n then iterEnd m d n else (m, d)
  else (m, d)

/-- HOLD_END (R80 to R82): the hold's last VP has issued and, after an exhaustion hold, its last retirement is in. A PAUSE acts
here, also one accepted after the last decision point and before the hold began (R75; DESIGN CHOICE: log entry 57). -/
def holdEnd (m : Memory) (d : Dev) (n : Nat) : Memory × Dev :=
  let r := d.run n
  let h := d.hold n
  if d.get (K.SEQ_STATE n) = 2 ∧ (h = 1 ∨ h = 2 ∨ h = 3) ∧ r.holdLeft = 0 ∧
      d.retiredUp n then
    let p : Memory × Dev × Option Commit :=
      if h = 3 then
        let q := commitSucc m d n (if r.exited then r.jumpIdx else match r.cur with | some c => segNext c.raw | none => 0) 0
        (q.1, q.2.1, some q.2.2)
      else (m, d, r.holdThen)
    match p.2.2 with
    | none => (p.1, p.2.1.setHold n 0)
    | some c =>
      let d := p.2.1
      if r.pauseReq ∨ r.pauseDue then
        pauseNow p.1 ((d.setRun n { d.run n with next := some (.seg c), holdThen := none, off := segLen ((r.cur.map (·.raw)).getD 0) }).setHold n 0) n
      else atBoundary p.1 (d.goOn n c) n
  else (m, d)

/-! Decisions (R60, R64, R65, R85). -/

/-- The Wellhead clocks since TB1's epoch; one is 640,000 units of 1/256 ps. -/
def Dev.tb1Clk (d : Dev) : Nat := 4 * d.tb1 + d.tb1Sub

/-- An alarm slot's flag for SEQn at the granule of its decision point: visible from the first boundary at least 40 ns after the
firing (R351). -/
def Dev.almSeen (d : Dev) (n slot : Nat) : Bool :=
  match Table.find d.almSeq (32 * n + slot) with
  | some c => decide ((c : Int) * 640000 + 10240000 ≤ (d.run n).t)
  | none => false

/-- COND as its decision point finds it, and the device after what it consumes. MATCH and NOFAIL are true with no site ACTIVE
(R92; MATCH_ITER then shows the present iteration, log entry 45); BOND always takes its members' values (R60, R97). -/
def condTrue (d : Dev) (n e : Nat) : Bool × Dev :=
  let inv := bit e 155
  let r := d.run n
  match segCond e with
  | 1 =>
    let p := d.extj n
    if p && !inv then (true, (d.setExtj n false).setRun n { r with takenPend := true }) else (p != inv, d)
  | 5 => ((d.get (K.CNT n) == 0) != inv, d)
  | 6 => (d.hewFlag (bits e 103 4) (segArg e % 16) != inv, d)
  | 7 =>
    let a := segArg e % 32
    let p := d.almSeen n a
    if p && !inv then (true, { d with almSeq := Table.del d.almSeq (32 * n + a) }) else (p != inv, d)
  | 0 => (false, d)
  | _ =>
    let none' := (d.activeSites n).isEmpty && (segCond e == 2 || segCond e == 4)
    (r.exited || none', if none' && !r.exited then
        (d.set (K.MATCH_ITER n) r.iter).setRun n { r with vacant := r.cur.map (·.seg) } else d)

/-- The decision point of the iteration being issued (R64, R67). -/
def decidePoint (m : Memory) (d : Dev) (n : Nat) : Memory × Dev :=
  let r := d.run n
  match r.cur with
  | none => (m, d)
  | some c =>
    let e := c.raw
    let rem := granules e - r.off / 8 - 1     -- the granule of the decision point has its operation already (R145)
    let seg (m : Memory) (d : Dev) (idx : Nat) : Memory × Dev :=
      let p := commitSucc m d n idx rem
      (p.1, p.2.1.setRun n { p.2.1.run n with next := some (.seg p.2.2) })
    let put (d : Dev) (x : NextSeg) : Dev := d.setRun n { d.run n with next := some x }
    let cyc := d.get (K.CYCLE n)
    match segKind e with
    | 3 =>
      if 16 ≤ r.stack.length then
        let p := seqFault m d n 1 c.idx cyc []
        seg p.1 p.2 (segJump e)
      else seg m (d.setStack n (segNext e :: r.stack)) (segJump e)
    | 4 =>
      (match r.stack with
       | [] => let p := seqFault m d n 2 c.idx cyc []
               (p.1, put p.2 .halt)
       | i :: l => seg m (d.setStack n l) i)
    | 5 => (m, put d .halt)
    | _ =>
      let t := condTrue d n e
      if t.1 then seg m t.2 (segJump e)
      else if segRepeat e ≠ 0 ∧ r.iter + 1 = segRepeat e then
        (if compareDep (segCond e) then (m, put t.2 .exhaust) else seg m t.2 (segNext e))
      else (m, put t.2 .again)

/-- What the slices keep once a successor is fixed. -/
def Dev.afterDecision (d : Dev) (n : Nat) : Dev :=
  let r := d.run n
  match r.cur, r.next with
  | some c, some (.seg s) => d.dropAhead n c.seg r.iter (some s)
  | some c, some .exhaust => d.dropAhead n c.seg r.iter none
  | some c, some .halt => d.dropAhead n c.seg r.iter none
  | _, _ => d

/-! Segment and iteration starts (R61, R69, R99, R122). -/

/-- A pulse of `width` ns begins on a TRIG_OUT line at an instant in 1/256 ps of TB1 (R99). -/
def Dev.trigPulse (d : Dev) (line : Nat) (begin_ : Int) (width : Nat) : Dev :=
  { d with trigOut := Table.put d.trigOut line (Table.at d.trigOut [] line ++ [begin_ + 256000 * width]) }

/-- The windows a parked slice streams through discard what they hold (R49): those of the segment being issued, and those that
still fetch for it. -/
def Dev.discardSlice (d : Dev) (n seam seg : Nat) : Dev :=
  (List.range 16).foldl (fun (d : Dev) w =>
    if ((d.run n).cur.any (fun c => segKind c.raw == 1 && !(c.bad.contains seam) && c.subs.any (fun p => p.1 == seam && bits p.2 52 4 == w)))
      ∨ (d.win n w).queue.any (fun f => f.seam == seam) then d.winDiscard n w seg else d) d

/-- The actions at a segment's first VP, in the order of R69; the windows of slices that are parked go on with the segment (R49). -/
def segStart (m : Memory) (d : Dev) (n : Nat) (c : Commit) : Memory × Dev :=
  let r := d.run n
  let e := c.raw
  let cyc := d.get (K.CYCLE n)
  let d := if bit e 110 || d.get (K.AUTO_SHADOW n) == 1 then d.latchOffsets r.gang else d
  let d := d.handOver n r.gang c.sets c.idx cyc
  let d := (Table.at d.slices [] n).foldl (fun (d : Dev) s => if s.bad then d.discardSlice n s.seam c.seg else d) d
  let d := if segCntOp e = 1 ∨ segCntOp e = 3 then d.set (K.CNT n) (bits e 113 24) else d
  let d := (setBits 8 (segTrig e)).foldl (fun d l =>
    d.trigPulse l (r.t + d.get (K.TRIG_OUT_DELAY n) * 256 / 1000) (d.get (K.TRIG_WIDTH n))) d
  let d := d.set (K.CUR_ENTRY n) c.idx
  let d := if r.takenPend then (d.set (K.EXTJ_TAKEN n) cyc).setRun n { d.run n with takenPend := false } else d
  let oldest := match r.flight with | f :: _ => f.cycle | [] => cyc
  let p := (List.range 4).foldl (fun (p : Memory × Dev) k =>
    dwsSegStart p.1 p.2 k n c.idx c.raw c.seg c.sets cyc oldest) (m, d)
  let d := p.2
  if segFast e ∧ n < 8 then
    let r := d.run n
    let j := commitOf m d n (segJump e) r.nseg
    let d := (d.setRun n { r with nseg := r.nseg + 1, altSeg := some j }).readDir n
    (p.1, (d.altStart n (some j)).hewStandby n (some j.raw))
  else (p.1, (d.altStart n none).hewStandby n none)

/-! Granules (R34, R39, R48). -/

/-- The granule of a code buffer for a place, if expanded. -/
def findGran (l : List Gran) (seg iter g : Nat) : Option Gran :=
  l.find? (fun x => x.seg == seg && x.iter == iter && decide (x.g ≤ g) && decide (g < x.g + x.n))

/-- The granule about to issue of a slice: 0 its codes are there or the slice is parked, 1 not yet expanded, 2 starved
(R48: a line it needs has not arrived). -/
def sliceDue (m : Memory) (d : Dev) (n : Nat) (s : Slice) (c : Commit) (iter g : Nat) : Nat :=
  let seg := c.seg
  if s.bad || c.bad.contains s.seam then 0
  else match findGran s.buf seg iter g with
    | some _ => 0
    | none =>
      match s.exp with
      | some e => if e.seg = seg ∧ e.win.isSome ∧ (nextBlock m d n s.seam e).isNone then 2 else 1
      | none => 1

/-- Sites of SEQn with a channel in a seam, ascending. -/
def Dev.sitesIn (d : Dev) (n seam : Nat) : List Nat :=
  (d.sitesOf n).filter (fun s => ((d.run n).gang).any (fun p => p.2 == s && p.1 / 16 == seam))

/-- The fault a slice's granule raises: 0 none, 6 STARVED, 7 BLOCK_FORMAT, 8 LODE_ECC. -/
def Slice.granFault (s : Slice) (c : Commit) (iter g : Nat) : Nat :=
  if s.bad then 0
  else if c.bad.contains s.seam then 8
  else match findGran s.buf c.seg iter g with
    | some x => x.err
    | none => 6

/-- A granule of every slice is due, those that raise a fault in ascending kind and seam (R416): BUF_LOW, then STARVED, BLOCK_FORMAT and LODE_ECC (R34, R37, R39, R48, R49). BLOCK_ERR
records the place of either error (log entry 43). -/
def granuleStart (m : Memory) (d : Dev) (n : Nat) (c : Commit) (iter g : Nat) : Memory × Dev :=
  let all := Table.at d.slices [] n
  let l := [0, 6, 7, 8].flatMap (fun k => all.filter (fun s => s.granFault c iter g == k))
  let cyc := d.get (K.CYCLE n)
  l.foldl (fun (p : Memory × Dev) s =>
    let d := p.2
    let put (d : Dev) (s' : Slice) : Dev :=
      { d with slices := Table.put d.slices n ((Table.at d.slices [] n).map (fun y => if y.seam = s'.seam then s' else y)) }
    let err (d : Dev) (fk : Nat) : Memory × Dev :=
      seqFault p.1 (((d.set (K.BLOCK_ERR n) (fld 28 4 s.seam + fld 0 24 g))).discardSlice n s.seam c.seg) n fk c.idx cyc
        ((d.sitesIn n s.seam).map (fun x => (x, cyc)))
    if s.bad then p
    else if c.bad.contains s.seam then err (put d { s with low := 0, bad := true, buf := [], exp := none }) 8
    else
      match findGran s.buf c.seg iter g with
      | some x =>
        let fill := fillOf (trimBuf s.buf c.seg iter g)
        let s' := { s with low := min s.low (min 32 fill) }
        if x.err = 0 then (p.1, put d s')
        else
          err (put d { s' with bad := true, buf := [], exp := none }) x.err
      | none =>
        let w := match s.exp with | some e => e.win.getD 0 | none => 0
        let d := put d { s with low := 0, bad := true, buf := [], exp := none }
        seqFault p.1 ((d.setWinState n w 4).discardSlice n s.seam c.seg) n 6 c.idx cyc ((d.sitesIn n s.seam).map (fun x => (x, cyc)))) (m, d)

/-! One VP on the channels. -/

/-- The code of a channel at a place: decompressed, then merged (R144). -/
def codeAt (m : Memory) (d : Dev) (n ch seg iter off : Nat) : Nat :=
  let v := match (Table.at d.slices [] n).find? (fun s => s.seam == ch / 16) with
    | some s => (match findGran s.buf seg iter (off / 8) with
      | some g => if s.bad then 8 else bits g.codes (4 * (16 * (off % 8) + ch % 16)) 4
      | none => 8)
    | none => 8
  hewCode m d n ch (off % 8) v

/-- What a channel whose comparator pairs are open or undriven samples: both inputs 0, for the whole of a window (R435). -/
def openPair (ch : Nat) : Sample := ⟨ch, 0, 0, [0], []⟩

/-- One channel in one VP: reserved codes (R30; not those of channels of PARKED and INACTIVE sites, which draw no code, log entry
43), the drawing (R113 to R117) and the result (R155). A DNRZ donor's outputs keep DEN off and DRV as it is, and its code is
judged on the even channel's inputs at STB2 (R115, R118, R119). -/
def chanVp (m : Memory) (d : Dev) (n tset : Nat) (t : Int) (gang : List (Nat × Nat)) (seg iter off : Nat) (samples : List Sample)
    (p : Nat × Nat) : Dev × List Res :=
  let ch := p.1
  let cyc := d.get (K.CYCLE n)
  let cond := d.get (K.SITE_COND p.2)
  let parked := match (d.site p.2).parkAt with | some b => decide (b ≤ cyc) | none => false
  let s := d.actSet n ch tset
  let c0 := Table.at d.chans {} ch
  if cond = 0 then (d, [])
  else if parked then
    if c0.park then (d, [])
    else
      let c0 := { c0 with edges := [], park := true }
      let mode := d.get (K.PARK_MODE p.2)
      let c := if d.isDonor n tset gang p then d.drawDonor ch c0 (fun c => drawPark c t s true mode)
        else drawPark (c0, 0) t s (s.format == 0) mode
      (d.setChan ch c, [])
  else
    let raw := codeAt m d n ch seg iter off
    let bad := decide (12 ≤ raw) && decide (raw ≤ 14)
    let code := if bad then 8 else raw
    let d := if bad then (d.bump (K.CODE_EVENTS n)).event n Config.causeCodeEvent.toNat 0 else d
    let smp := (samples.find? (fun x => x.chan == ch)).getD (openPair ch)
    let fresh := { d with chans := Table.put d.chans ch { c0 with edges := [] } }
    if d.isDonor n tset gang p then
      let lvl := if isDrive code then datum code c0.lvl else c0.lvl
      let even := (samples.find? (fun x => x.chan == ch - 1)).getD (openPair (ch - 1))
      let d := d.setChan ch (d.drawDonor ch { c0 with edges := [], lvl := lvl } (fun c => setDen c t s false))
      if isSampled code then (d, [judge ch 0 code even.s2 [] [] false]) else (d, [])
    else
      let odd := if s.format = 5 then some (codeAt m d n (ch + 1) seg iter off) else none
      let oddLvl := (Table.at d.chans {} (ch + 1)).lvl
      let c := drawCode ({ c0 with edges := [] }, 0) t s code odd oddLvl (d.get (K.PARK_MODE p.2))
      let c := if s.format = 0 then c else drawStrobes c t s code odd
      let d := fresh.setChan ch c
      if isSampled code ∧ s.format ≠ 0 then
        let needFree := s.mode == 1 && !smp.brief.isEmpty
        let fb := if needFree then d.freeB.1 else false
        (if needFree then d.freeB.2 else d, [judge ch s.mode code smp.s1 smp.win smp.brief fb])
      else (d, [])

/-- The VP at CYCLE may issue: RUNNING, not draining, no hold over, every retirement up to it in, and at a granule start
the codes and operations there, or starvation or an underrun due (R20, R21, R48, R147). -/
def vpDue (m : Memory) (d : Dev) (n : Nat) : Bool :=
  let r := d.run n
  let h := d.hold n
  d.get (K.SEQ_STATE n) == 2 && r.drain == 0 && r.startTick.isNone &&
  d.retiredUp n &&
  (if h = 0 then
    (match r.cur with
     | none => false
     | some c => r.off % 8 != 0 ||
        ((Table.at d.slices [] n).all (fun s => sliceDue m d n s c r.iter (r.off / 8) != 1) &&
         (d.hewersOf n).all (fun k => d.get (K.HEW_STATE k) == 0 || !(d.hewBehind n k))))
   else decide (0 < r.holdLeft))

/-- A held VP (R80, R104): channels keep everything but for the park of a site whose boundary has come (R82, R90, R116; log
entry 42); it counts in CYCLE and DEADTIME_VP. Its period is that of the last VP issued; in a fence hold before the first VP
it is the active period of the first segment's set, before that segment's hand-over (log entry 46). -/
def Dev.heldVp (d : Dev) (n : Nat) : Dev :=
  let d := d.parkGang n (d.parkDueChans n)
  let r := d.run n
  let p := if r.lastP ≠ 0 then r.lastP
    else match r.holdThen with | some c => periodP (d.get (K.ACT_PERIOD n (segTset c.raw))) | none => 0
  ((d.setRun n { r with holdLeft := r.holdLeft - 1, t := r.t + p, lastP := p, slots := r.slots + 1 }).bump (K.CYCLE n)).bump (K.DEADTIME_VP n)

/-- A VP of the segment being issued. -/
def issueVp (m : Memory) (d : Dev) (n : Nat) (c : Commit) (samples : List Sample) : Memory × Dev :=
  let r := d.run n
  let p := if r.off = 0 ∧ r.iter = 0 then segStart m d n c else (m, d)
  let m := p.1
  let d := p.2
  let d := if r.off = 0 then
      let d := d.set (K.CUR_ITER n) r.iter
      if segCntOp c.raw = 2 ∨ segCntOp c.raw = 3 then d.set (K.CNT n) (d.get (K.CNT n) - 1) else d
    else d
  let p := if r.off + 64 = segLen c.raw then
      let q := decidePoint m d n
      let q := (q.1, q.2.afterDecision n)
      let r2 := q.2.run n
      (q.1, if r2.pauseReq then q.2.setRun n { r2 with pauseReq := false, pauseDue := true } else q.2)
    else (m, d)
  let m := p.1
  let d := p.2
  let r := d.run n
  let tset := segTset c.raw
  let pk := periodP (d.get (K.ACT_PERIOD n tset))
  let t := if r.lastP ≠ 0 ∧ r.lastP ≠ pk then 128 * (r.t / 128) else r.t
  let cyc := d.get (K.CYCLE n)
  let q := r.gang.foldl (fun (q : Dev × List Res) x =>
    let z := chanVp m q.1 n tset t r.gang c.seg r.iter r.off samples x
    (z.1, q.2 ++ z.2)) (d, [])
  let d := q.1
  let f : InFlight := ⟨cyc, c.seg, c.idx, c.raw, r.iter, r.iter == 0 && r.off == 0, r.off + 1 == segLen c.raw, t,
    d.trigIn % 256 + 256 * (d.tbus % 256), q.2, d.hewAddrs n, d.tb0At t⟩
  let r := d.run n
  let d := (d.setRun n { r with flight := r.flight ++ [f], off := r.off + 1, t := t + pk, lastP := pk, slots := r.slots + 1 }).bump (K.CYCLE n)
  let r := d.run n
  let d : Dev := if r.off % 8 = 0 then
      { d with slices := Table.put d.slices n ((Table.at d.slices [] n).map (fun s => { s with buf := trimBuf s.buf c.seg r.iter (r.off / 8) })) }
    else d
  (m, d)

/-- VP_ISSUE: the boundary's actions, then one VP, held or not. -/
def vpIssue (m : Memory) (d : Dev) (n : Nat) (samples : List Sample) : Memory × Dev :=
  if vpDue m d n then
    let p := atBoundary m d n
    let d := p.2
    let r := d.run n
    if d.get (K.SEQ_STATE n) ≠ 2 ∨ r.drain ≠ 0 then p
    else if d.hold n ≠ 0 then
      (if 0 < r.holdLeft then (let q := d.heldVp n; if (q.run n).holdLeft = 0 then (p.1, q) else atBoundary p.1 q n) else p)
    else match r.cur with
      | none => p
      | some c =>
        let p := if r.off % 8 = 0 then
            let q := granuleStart p.1 d n c r.iter (r.off / 8)
            let q := hewGranule q.1 q.2 n
            atBoundary q.1 q.2 n
          else p
        if p.2.get (K.SEQ_STATE n) ≠ 2 ∨ (p.2.run n).drain ≠ 0 then p
        else
          let q := issueVp p.1 p.2 n c samples
          if q.2.hold n = 0 then atBoundary q.1 q.2 n else q
  else (m, d)

/-! Starts, pauses, jumps (R73 to R75, R84 to R87). -/

/-- The first TB1 tick at least `k` ticks from now. -/
def Dev.tickIn (d : Dev) (k : Nat) : Nat := d.tb1 + k + (if d.tb1Sub = 0 then 0 else 1)

/-- SEQn leads its bond group (R93). -/
def Dev.bondLeader (d : Dev) (n : Nat) : Bool := match d.bondOf n with | some (_, cfg) => bit cfg 1 | none => false

/-- The least lead of a start in ticks: 2 µs, 50 µs for a bond leader (R74, R96). -/
def Dev.lead (d : Dev) (n : Nat) : Nat := if d.bondLeader n then 5000 else 200

/-- A start instant is fixed; a leader tells its members (R95, R325). -/
def Dev.startSet (d : Dev) (n tick : Nat) : Dev :=
  let d := d.setRun n { d.run n with startTick := some tick }
  match d.bondOf n with
  | some (_, cfg) =>
    if bit cfg 1 then d.tellSeq (.startInstant (bits cfg 16 8) tick) else d
  | none => d

/-- The instant of a host START or RESUME (R74, R96), or RANGE. -/
def Dev.hostInstant (d : Dev) (n lead : Nat) : Except Abort Nat :=
  let a := d.get (K.START_AT n)
  if a = 0 then .ok (d.tickIn lead)
  else if a < d.tickIn lead then .error .range
  else .ok a

/-- SEQ_CMD START (R73, R74, R95, R294, R367, R421, R422). A second START while a start instant is fixed is refused (log entry
45). -/
def seqStart (d : Dev) (n : Nat) : Except Abort Dev := do
  need (!(d.loading (d.armLoads n))) .busy
  need (!(d.wndHoldsSeq n)) .busy
  d.gate (d.seqDoms n ++ (if (d.hewersOf n).isEmpty then [] else [49])) none
  need (d.get (K.SEQ_STATE n) == 1 && (d.run n).startTick.isNone) .state
  need (!((d.bondOf n).isSome && bits (d.get (K.START_SRC n)) 0 3 == 3)) .state
  need (!(d.bondLeader n) || bit (d.get (K.SEQ_STATUS n)) 1) .state
  let t ← d.hostInstant n (d.lead n)
  .ok (d.startSet n t)

/-- SEQ_CMD PAUSE (R75). -/
def seqPause (d : Dev) (n : Nat) : Except Abort Dev := do
  need (d.get (K.SEQ_STATE n) == 2) .state
  let r := d.run n
  .ok (if r.drain = 0 then d.setRun n { r with pauseReq := true } else d)

/-- SEQ_CMD RESUME (R73, R75): its instant as a host START's by R74, a bond leader's too; a second one while an instant is
fixed is refused (log entry 45). -/
def seqResume (d : Dev) (n : Nat) : Except Abort Dev := do
  need (d.get (K.SEQ_STATE n) == 3 && (d.run n).startTick.isNone) .state
  let t ← d.hostInstant n 200
  .ok (d.setRun n { d.run n with startTick := some t })

/-- SEQ_CMD JUMP (R84): a request on its way to the next granule boundary. -/
def seqJump (d : Dev) (n : Nat) : Except Abort Dev := do
  need (d.get (K.SEQ_STATE n) == 2 || d.get (K.SEQ_STATE n) == 3) .state
  .ok (d.setRun n { d.run n with arrivals := (d.run n).arrivals + 1 })

/-- Accounts of a site and its channels take their defaults at a start (R161). -/
def Dev.accountsReset (d : Dev) (s : Nat) : Dev :=
  let keys := [K.SITE_FAILS s, K.FF_CYCLE s, K.FF_ENTRY s, K.FF_ITER s, K.FF_CHAN s, K.FF_ADDR s, K.FAIL_CHANS s 0,
    K.FAIL_CHANS s 1, K.FAIL_CHANS s 2, K.FAIL_CHANS s 3, K.LOG_RECORDS s, K.LOG_DROPPED s, K.ACCT_FLAGS s, K.CMP_FAULTS s,
    K.PARK_CAUSE s, K.PARK_CYCLE s]
  let d := keys.foldl (fun (d : Dev) k => d.unset k) d
  (d.siteChans s).foldl (fun (d : Dev) ch => (d.unset (K.CH_FAILS ch)).unset (K.CH_CMP_FAULTS ch)) d

/-- T at a start or resume instant (R103): the instant, LAUNCH_LATENCY and SKEW_ADJ. -/
def Dev.startT (d : Dev) (tick : Nat) : Int :=
  2560000 * (tick : Int) + 10240000 + toSigned 64 (d.get K.SKEW_ADJ) * 256 / 1000

/-- The chip enters RUNNING with its first running sequencer (R282). -/
def Dev.chipRun (d : Dev) : Dev := if d.get K.CHIP_STATE = 3 then d.setChip 4 else d

/-- VP 0 is about to issue (R73): what a start clears, the sites that become ACTIVE with their START records, offsets
latched, the first segment's hand-over fixed (R123) and a fence before it (R82). -/
def startNow (m : Memory) (d : Dev) (n tick : Nat) : Memory × Dev :=
  let r := d.run n
  let d := d.set (K.SEQ_STATE n) 2
  let d := ((d.set (K.CYCLE n) 0).set (K.CNT n) 0).set (K.SEQ_STATUS n) (clrBit (bits (d.get (K.SEQ_STATUS n)) 0 2) 0)
  let sites := (d.sitesOf n).filter (fun s => d.get (K.SITE_ENABLE s) == 1)
  let d := (d.sitesOf n).foldl (fun (d : Dev) s =>
    ((d.accountsReset s).setSite s {}).set (K.SITE_COND s) (if sites.contains s then 1 else 0)) d
  let d : Dev := r.gang.foldl (fun (d : Dev) p =>
    let c : ChanOut := { Table.at d.chans {} p.1 with lvl := false, on := false, edges := [] }
    { d with chans := Table.put d.chans p.1 (if sites.contains p.2 then { c with park := false, last := [] } else c) }) d
  let d := (d.switchSpares (r.gang.map (·.1))).latchOffsets r.gang
  let cur := r.cur.map (fun c => { c with sets := (if bit c.raw 110 || d.get (K.AUTO_SHADOW n) == 1 then d.get (K.TSET_SEAL n) else 0) })
  let d := d.setRun n { r with startTick := none, sites := sites, cur := cur, t := d.startT tick, arrivals := 0, pauseReq := false }
  let d := sites.foldl (fun (d : Dev) s => d.logStart n s tick) d
  let d := match cur with
    | some c => if bit c.raw 109 ∧ 0 < d.get (K.RL n) then
        (d.setRun n { d.run n with holdThen := some c, holdLeft := d.get (K.RL n), fenced := true }).setHold n 2 else d
    | none => d
  atBoundary m (d.chipRun.bondAnnounce n none) n

/-- Issue goes on after a PAUSE (R75) with the committed successor. If that start is a hand-over point it takes the sets sealed by
now (R126: a set sealed at a PAUSE or RESUME is copied at the first hand-over point after the resume). -/
def resumeNow (m : Memory) (d : Dev) (n tick : Nat) : Memory × Dev :=
  let r := d.run n
  let next := match r.next with
    | some (.seg c) =>
      some (.seg (if bit c.raw 110 || d.get (K.AUTO_SHADOW n) == 1 then { c with sets := d.get (K.TSET_SEAL n) } else c))
    | x => x
  let d := d.setRun n { r with startTick := none, t := d.startT tick, fenced := false, next := next, endTick := none }
  let d := d.set (K.SEQ_STATE n) 2
  atBoundary m (d.chipRun.bondAnnounce n none) n

/-- START_INSTANT: the start or resume instant a sequencer waits for has come. -/
def startInstant (m : Memory) (d : Dev) (n : Nat) : Memory × Dev :=
  match (d.run n).startTick with
  | none => (m, d)
  | some tick =>
    if d.get (K.SEQ_STATE n) = 1 then startNow m d n tick
    else if d.get (K.SEQ_STATE n) = 3 then resumeNow m d n tick
    else (m, d)

/-- JUMP_REQUEST_ARRIVAL (R84 to R87): a request reaches its arrival VP, the next one, a granule boundary. -/
def jumpArrival (m : Memory) (d : Dev) (n : Nat) : Memory × Dev :=
  let r := d.run n
  let st := d.get (K.SEQ_STATE n)
  let cyc := d.get (K.CYCLE n)
  if 0 < r.arrivals ∧ (st = 2 ∨ st = 3) ∧ cyc % 8 = 0 ∧ (st = 3 ∨ d.retiredUp n) then
    let d := (d.setRun n { r with arrivals := r.arrivals - 1 }).set (K.EXTJ_ARRIVE n) cyc
    if d.hold n = 1 ∨ d.extj n then (m, d.bump (K.EXTJ_MERGED n))
    else
      let fastC := match r.cur with
        | some c => if n < 8 ∧ st = 2 ∧ r.drain = 0 ∧ d.hold n = 0 ∧ segFast c.raw ∧ segCond c.raw = 1 ∧ !(bit c.raw 155) ∧ r.fast = none then
            some c else none
        | none => none
      match fastC with
      | some c =>
        let j := commitOf m d n (segJump c.raw) (match r.altSeg with | some a => a.seg | none => r.nseg)
        let d := (d.setRun n { d.run n with takenPend := true, nseg := (d.run n).nseg + 1 }).readDir n
        atBoundary m (d.setRun n { d.run n with fast := some j }) n
      | none => (m, d.setExtj n true)
  else (m, d)

/-- DISARM (R73). -/
def seqDisarm (m : Memory) (d : Dev) (n : Nat) : Except Abort (Memory × Dev) := do
  need (d.get (K.SEQ_STATE n) == 1) .state
  .ok (seqEnd m d n 0)

/-- SEQ_CMD STOP (R73, R76). -/
def seqStopCmd (m : Memory) (d : Dev) (n : Nat) : Except Abort (Memory × Dev) := do
  need (d.seqLive n || d.get (K.SEQ_STATE n) == 4) .state
  let p := seqStop m d n 4
  .ok (atBoundary p.1 p.2 n)

/-- Site commands of a sequencer that issues nothing act at once, since it stands at a granule boundary (R91; log entry 56); the
last site's park in PAUSED ends the run (R89). -/
def siteCmdsNow (m : Memory) (d : Dev) (n : Nat) : Memory × Dev :=
  let d := (d.sitesOf n).foldl (fun (d : Dev) s => if (d.site s).cmd ≠ 0 then d.siteCmdActs n s else d) d
  let d := ((d.parkGang n (d.parkDueChans n)).parkSupplies n).siteCheck n
  if d.get (K.SEQ_STATE n) = 3 ∧ (d.run n).stopReq = 3 then drainDone m d n else (m, d)

/-- SITE_CMD PARK (1) or MASK (2) (R91). -/
def siteCommand (m : Memory) (d : Dev) (s v : Nat) : Except Abort (Memory × Dev) := do
  let n := d.get (K.SITE_SEQ s)
  let cond := d.get (K.SITE_COND s)
  need (decide (n < 64) && (d.get (K.SEQ_STATE n) == 2 || d.get (K.SEQ_STATE n) == 3)) .state
  need (cond == 1 || (v == 1 && cond == 2)) .state
  let d := d.setSite s { d.site s with cmd := setBit (d.site s).cmd (v - 1) }
  .ok (if d.get (K.SEQ_STATE n) = 3 ∨ (d.run n).drain ≠ 0 then siteCmdsNow m d n else atBoundary m d n)

end Sys2Proof.Machine
end

