-- ==== Sys2Proof/Machine/Retire.lean ====
section
/-! DEFINITION. Retirement (R21 to R25, R77 to R79, R90, R97, R98, R156 to R169) and the edges of TRIG_IN and TBUS. -/

namespace Sys2Proof.Machine

/-! Fails of a site (R157 to R166). -/

/-- FAIL_MAP of part p: ranks in the site's channel list (R166). -/
def failMap (chans fails : List Nat) (p : Nat) : Nat :=
  maskOf ((chans.zipIdx.filter (fun x => fails.contains x.1 && x.2 / 64 == p)).map (fun x => x.2 % 64))

/-- The FAIL records of a failing VP, ascending by part, the last marked LAST (R166). -/
def Dev.failRecords (d : Dev) (n s : Nat) (f : InFlight) (l : List Res) : Dev :=
  let chans := d.siteChans s
  let fails := l.map (·.chan)
  let parts := (List.range 4).filter (fun p => failMap chans fails p != 0)
  parts.foldl (fun d p =>
    let cflt := l.any (fun r => r.inval && (match chans.zipIdx.find? (fun x => x.1 == r.chan) with | some x => x.2 / 64 == p | none => false))
    d.logRecord n s 1 (fun rs => recordRaw (failMap chans fails p) (d.addrOf s f) p (b2n (parts.getLast? == some p)) 1 (b2n cflt)
      f.iter f.idx s n rs f.cycle)) d

/-- FAIL_POLICY on the fail that reaches the threshold (R90). -/
def Dev.failPolicy (d : Dev) (n s : Nat) (f : InFlight) : Dev :=
  if d.get (K.SITE_FAILS s) = d.get (K.POLICY_THRESHOLD s) then
    match d.get (K.FAIL_POLICY s) with
    | 1 =>
      if d.get (K.SITE_COND s) = 1 then
        let r := d.site s
        (d.setSite s { r with discFrom := some (match r.discFrom with | some x => min x (f.cycle + 1) | none => f.cycle + 1) }).set (K.SITE_COND s) 2
      else d
    | 2 => d.parkSite s 1 (f.cycle + 1) (boundaryFrom (d.get (K.CYCLE n)))
    | _ => d
  else d

/-- The first-fail objects of a run (R162), and the site's FIRST_FAIL event. -/
def Dev.firstFail (d : Dev) (s : Nat) (f : InFlight) (chan : Nat) : Dev :=
  if d.get (K.SITE_FAILS s) = 1 then
    ((((((d.set (K.FF_CYCLE s) (f.cycle % 2 ^ 48)).set (K.FF_ENTRY s) f.idx).set (K.FF_ITER s) f.iter).set (K.FF_CHAN s) chan).set
      (K.FF_ADDR s) (d.addrOf s f))).siteEvent s 1
  else d

/-- A site fails a VP (R158 step 5). -/
def Dev.siteFail (d : Dev) (n s : Nat) (f : InFlight) (l : List Res) : Dev :=
  let d := (d.bump (K.SITE_FAILS s)).firstFail s f ((l.map (·.chan)).headD 0xFFFF)
  let d := l.foldl (fun d r =>
    (d.setB (K.FAIL_CHANS s (r.chan / 64)) (r.chan % 64) true).bump (K.CH_FAILS r.chan)) d
  ((d.setSite s { d.site s with failed := some (f.seg, f.iter) }).failRecords n s f l).failPolicy n s f

/-- A MATCH_TIMEOUT fail (R79, R167). -/
def Dev.matchTimeout (d : Dev) (n s : Nat) (f : InFlight) : Dev :=
  let d := ((d.bump (K.SITE_FAILS s)).firstFail s f 0xFFFF).set (K.SITE_MATCH_ITER s) 0xFFFFFFFF
  (d.logRecord n s 2 (fun rs => recordRaw 0 (d.addrOf s f) 0 1 2 0 f.iter f.idx s n rs f.cycle)).failPolicy n s f

/-- INVALID samples of a site at a VP (R156). -/
def Dev.countInvalid (d : Dev) (s : Nat) (f : InFlight) : Dev :=
  let l := (d.siteRes s f).filter (·.inval)
  if l.isEmpty then d
  else
    (l.foldl (fun (d : Dev) r => (d.bumpSat (K.CH_CMP_FAULTS r.chan)).bumpSat (K.CMP_FAULTS s)) d).setB (K.ACCT_FLAGS s) 2 true
      |>.siteEvent s 2

/-- The match accounts of a site at a VP of a MATCH segment (R78). -/
def Dev.matchStep (d : Dev) (s : Nat) (f : InFlight) : Dev :=
  let r := d.site s
  let bad := (d.siteRes s f).any (fun x => x.judged && !x.pass && !(d.failMasked s x.chan))
  let mism := r.mism == some (f.seg, f.iter) || bad
  if f.last && !mism then (d.setSite s { r with matched := some (f.seg, f.iter) }).set (K.SITE_MATCH_ITER s) f.iter
  else if bad then d.setSite s { r with mism := some (f.seg, f.iter) } else d

/-- One site at an unsquashed retirement (R158): steps 2 to 5. -/
def Dev.siteRetire (d : Dev) (n s : Nat) (f : InFlight) : Dev :=
  if d.discarded s f then d
  else
    let d := d.countInvalid s f
    if f.inMatch then d.matchStep s f
    else
      let l := d.siteFails s f
      if l.isEmpty then d else d.siteFail n s f l

/-! Bonded conditions (R97, R98). -/

/-- VPs from a result's issue to when the member itself knows it: RL without the hops. -/
def Dev.bondKnownAfter (d : Dev) (n : Nat) : Nat :=
  roundUp (ceilDiv (d.get (K.LOOP_LATENCY n) * 256) (1000 * max 1 (periodP (d.get (K.TMIN n))))) 8

/-- A site's unmasked compared results of an iteration, retired part excepted, all pass. -/
def Dev.passesIn (d : Dev) (s : Nat) (l : List InFlight) (seg iter : Nat) : Bool :=
  l.all (fun f => f.seg != seg || f.iter != iter || d.discarded s f ||
    (d.siteRes s f).all (fun x => !x.judged || x.pass || d.failMasked s x.chan))

/-- The local value of a BOND condition as soon as the result of VP f is known; none before its deciding VP, which for local
FAIL in an iteration without a fail is the iteration's last (log entry 45). -/
def Dev.localValue (d : Dev) (n : Nat) (f : InFlight) : Option Bool :=
  let l := (d.run n).flight.filter (fun x => decide (x.cycle ≤ f.cycle))
  let here (s : Nat) : Bool := match l with | h :: _ => h.seg == f.seg && h.iter == f.iter && (d.site s).failed == some (f.seg, f.iter) | [] => false
  let act := d.scopeSites n f.cycle
  match localCond f.raw with
  | 3 =>
    if act.any (fun s => !(d.discarded s f) && !(d.siteFails s f).isEmpty) then some true
    else if f.last then some false else none
  | 4 => if f.last then some (act.all (fun s => d.passesIn s l f.seg f.iter && !(here s))) else none
  | _ =>
    if f.last then
      some (act.all (fun s =>
        (match (d.site s).matched with | some (sg, _) => sg == f.seg | none => false) ||
        (List.range (f.iter + 1)).any (fun it =>
          (match l with | h :: _ => h.seg != f.seg || decide (h.iter < it) || (h.iter == it && (d.site s).mism != some (f.seg, it)) | [] => false) &&
          d.passesIn s l f.seg it)))
    else none

/-- A member's own value goes to the others as soon as it is known (R97). -/
def Dev.bondSendValue (d : Dev) (n : Nat) (f : InFlight) : Dev :=
  let r := d.run n
  if segCond f.raw = 8 ∧ !(r.own.any (fun o => o.1 == f.seg && o.2.1 == f.iter)) then
    match d.bondOf n, d.localValue n f with
    | some (_, cfg), some v =>
      let d := d.setRun n { r with own := r.own ++ [(f.seg, f.iter, v)] }
      d.tellTimed (.bondValue (bits cfg 16 8) f.idx f.iter (d.get K.GAL_NODE) v)
    | _, _ => d
  else d

/-- Values known after the present VP. -/
def Dev.bondKnown (d : Dev) (n : Nat) : Dev :=
  let k := d.bondKnownAfter n
  match (d.run n).flight.find? (fun f => f.cycle + k + 1 == d.get (K.CYCLE n)) with
  | some f => d.bondSendValue n f
  | none => d

/-- The iterations of BOND segments of a run whose results have not all retired, oldest first: segment start, entry,
iteration. -/
def SeqRun.bondIters (r : SeqRun) : List (Nat × Nat × Nat) :=
  ((r.flight.filter (fun f => segCond f.raw == 8)).map (fun f => (f.seg, f.idx, f.iter)) ++
    (match r.cur with | some c => if segCond c.raw = 8 ∧ 0 < r.off then [(c.seg, c.idx, r.iter)] else [] | none => [])).dedup

/-- A member's value is received (R97, R98): it stands for the oldest iteration of the own run that lacks that member's value;
one for another entry or iteration is BOND_DIVERGE. -/
def bondReceive (m : Memory) (d : Dev) (n entry iter member : Nat) (value : Bool) : Memory × Dev :=
  let r := d.run n
  if d.get (K.SEQ_STATE n) ≠ 2 then (m, d)
  else match r.bondIters.find? (fun x => r.bond.all (fun v => v.member != member || v.seg != x.1 || v.iter != x.2.2)) with
    | some x =>
      if x.2.1 = entry ∧ x.2.2 = iter then (m, d.setRun n { r with bond := r.bond ++ [⟨member, x.1, iter, value⟩] })
      else diverge r
    | none => diverge r
where
  diverge (r : SeqRun) : Memory × Dev :=
    seqFault m d n 4 ((r.cur.map (·.idx)).getD 0) (d.get (K.CYCLE n)) []

/-- Values of iterations that have retired or been squashed are of no more use. -/
def Dev.bondPrune (d : Dev) (n : Nat) : Dev :=
  let r := d.run n
  if r.bond.isEmpty && r.own.isEmpty then d
  else
    let l := r.bondIters
    let keep (s i : Nat) : Bool := l.any (fun x => x.1 == s && x.2.2 == i)
    d.setRun n { r with bond := r.bond.filter (fun v => keep v.seg v.iter), own := r.own.filter (fun o => keep o.1 o.2.1) }

/-- The combined BOND value at a deciding VP (R97, R98): the value sent and those of the other members for the iteration; none
where a member's is lacking (BOND_LATE, with the retiring VP's entry and cycle, log entry 45). -/
def bondCombine (m : Memory) (d : Dev) (n : Nat) (f : InFlight) (own : Bool) : (Memory × Dev) × Bool :=
  match d.bondOf n with
  | none => ((m, d), own)
  | some (_, cfg) =>
    let r := d.run n
    let l := r.bond.filter (fun v => v.seg == f.seg && v.iter == f.iter)
    if l.length < bits cfg 2 2 then (seqFault m d n 3 f.idx f.cycle [], false)
    else
      let mine := ((r.own.find? (fun o => o.1 == f.seg && o.2.1 == f.iter)).map (·.2.2)).getD own
      let vals := mine :: l.map (·.value)
      ((m, d), if bit (segArg f.raw) 7 then vals.any id else vals.all id)

/-! Exits (R24, R77). -/

/-- An exit resolves at the retirement of its deciding VP. -/
def resolveExit (m : Memory) (d : Dev) (n : Nat) (f : InFlight) : Memory × Dev :=
  let late := if n < 8 ∧ segFast f.raw then some (f.cycle + d.get (K.RL n)) else none
  let d := (d.set (K.MATCH_ITER n) f.iter).setRun n { d.run n with resolved := some (f.seg, f.iter), squashAfter := late }
  let r := d.run n
  match r.cur with
  | none => (m, d)
  | some c =>
    if c.seg ≠ f.seg then (m, d)
    else
      let j := commitOf m d n (segJump c.raw) (match r.altSeg with | some a => a.seg | none => r.nseg)
      if r.drain = 1 then pauseExit m ((d.setRun n { r with nseg := r.nseg + 1 }).readDir n) n j
      else if r.drain = 0 ∧ d.hold n = 0 ∧ n < 8 ∧ segFast c.raw ∧ r.fast = none then
        (m, (d.setRun n { r with nseg := r.nseg + 1, fast := some j }).readDir n)
      else (m, d)

/-- The compare-dependent condition at an unsquashed retirement (R60, R77); `failed`: an ACTIVE site failed at this VP,
`before`: one had in the iteration already. With no site ACTIVE a local MATCH or NOFAIL is true at the next decision point
(R92); under BOND it enters the combination (R60). -/
def exitCheck (m : Memory) (d : Dev) (n : Nat) (f : InFlight) (failed before : Bool) : Memory × Dev :=
  let e := f.raw
  let open' : Bool := match (d.run n).resolved with | some (s, _) => s != f.seg | none => true
  if compareDep (segCond e) && open' then
    let act := d.scopeSites n f.cycle
    let ends := !act.isEmpty || segCond e == 8
    let val : Option Bool := match localCond e with
      | 3 => if failed then (if before then none else some true) else if f.last ∧ !before then some false else none
      | 4 => if f.last ∧ ends then some (act.all (fun s => (d.site s).failed != some (f.seg, f.iter))) else none
      | _ => if f.last ∧ ends then
          some (act.all (fun s => match (d.site s).matched with | some (sg, _) => sg == f.seg | none => false)) else none
    match val with
    | none => (m, d)
    | some v =>
      let b := if segCond e = 8 then bondCombine m d n f v else ((m, d), v)
      if b.2 then resolveExit b.1.1 b.1.2 n f else b.1
  else (m, d)

/-- The last VP of a segment that ended by exhaustion, and not for want of an ACTIVE site (R92), retires (R71 MATCH_ITER, R79). -/
def Dev.exhaustCheck (d : Dev) (n : Nat) (f : InFlight) : Dev :=
  let e := f.raw
  let open' : Bool := match (d.run n).resolved with | some (s, _) => s != f.seg | none => true
  if f.last ∧ compareDep (segCond e) ∧ open' ∧ (d.run n).vacant ≠ some f.seg ∧ segRepeat e ≠ 0 ∧ f.iter + 1 = segRepeat e then
    let d := d.set (K.MATCH_ITER n) 0xFFFFFFFF
    if f.inMatch then
      (d.scopeSites n f.cycle).foldl (fun d s =>
        match (d.site s).matched with
        | some (sg, _) => if sg = f.seg then d else d.matchTimeout n s f
        | none => d.matchTimeout n s f) d
    else d
  else d

/-! Retirement. -/

/-- RESULT_LATE (R23, R91): the sites park from the granule of the VP. A fault found at a retirement carries the retiring VP's
entry and cycle (log entry 45). -/
def lateSites (m : Memory) (d : Dev) (n : Nat) (f : InFlight) (late : List Nat) : Memory × Dev :=
  let l := (d.sitesOf n).filter (fun s => late.contains s && !(d.discarded s f))
  if l.isEmpty then (m, d) else seqFault m d n 5 f.idx f.cycle (l.map (fun s => (s, f.cycle / 8 * 8)))

/-- An unsquashed retirement: sites in ascending order, linked Assay units, the exit condition, the iteration's end. -/
def retireCounts (m : Memory) (d : Dev) (n : Nat) (f : InFlight) : Memory × Dev :=
  let r := d.run n
  let act := d.scopeSites n f.cycle
  let before := act.any (fun s => (d.site s).failed == some (f.seg, f.iter))
  let failed := !f.inMatch && act.any (fun s => !(d.discarded s f) && !(d.siteFails s f).isEmpty)
  let d := r.sites.foldl (fun d s => d.siteRetire n s f) d
  let q := (List.range 16).foldl (fun (q : Memory × Dev × Bool) u =>
    if q.2.1.get (K.ASY_SEQ u) = n then
      let z := asySample q.1 q.2.1 u r.gang f
      (z.1, z.2.1, q.2.2 || z.2.2)
    else q) (m, d, false)
  let p := exitCheck q.1 q.2.1 n f failed before
  let d := p.2.exhaustCheck n f
  if q.2.2 then seqStop p.1 d n 4 else (p.1, d)

/-- The results of a VP are squashed (R24, R25, R77): it lies in an iteration after the deciding one, or a fast-resolve
sequencer issued it after the deciding result retired. -/
def SeqRun.squashes (r : SeqRun) (f : InFlight) : Bool :=
  match r.resolved with
  | some (s, it) => s == f.seg && (decide (it < f.iter) || (match r.squashAfter with | some c => decide (c < f.cycle) | none => false))
  | none => false

/-- VP_RETIRE: the oldest issued VP retires, RL VP after its issue or in a drain (R21, R25, R75, R76). In a drain no VP follows:
a site it parks takes its park state at once (R90), and the run ends with its last site (R89). -/
def vpRetire (m : Memory) (d : Dev) (n : Nat) (late : List Nat) : Memory × Dev :=
  let p := atBoundary m d n
  let m := p.1
  let d := p.2
  let r := d.run n
  match r.flight with
  | [] => (m, d)
  | f :: rest =>
    if d.get (K.SEQ_STATE n) = 2 ∧ (r.drain ≠ 0 ∨ f.cycle + d.get (K.RL n) + 1 ≤ d.get (K.CYCLE n)) then
      let d := if r.drain ≠ 0 then r.flight.foldl (fun (d : Dev) x => d.bondSendValue n x) d else d
      let squashed := r.squashes f
      let p := if late.isEmpty then (m, d) else lateSites m d n f late
      let disc (ch : Nat) : Bool := p.2.discarded (siteOfChan r.gang ch) f
      let d := (List.range 4).foldl (fun (d : Dev) e =>
        if d.get (K.DWS_SEQ e) = n then d.dwsRetire e f squashed disc else d) p.2
      let d := d.setRun n { d.run n with flight := rest }
      let p := if squashed then (p.1, d.bump (K.SQUASHED_VP n)) else retireCounts p.1 d n f
      let d := p.2.bondPrune n
      if (d.run n).drain ≠ 0 then
        let d := ((d.parkGang n (d.parkDueChans n)).parkSupplies n).siteCheck n
        if rest.isEmpty then drainDone p.1 d n else (p.1, d)
      else atBoundary p.1 d n
    else (m, d)

/-- VP_ISSUE with what bonded members then know (R97). -/
def vpIssued (m : Memory) (d : Dev) (n : Nat) (samples : List Sample) : Memory × Dev :=
  let c := d.get (K.CYCLE n)
  let p := vpIssue m d n samples
  if p.2.get (K.CYCLE n) = c then p else (p.1, p.2.bondKnown n)

/-! Edges. -/

/-- TRIG_IN_EDGE (R74, R84, R185, R390): the line's new level; starts, jump requests, Assay triggers and write lists. -/
def Dev.trigEdge (d : Dev) (line : Nat) (rising : Bool) : Dev :=
  if 8 ≤ line ∨ bit d.trigIn line = rising then d
  else
    let d : Dev := { d with trigIn := putBit d.trigIn line rising }
    let d := asyNotify d 1 line rising
    if rising then
      let d := (List.range 64).foldl (fun (d : Dev) n =>
        let src := d.get (K.START_SRC n)
        let st := d.get (K.SEQ_STATE n)
        if st = 1 ∧ src % 8 = 2 ∧ bits src 3 3 = line ∧ (d.run n).startTick = none then d.startSet n (d.tickIn (d.lead n))
        else if (st = 2 ∨ st = 3) ∧ bit (d.get (K.EXTJ_SRC n)) line then
          d.setRun n { d.run n with arrivals := (d.run n).arrivals + 1 }
        else d) d
      (List.range 16).foldl (fun (d : Dev) w =>
        if bit (d.get (K.WL_TRIG w)) 3 ∧ d.get (K.WL_TRIG w) % 8 = line then d.wlStart w else d) d
    else d

/-- TBUS_EDGE: a line of the trigger bus is asserted or released (R184, R185). -/
def Dev.tbusEdge (d : Dev) (line : Nat) (asserted : Bool) : Dev :=
  if 8 ≤ line ∨ bit d.tbus line = asserted then d
  else asyNotify { d with tbus := putBit d.tbus line asserted } 2 line asserted

/-- TRIG_OUT_END (R99): the pulse that ends first ends; the line falls with the last. -/
def Dev.trigOutEnd (d : Dev) (line : Nat) : Dev :=
  match Table.at d.trigOut [] line with
  | [] => d
  | [_] => { d with trigOut := Table.del d.trigOut line }
  | x :: l => { d with trigOut := Table.put d.trigOut line ((x :: l).erase (l.foldl min x)) }

end Sys2Proof.Machine
end

