-- ==== Sys2Proof/Machine/Overman.lean ====
section
/-! DEFINITION. Overman (R212 to R238): graph images, instances and parcels, the built-in operations, dispatch, ordered
release and result streams. -/

namespace Sys2Proof.Machine

def Dev.graph (d : Dev) (g : Nat) : Graph := Table.at d.ovm.graphs {} g
def Dev.setGraph (d : Dev) (g : Nat) (x : Graph) : Dev :=
  { d with ovm := { d.ovm with graphs := Table.put d.ovm.graphs g x } }

/-! Images (R215, R216, R219). -/

/-- A field of graph g's image header. -/
def graphField (m : Memory) (d : Dev) (g lo w : Nat) : Nat :=
  bits (Memory.rdVal m d.fresh (domAt (K.GRAPH_IMAGE g) 0) 64) lo w

/-- Node entry j of an image, from the bytes at `base`. -/
def nodeAt (rd : Nat → Nat → Nat) (j : Nat) : Node :=
  let e := rd (64 + 16 * j) 16
  let off := bits e 32 32
  ⟨bits e 120 8, bits e 116 4, bits e 112 4, bits e 92 10, bits e 102 10,
   (List.range (2 * bits e 64 8)).map (fun k => rd (off + 4 * k) 4)⟩

/-- The bytes of an image by offset and length. -/
def imageRd (m : Memory) (d : Dev) (g off n : Nat) : Nat := Memory.rdVal m d.fresh (domAt (K.GRAPH_IMAGE g) off) n

/-- The nodes of graph g's image. -/
def graphNodes (m : Memory) (d : Dev) (g : Nat) : List Node :=
  (List.range (graphField m d g 176 16)).map (nodeAt (imageRd m d g))

/-- The successors of a node; 0x3FF is none, also in a graph of 1,024 nodes (R216). -/
def Node.succs (x : Node) : List Nat := [x.succ0, x.succ1].filter (fun s => s != 0x3FF)

/-- Predecessors of node j, ascending; one that names it twice counts twice. -/
def predsOf (nodes : List Node) (j : Nat) : List Nat :=
  nodes.zipIdx.flatMap (fun p => (p.1.succs.filter (· == j)).map (fun _ => p.2))

/-- Inputs of a node, first input first (R217): graph input i as 4096 + i, else a predecessor. -/
def nodeInputs (nodes : List Node) (j : Nat) : List Nat :=
  match nodes[j]? with
  | none => []
  | some x => (if x.inp < 4 then [4096 + x.inp] else []) ++ predsOf nodes j

/-- Nodes reached from the marked ones in as many rounds as there are nodes. -/
def reachN (nodes : List Node) : Nat → List Nat → List Nat
  | 0, l => l
  | k + 1, l =>
    let nxt := l.flatMap (fun j => match nodes[j]? with
      | some x => x.succs.filter (fun s => decide (s < nodes.length))
      | none => [])
    reachN nodes k ((l ++ nxt).dedup)

/-- The successors form no cycle (R216): no node reaches itself. -/
def acyclic (nodes : List Node) : Bool :=
  (List.range nodes.length).all (fun j => match nodes[j]? with
    | some x => !((reachN nodes nodes.length (x.succs.filter (fun s => decide (s < nodes.length)))).contains j)
    | none => true)

/-- Parameter i of a node. -/
def Node.param (x : Node) (i : Nat) : Nat := x.params.getD i 0

/-- The FOLD_BITMAP node a REPAIR_ANALYSE node takes its input from. -/
def foldOf (nodes : List Node) (j : Nat) : Option Node :=
  (predsOf nodes j).findSome? (fun p => nodes[p]?.bind (fun x => if x.op = 1 then some x else none))

/-- Parameters within the ranges of R219 and R222. -/
def Node.paramsOk (x : Node) (nodes : List Node) (j : Nat) : Bool :=
  let p := x.param
  match x.op with
  | 1 => decide (5 ≤ x.params.length) && decide (1 ≤ p 0) && decide (p 0 ≤ 24) && decide (1 ≤ p 1) && decide (p 1 ≤ 24) &&
      decide (p 2 ≤ 8) && decide (p 3 ≤ 255) && decide (1 ≤ p 4) && decide (p 4 ≤ 64) &&
      decide (p 0 + p 1 + p 2 + log2Ceil (p 4) ≤ 34)
  | 2 => (match foldOf nodes j with
      | some f => decide (4 ≤ x.params.length) && decide (1 ≤ p 0) && decide (p 0 ≤ min 16 (f.param 0)) &&
          decide (p 1 ≤ min 10 (f.param 1)) && decide (p 2 ≤ 4) && decide (p 3 ≤ 4)
      | none => false)
  | 4 => decide (2 ≤ x.params.length) && decide (p 0 ≤ 16) && decide (2 + 2 * p 0 ≤ x.params.length) && decide (p 1 < 65536) &&
      (List.range (p 0)).all (fun i =>
        let r := p (2 + 2 * i) + 2 ^ 32 * p (3 + 2 * i)
        decide (bits r 44 4 ≤ 5) && bits r 32 10 == 0)
  | 5 => decide (1 ≤ x.params.length) && decide (p 0 ≤ 64)
  | _ => true

/-- A node entry holds no reserved value, names existing successors, and has one or two inputs (R216). -/
def nodeOk (nodes : List Node) (raw j : Nat) : Bool :=
  match nodes[j]? with
  | none => false
  | some x =>
    ([1, 2, 3, 4, 5, 6, 7, 0x80].contains x.op) && (decide (x.inp ≤ 3) || x.inp == 15) && (decide (x.out ≤ 7) || x.out == 15) &&
    bits raw 72 20 == 0 && bits raw 32 32 % 8 == 0 && (x.op == 0x80 || bits raw 0 32 == 0) &&
    x.succs.all (fun s => decide (s < nodes.length)) &&
    decide (1 ≤ (nodeInputs nodes j).length) && decide ((nodeInputs nodes j).length ≤ 2) && x.paramsOk nodes j

/-- The check of a complete graph image of `len` bytes (R216). -/
def graphImageCheck (m : Memory) (d : Dev) (g len : Nat) : Except Abort Unit := do
  let f := graphField m d g
  need (f 32 8 == 1 && f 48 16 == 0) .version
  need (f 256 32 == len) .length
  let bytes := Memory.rdN m d.fresh (domAt (K.GRAPH_IMAGE g) 0) len
  need (f 0 32 == 0x48505247 && f 480 32 == crc32 (bytes.take 60) && f 320 32 == crc32 (bytes.drop 64)) .range
  need (f 64 112 == 0 && f 416 64 == 0 && decide (1 ≤ f 176 16) && decide (f 176 16 ≤ 1024) && decide (f 352 32 ≤ 64)) .range
  let nodes := graphNodes m d g
  need (acyclic nodes && (List.range nodes.length).all (fun j => nodeOk nodes (imageRd m d g (64 + 16 * j) 16) j)) .range

/-- The bytes of graph g's image. -/
def graphBytes (m : Memory) (d : Dev) (g : Nat) : List Byte :=
  Memory.rdN m d.fresh (domAt (K.GRAPH_IMAGE g) 0) (graphField m d g 256 32)

/-- The row of an object; those of a graph-defined parameter stand in the parameter table of its graph's image (R238). -/
def Dev.rowAt (d : Dev) (m : Memory) (idx sub : Nat) : Option Row :=
  if 0x4000 ≤ idx ∧ idx ≤ 0x4FFF then
    let image := graphBytes m d ((idx - 0x4000) / 64)
    let p := (idx - 0x4000) % 64
    if sub = 0 then some ⟨0, 0, .u 1, .const, k0 (Config.paramTop image p).toNat, any⟩
    else match Config.paramRow image p sub with
      | none => none
      | some (c, ro) => (Ty.ofCode c).map (fun ty =>
          ⟨sub, sub, ty, if ro then .ro else .rws, k0 (Config.paramDefault image p sub).toNat, fun _ v => Config.paramIn image p sub v⟩)
  else rowOf idx sub

/-- A graph-defined parameter written since the image was loaded replaces the node parameter it maps onto (R238). -/
def withParam (image : List Byte) (g : Nat) (nodes : List Node) (w : Nat × Nat) : List Node :=
  let i := w.1 / 256 - 0x4000
  if 0x4000 ≤ w.1 / 256 ∧ i / 64 = g then
    (let at' := Config.paramPlace image (i % 64) (w.1 % 256)
     nodes.zipIdx.map (fun q => if q.2 = at'.1 then { q.1 with params := q.1.params.set at'.2 (w.2 % 2 ^ 32) } else q.1))
  else nodes

/-- The nodes START runs: the image's, under the graph-defined parameters written (R238). -/
def startNodes (m : Memory) (d : Dev) (g : Nat) : List Node :=
  (d.objs.filter (fun w => decide (0x400000 + 64 * 256 * g ≤ w.1) && decide (w.1 < 0x400000 + 64 * 256 * (g + 1)))).foldl
    (withParam (graphBytes m d g) g) (graphNodes m d g)

/-! Clusters (R213, R214). -/

/-- The mask of a graph holds cluster k. -/
def Dev.maskHas (d : Dev) (g k : Nat) : Bool := bit (d.get (K.CLUSTER_MASK g)) k

/-- Graphs that are RUNNING. -/
def Dev.runGraphs (d : Dev) : List Nat := (List.range 64).filter (fun g => d.get (K.GRAPH_STATE g) == 2)

/-- CLUSTER_CMD OFFLINE (R214): flows whose home was in the cluster lose it. -/
def clusterOffline (d : Dev) (k : Nat) : Except Abort Dev := do
  need (d.get (K.CLUSTER_STATE k) == 1 && (d.runGraphs).all (fun g => !(d.maskHas g k))) .state
  let strip (x : Graph) : Graph :=
    { x with flows := x.flows.map (fun f => match f.home with
        | some c => if c / 4 = k then { f with home := none } else f
        | none => f) }
  let o : Overman := { d.ovm with graphs := d.ovm.graphs.map (fun p => (p.1, strip p.2)) }
  .ok (({ d with ovm := o } : Dev).set (K.CLUSTER_STATE k) 3 |>.event 270 1 k)

/-- CLUSTER_CMD ONLINE (R214, R421, R422). -/
def clusterOnline (d : Dev) (k : Nat) : Except Abort Dev := do
  need (!(d.underTest [42 + k] none)) .busy
  need (d.get (K.CLUSTER_STATE k) == 3 && !(d.marked [42 + k] none)) .state
  .ok ((d.set (K.CLUSTER_STATE k) 1).event 270 1 k)

/-! Starting, draining and stopping graphs (R225, R226). -/

/-- The graph's used inputs. -/
def usedInputs (nodes : List Node) : List Nat := (List.range 4).filter (fun i => nodes.any (fun x => x.inp == i))

/-- Bytes of a FOLD_BITMAP node's slot (R220). -/
def slotBytes (x : Node) : Nat := roundUp (ceilDiv (2 ^ (x.param 0 + x.param 1 + x.param 2) * x.param 4) 8) 4096

/-- Cluster memory reserved in cluster k (R213 CMEM_USED). -/
def Dev.cmemUsed (d : Dev) (k : Nat) : Nat := ((d.runGraphs.filter (fun g => d.maskHas g k)).map (fun g => (d.graph g).cmem)).sum

/-- Queue q is an input of a graph other than g, a stream or a Sump region. -/
def Dev.inputTaken (d : Dev) (g q : Nat) : Bool :=
  d.qSump q || d.qStream q || (List.range 64).any (fun h => h != g && d.get (K.GRAPH_STATE h) != 0 &&
    (List.range 4).any (fun i => [1, 2].contains (bits (d.get (K.IN_CFG h i)) 28 4) && d.get (K.IN_CFG h i) % 256 == q))

/-- The checks of START in order (R226, R266, R283, R294, R421, R422). -/
def graphChecks (m : Memory) (d : Dev) (g : Nat) : Except Abort Unit := do
  need (!(d.loading [K.GRAPH_IMAGE g])) .busy
  need d.canArm .state
  let mask := d.get (K.CLUSTER_MASK g)
  d.gate (46 :: (setBits 4 mask).map (42 + ·)) none
  need (d.get (K.GRAPH_STATE g) == 0) .state
  need (d.get (K.GRAPH_STATUS g) % 16 == 2) .state
  need (d.domOn 46 && (setBits 4 mask).all (fun k => d.get (K.CLUSTER_STATE k) == 1)) .state
  let nodes := startNodes m d g
  let kind (i : Nat) : Nat := bits (d.get (K.IN_CFG g i)) 28 4
  let folds := nodes.filter (fun x => x.op == 1)
  let cls := d.get (K.GRAPH_CLASS g)
  need (mask % 16 != 0 && (decide (cls < 64) || cls == 0xFF) && (List.range 4).all (fun i => decide (kind i ≤ 3)) &&
    (folds.isEmpty || decide (cls < 64)) &&
    nodes.all (fun x => !([1, 3, 5].contains x.op) || decide (4 ≤ x.inp) || kind x.inp == 2 || kind x.inp == 0)) .range
  let cm := graphField m d g 384 32
  need (decide (((d.runGraphs).map (fun h => (d.graph h).nodes.length)).sum + nodes.length ≤ 1024) &&
    decide (((d.runGraphs).map (fun h => d.get (K.FLOW_QUOTA h))).sum + d.get (K.FLOW_QUOTA g) ≤ 16384) &&
    (setBits 4 mask).all (fun k => decide (d.cmemUsed k + cm ≤ 3670016))) .range
  let used := usedInputs nodes
  let inQ := (used.filter (fun i => kind i == 1 || kind i == 2)).map (fun i => d.get (K.IN_CFG g i) % 256)
  need (used.all (fun i => kind i != 0 && (kind i != 3 || decide (d.get (K.IN_CFG g i) % 256 < 32)) &&
      (kind i != 2 || d.get (K.Q_SIZE (d.get (K.IN_CFG g i) % 256)) == 9)) &&
    nodes.all (fun x => decide (8 ≤ x.out) || (decide (d.get (K.OUT_Q g x.out) < 256) && !(inQ.contains (d.get (K.OUT_Q g x.out)))))) .range
  need (inQ.all (fun q => !(d.inputTaken g q))) .busy
  need (folds.isEmpty || d.get K.DDR_STATE == 3) .state
  need (folds.all (fun x => d.inArea K.OVM_AREA_BASE K.OVM_AREA_MIB (d.get (K.BITMAP_BASE g))
    (d.get (K.WINDOW_SIZE cls) * slotBytes x))) .range

/-- An accepted START (R225). -/
def graphStarted (m : Memory) (d : Dev) (g : Nat) : Dev :=
  let d := ((d.set (K.INSTANCES g) 0).set (K.OPS_DONE g) 0).set (K.GRAPH_FAULT g) 0
  let cls := d.get (K.GRAPH_CLASS g)
  let o : Overman := { d.ovm with waited := d.ovm.waited.filter (· != cls) }
  (({ d with ovm := o } : Dev).setGraph g { nodes := startNodes m d g, cmem := graphField m d g 384 32 }).set (K.GRAPH_STATE g) 2

def graphStart (m : Memory) (d : Dev) (g : Nat) : Except Abort Dev := do
  graphChecks m d g
  .ok (graphStarted m d g)

/-- GRAPH_CMD STOP (R225). -/
def graphStop (d : Dev) (g : Nat) : Except Abort Dev := do
  need (d.get (K.GRAPH_STATE g) == 2 || d.get (K.GRAPH_STATE g) == 4) .state
  need ((List.range 4).all (fun i => bits (d.get (K.IN_CFG g i)) 28 4 != 2 || !(d.qLogged (d.get (K.IN_CFG g i) % 256)))) .state
  let d := d.graphDrop g
  .ok (({ d with ovm := { d.ovm with graphs := Table.del d.ovm.graphs g } } : Dev).set (K.GRAPH_STATE g) 0)

/-- A draining graph whose last open instance is released enters DONE, and its flow contexts are released (R218, R225). -/
def Dev.drainCheck (d : Dev) (g : Nat) : Dev :=
  if d.get (K.GRAPH_STATE g) = 2 ∧ (d.graph g).drain ∧ (d.graph g).insts.isEmpty then
    ((d.setGraph g { d.graph g with flows := [] }).set (K.GRAPH_STATE g) 4).event 268 1 g
  else d

/-- GRAPH_CMD DRAIN. -/
def graphDrain (d : Dev) (g : Nat) : Except Abort Dev := do
  need (d.get (K.GRAPH_STATE g) == 2 && !(d.graph g).drain) .state
  .ok ((d.setGraph g { d.graph g with drain := true }).drainCheck g)

/-! Operations that become ready (R217, R231). -/

/-- Nodes an instance's data reaches. -/
def nodesFor (nodes : List Node) (input : Nat) : List Nat :=
  reachN nodes nodes.length ((List.range nodes.length).filter (fun j => match nodes[j]? with | some x => x.inp == input | none => false))

/-- The inputs of a node that carry data of an instance. -/
def inputsFor (nodes : List Node) (input j : Nat) : List Nat :=
  (nodeInputs nodes j).filter (fun x => x == 4096 + input || (decide (x < 4096) && (nodesFor nodes input).contains x))

/-- A parcel reaches a node from `src`; `again`: by the second of two successors that name the node, its second input. -/
def Inst.give (x : Inst) (nodes : List Node) (j src : Nat) (again : Bool) (p : Parcel) : Inst :=
  if (inputsFor nodes x.input j).head? = some src ∧ !again then { x with first := x.first ++ [(j, p)] }
  else { x with second := x.second ++ [(j, p)] }

/-- Ready operations placed on a Collier. -/
def Dev.readyOn (d : Dev) (c : Nat) : Nat := (d.ovm.ready.filter (fun o => o.on == c)).length

/-- Where an operation of a flow is placed (R231). -/
def Dev.placeOp (d : Dev) (g flow : Nat) : Nat :=
  let ok (c : Nat) : Bool := d.maskHas g (c / 4) && d.get (K.CLUSTER_STATE (c / 4)) == 1
  let home := ((d.graph g).flows.find? (fun f => f.id == flow)).bind (·.home)
  let least : Nat := ((List.range 16).filter ok).foldl (fun b c => if b = 16 ∨ d.readyOn c < d.readyOn b then c else b) 16
  match home with
  | some c => if ok c then c else least
  | none => least

/-- The next operation of a node, if its parcel and, for a final one, its second input are present; BIN_DECIDE runs once,
on everything (R217, R219). Gives the parcel, the items of the second input, and the instance after it. -/
def Inst.nextOp (x : Inst) (nodes : List Node) (j : Nat) : Option (Parcel × List Item × Inst) :=
  if x.busy.contains j || (Table.at x.acc {} j).done then none
  else
    let mine := (x.first.filter (fun p => p.1 == j)).map (·.2)
    let sec := (x.second.filter (fun p => p.1 == j)).map (·.2)
    let two := 2 ≤ (inputsFor nodes x.input j).length
    let secReady := !two || sec.any (·.last)
    let items := sec.flatMap (·.items)
    match mine with
    | [] => none
    | p :: rest =>
      if (match nodes[j]? with | some y => y.op == 4 | none => false) then
        if mine.any (·.last) && secReady then
          some (⟨[], mine.flatMap (·.items), true⟩, items, { x with first := x.first.filter (fun q => q.1 != j), busy := j :: x.busy })
        else none
      else if p.last && !secReady then none
      else some (p, if p.last then items else [],
        { x with first := x.first.filter (fun q => q.1 != j) ++ rest.map (fun q => (j, q)), busy := j :: x.busy })

/-- Every operation of an instance that has become ready is placed. -/
def Dev.makeReady (d : Dev) (g id : Nat) : Dev :=
  let nodes := (d.graph g).nodes
  (List.range nodes.length).foldl (fun (d : Dev) j =>
    match (d.graph g).insts.find? (fun x => x.id == id) with
    | none => d
    | some x =>
      match x.nextOp nodes j with
      | none => d
      | some (p, items, x') =>
        let gr := d.graph g
        let d := d.setGraph g { gr with insts := gr.insts.map (fun y => if y.id = id then x' else y) }
        let o := d.ovm
        let op : Op := { id := o.nextOp, graph := g, inst := id, node := j, parcel := p, second := items, on := d.placeOp g x.flow,
                         urgent := d.get (K.GRAPH_PRIO g) == 1, resv := 0 }
        { d with ovm := { o with ready := o.ready ++ [op], nextOp := o.nextOp + 1 } }) d

/-- A parcel of an instance's graph input goes to the nodes it feeds. -/
def Dev.feed (d : Dev) (g id : Nat) (p : Parcel) : Dev :=
  let gr := d.graph g
  let step (x : Inst) : Inst :=
    (List.range gr.nodes.length).foldl (fun x j => match gr.nodes[j]? with
      | some y => if y.inp = x.input then x.give gr.nodes j (4096 + x.input) false p else x
      | none => x) x
  (d.setGraph g { gr with insts := gr.insts.map (fun x => if x.id = id then step x else x) }).makeReady g id

/-! Instances (R218, R227). -/

/-- Entries of a class in use. -/
def Dev.classUsed (d : Dev) (k : Nat) : List Nat := Table.at d.ovm.entries [] k

/-- Entry numbers of a class held by instances. -/
def Dev.entryNos (d : Dev) (k : Nat) : List Nat :=
  (d.runGraphs.filter (fun g => d.get (K.GRAPH_CLASS g) == k)).flatMap (fun g => (d.graph g).insts.map (·.entry))

/-- Whether an instance may be admitted: its class has a free entry (R227). -/
def Dev.classFree (d : Dev) (g : Nat) : Bool :=
  let k := d.get (K.GRAPH_CLASS g)
  decide (64 ≤ k) || decide ((d.classUsed k).length < d.get (K.WINDOW_SIZE k))

/-- An admission waits for an entry (R227, R233). -/
def Dev.classWait (d : Dev) (g i : Nat) : Dev :=
  let gr := d.graph g
  let k := d.get (K.GRAPH_CLASS g)
  if gr.waits.contains i then d
  else
    let d := (d.setGraph g { gr with waits := i :: gr.waits }).bump (K.WINDOW_WAITS k)
    if d.ovm.waited.contains k then d
    else ({ d with ovm := { d.ovm with waited := k :: d.ovm.waited } } : Dev).event 269 1 k

/-- A new instance of input i and a key (R218, R227): its flow, a lowest free entry and the next sequence number; or none
where the quota of flows is used up. -/
def Dev.openInst (d : Dev) (g i key : Nat) : Dev × Option Nat :=
  let gr := d.graph g
  let known := gr.flows.find? (fun f => f.input == i && f.key == key)
  if known.isNone ∧ d.get (K.FLOW_QUOTA g) ≤ gr.flows.length then
    (((d.setGraph g { gr with waits := gr.waits.filter (· != i) }).bump (K.FLOWS_REFUSED g)).event 271 1 g, none)
  else
    let k := d.get (K.GRAPH_CLASS g)
    let ordered := decide (k < 64)
    let fid := match known with
      | some f => f.id
      | none => ((List.range 16384).find? (fun x => gr.flows.all (fun f => f.id != x))).getD 0
    let flow : Flow := match known with | some f => f | none => ⟨fid, i, key, 0, none⟩
    let flow' := { flow with nextS := if ordered then flow.nextS + 1 else 0 }
    let e := if ordered then ((List.range 1024).find? (fun x => !((d.entryNos k).contains x))).getD 0 else 0
    let id := gr.nextI
    let x : Inst := { id := id, input := i, key := key, flow := fid, seq := flow.nextS, entry := e }
    let flows := if known.isSome then gr.flows.map (fun f => if f.id = fid then flow' else f) else gr.flows ++ [flow']
    let d := d.setGraph g { gr with insts := gr.insts ++ [x], flows := flows, nextI := id + 1, waits := gr.waits.filter (· != i) }
    let d : Dev := if ordered then
        { d with ovm := { d.ovm with entries := Table.put d.ovm.entries k (d.classUsed k ++ [g * 2 ^ 32 + id]) } }
      else d
    (if ordered then d.keepMax (K.PEAK k) (d.classUsed k).length else d, some id)

/-- An instance replaced. -/
def Dev.setInst (d : Dev) (g : Nat) (x : Inst) : Dev :=
  d.setGraph g { d.graph g with insts := (d.graph g).insts.map (fun y => if y.id = x.id then x else y) }

/-- The open parcel of an instance closes (R218). -/
def Dev.closeParcel (d : Dev) (g : Nat) (x : Inst) (last : Bool) : Dev :=
  (d.setInst g { x with openP := [] }).feed g x.id ⟨x.openP, [], last⟩

/-- A fail record joins its instance's open parcel (R218). -/
def Dev.addRecord (d : Dev) (g : Nat) (x : Inst) (raw : Nat) : Dev :=
  let kind := bits raw 129 3
  let rs := bits raw 48 16
  let x := { x with openP := x.openP ++ [raw], nextR := (rs + 1) % 65536, gaps := if rs = x.nextR then x.gaps else x.gaps + 1 }
  if kind = 4 then
    d.closeParcel g { x with ended := true, endTb0 := d.tb0, endInc := bit raw 144 } true
  else if d.get (K.PARCEL_RECORDS g) ≤ x.openP.length then d.closeParcel g x false
  else d.setInst g x

/-- The raw value of words, lowest first. -/
def wordsRaw (l : List (Nat × Bool)) : Nat := l.zipIdx.foldl (fun a p => a + p.1.1 * 2 ^ (64 * p.2)) 0

/-- A FAILLOG input takes the oldest record of its queue. -/
def Dev.takeLog (d : Dev) (g i q : Nat) : Dev :=
  let raw := wordsRaw ((d.tarn q).words.take 4)
  let key := bits raw 72 7
  let kind := bits raw 129 3
  let gr := d.graph g
  let pop (d : Dev) : Dev := d.qTake q 4
  if d.get (K.GRAPH_STATE g) ≠ 2 then (pop d).bump (K.ORPHAN_RECORDS g)
  else if kind = 3 then
    if gr.drain then (pop d).bump (K.ORPHAN_RECORDS g)
    else if !(d.classFree g) then d.classWait g i
    else
      let r := (pop d).openInst g i key
      match r.2 with
      | none => r.1.setGraph g { r.1.graph g with refused := (i, key) :: (r.1.graph g).refused }
      | some id =>
        (match (r.1.graph g).insts.find? (fun x => x.id == id) with
         | some x => r.1.addRecord g { x with nextR := bits raw 48 16 } raw
         | none => r.1)
  else
    match gr.insts.find? (fun x => x.input == i && x.key == key && !x.ended) with
    | some x => (pop d).addRecord g x raw
    | none =>
      if gr.refused.contains (i, key) then
        (pop d).setGraph g { gr with refused := if kind = 4 then gr.refused.filter (· != (i, key)) else gr.refused }
      else (pop d).bump (K.ORPHAN_RECORDS g)

/-- A QUEUE or ALARM input gives an instance with one parcel. -/
def Dev.takeOne (d : Dev) (g i key : Nat) (words : List Nat) (pop : Dev → Dev) : Dev :=
  if (d.graph g).drain then d
  else if !(d.classFree g) then d.classWait g i
  else
    let r := (pop d).openInst g i key
    match r.2 with
    | none => r.1
    | some id =>
      let d := match (r.1.graph g).insts.find? (fun x => x.id == id) with
        | some x => r.1.setInst g { x with ended := true }
        | none => r.1
      d.feed g id ⟨words, [], true⟩

/-- INPUT_RECORD (R218): the next record, packet or firing of a graph input. -/
def Dev.inputRecord (d : Dev) (g i : Nat) : Dev :=
  let cfg := d.get (K.IN_CFG g i)
  let q := cfg % 256
  let used := (usedInputs (d.graph g).nodes).contains i
  match bits cfg 28 4 with
  | 2 => if d.get (K.GRAPH_STATE g) ≠ 0 ∧ used ∧ 4 ≤ (d.tarn q).count then d.takeLog g i q else d
  | 1 =>
    if d.get (K.GRAPH_STATE g) = 2 ∧ used then
      match firstPacket (d.tarn q).held with
      | some p => d.takeOne g i (if bit cfg 27 then ((p.map (·.1)).headD 0) % 65536 else 0) (p.map (·.1)) (fun d => d.qTake q p.length)
      | none => d
    else d
  | 3 =>
    if d.get (K.GRAPH_STATE g) = 2 ∧ used then
      match (d.graph g).alarms.find? (fun a => a.1 == i) with
      | some a => d.takeOne g i (q % 32) [q % 32, a.2 % 2 ^ 64] (fun d =>
          d.setGraph g { d.graph g with alarms := (d.graph g).alarms.erase a })
      | none => d
    else d
  | _ => d

/-- A firing of an alarm slot waits at every ALARM input that names it (R218, R351). -/
def Dev.graphAlarm (d : Dev) (slot time : Nat) : Dev :=
  d.runGraphs.foldl (fun d g =>
    (usedInputs (d.graph g).nodes).foldl (fun d i =>
      let cfg := d.get (K.IN_CFG g i)
      if bits cfg 28 4 = 3 ∧ cfg % 32 = slot ∧ !(d.graph g).drain then
        d.setGraph g { d.graph g with alarms := (d.graph g).alarms ++ [(i, time)] }
      else d) d) d

/-- PARCEL_WAIT_EXPIRY (R218): a FAILLOG parcel closes. -/
def Dev.parcelWait (d : Dev) (g id : Nat) : Dev :=
  match (d.graph g).insts.find? (fun x => x.id == id) with
  | some x => if d.get (K.GRAPH_STATE g) = 2 ∧ !x.openP.isEmpty then d.closeParcel g x false else d
  | none => d

/-! Dispatch (R229 to R232). -/

/-- The instance is the head of its flow; an unordered graph holds nothing back (R227, R228). -/
def Dev.isHead (d : Dev) (g id : Nat) : Bool :=
  let gr := d.graph g
  decide (64 ≤ d.get (K.GRAPH_CLASS g)) ||
  (match gr.insts.find? (fun x => x.id == id) with
   | some x => (gr.insts.filter (fun y => y.flow == x.flow)).all (fun y => decide (id ≤ y.id))
   | none => true)

/-- Bytes of held items of an instance: payloads, without the two header words (log entry 52). -/
def heldBytes (x : Inst) : Nat := (x.held.map (fun p => 8 * (p.2.length - 2))).sum

/-- Bytes a graph has in the release store: items of instances that are no head, and items the store has still to write
(R227, R228). -/
def Graph.storeBytes (gr : Graph) : Nat :=
  (gr.insts.map heldBytes).sum + ((gr.outq.filter (fun i => i.by_.isNone)).map (fun i => 8 * (i.words.length - i.head))).sum

/-- STORE_USED (R230): bytes held or reserved. -/
def Dev.storeUsed (d : Dev) : Nat :=
  (d.ovm.graphs.map (fun p => p.2.storeBytes)).sum + (d.ovm.running.map (fun p => p.2.resv)).sum

/-- An operation may be dispatched as far as the release store goes (R229). -/
def Dev.eligible (d : Dev) (o : Op) : Bool := d.isHead o.graph o.inst || decide (d.storeUsed + 262144 ≤ 4194304)

/-- The operation a free Collier takes, and whether it steals it (R231). -/
def Dev.pickOp (d : Dev) (c : Nat) : Option (Op × Bool) :=
  let st := d.get K.OVM_STATE
  let mine := d.ovm.ready.filter (fun o => o.on == c && d.eligible o)
  let own := match mine.find? (·.urgent) with
    | some o => some o
    | none => if st = 1 then mine.head? else none
  match own with
  | some o => some (o, false)
  | none =>
    let same := (List.range 16).filter (fun x => x != c && x / 4 == c / 4)
    let rest := if d.get K.CROSS_STEAL = 1 then (List.range 16).filter (fun x => x / 4 != c / 4) else []
    let take (x : Nat) : Option Op :=
      if d.get K.STEAL_THRESHOLD < d.readyOn x then
        d.ovm.ready.find? (fun o => o.on == x && d.eligible o && d.maskHas o.graph (c / 4) && (st == 1 || o.urgent))
      else none
    ((same ++ rest).findSome? take).map (fun o => (o, true))

/-- A ready operation of a free Collier waits for a reservation; the first wait since STORE_PEAK was read raises
STORE_FULL (R229, R233). -/
def Dev.storeWait (d : Dev) (c : Nat) : Dev :=
  if (d.ovm.ready.any (fun o => o.on == c && !(d.eligible o))) && !d.ovm.fullEv then
    ({ d with ovm := { d.ovm with fullEv := true } } : Dev).event 271 2 0
  else d

/-- OPERATION_DISPATCH (R229, R231). -/
def Dev.dispatch (d : Dev) (c : Nat) : Dev :=
  if 16 ≤ c ∨ (Table.find d.ovm.running c).isSome ∨ d.get (K.CLUSTER_STATE (c / 4)) ≠ 1 ∨ d.get K.OVM_STATE = 3 then d
  else
  let d := d.storeWait c
  match d.pickOp c with
  | some (o, stolen) =>
    let resv := if d.isHead o.graph o.inst then 0 else 262144
    let ov := d.ovm
    let d : Dev := { d with ovm := { ov with ready := ov.ready.filter (fun x => x.id != o.id), running := Table.put ov.running c { o with on := c, resv := resv } } }
    let d := d.keepMax K.STORE_PEAK d.storeUsed
    if stolen then d.bump K.STOLEN_OPS else d
  | none => d

/-- AGE_PROMOTION (R232): a normal operation becomes urgent. -/
def Dev.agePromote (d : Dev) (id : Nat) : Dev :=
  if d.ovm.ready.any (fun o => o.id == id && !o.urgent) then
    ({ d with ovm := { d.ovm with ready := d.ovm.ready.map (fun o => if o.id = id then { o with urgent := true } else o) } } : Dev).bump K.AGED_OPS
  else d

/-! The built-in operations (R219 to R223). -/

/-- Words of a raw payload. -/
def rawWords (raw n : Nat) : List Nat := (List.range n).map (fun i => bits raw (64 * i) 64)

/-- The cells a FAIL record sets in a FOLD_BITMAP node's slot, as bit numbers (R220). -/
def foldCells (x : Node) (raw : Nat) : List Nat :=
  let part := bits raw 133 2
  let lx := bits raw 168 24 % 2 ^ x.param 0
  let ly := bits raw 144 24 % 2 ^ x.param 1
  let lz := bits raw 136 8 % 2 ^ x.param 2
  let qs := ((setBits 64 (bits raw 192 64)).map (64 * part + ·)).filter (fun q => decide (x.param 3 ≤ q) && decide (q < x.param 3 + x.param 4))
  qs.map (fun q => ((lz * 2 ^ x.param 1 + ly) * 2 ^ x.param 0 + lx) * x.param 4 + (q - x.param 3))

/-- FOLD_BITMAP: one record into the slot at `base` (R220): the DDR4 bytes, and the cells newly set. -/
def foldRecord (m : Memory) (d : Dev) (x : Node) (base raw : Nat) : Memory × Dev × Nat :=
  (foldCells x raw).foldl (fun (s : Memory × Dev × Nat) b =>
    let a := base + b / 8
    let old := (Memory.rd s.1 s.2.1.fresh (ddrAt a)).toNat
    let w := ddrWrite s.1 s.2.1 4 a [BitVec.ofNat 8 (setBit old (b % 8))]
    (w.1, w.2, s.2.2 + b2n (!(bit old (b % 8))))) (m, d, 0)

/-- The failing cells of a repair block: (row, column), a column being io × 1024 + Y offset (R221). -/
abbrev CellList := List (Nat × Nat)

/-- Spares taken for a block: rows, columns, and whether a needed one was lacking. -/
structure Spares where
  rows : List Nat
  cols : List Nat
  bad  : Bool
  deriving DecidableEq, Repr

/-- Cells not covered. -/
def Spares.left (s : Spares) (l : CellList) : CellList := l.filter (fun c => !(s.rows.contains c.1) && !(s.cols.contains c.2))

/-- One pass of must-repair over rows, then columns, ascending (R221). -/
def mustPass (l : CellList) (nr nc : Nat) (s : Spares) : Spares :=
  let rows := (l.map (·.1)).dedup.mergeSort
  let cols := (l.map (·.2)).dedup.mergeSort
  let s := rows.foldl (fun (s : Spares) r =>
    if nc - s.cols.length < ((s.left l).filter (fun c => c.1 == r)).length then
      (if s.rows.length < nr then { s with rows := s.rows ++ [r] } else { s with bad := true })
    else s) s
  cols.foldl (fun (s : Spares) k =>
    if nr - s.rows.length < ((s.left l).filter (fun c => c.2 == k)).length then
      (if s.cols.length < nc then { s with cols := s.cols ++ [k] } else { s with bad := true })
    else s) s

/-- Sub-lists of at most k elements, in order. -/
def choices : Nat → List Nat → List (List Nat)
  | 0, _ => [[]]
  | _, [] => [[]]
  | k + 1, x :: l => (choices k l).map (x :: ·) ++ choices (k + 1) l

/-- Lexicographic order on lists of numbers. -/
def lexLt : List Nat → List Nat → Bool
  | [], [] => false
  | [], _ => true
  | _, [] => false
  | a :: l, b :: k => decide (a < b) || (a == b && lexLt l k)

/-- A choice of rows and columns is better: fewest spares, then rows, then lowest rows, then lowest columns. -/
def betterChoice (a b : List Nat × List Nat) : Bool :=
  let sa := a.1.length + a.2.length
  let sb := b.1.length + b.2.length
  decide (sa < sb) || (sa == sb && (decide (a.1.length < b.1.length) || (a.1.length == b.1.length &&
    (lexLt a.1 b.1 || (a.1 == b.1 && lexLt a.2 b.2)))))

/-- The analysis of one failing block (R221). -/
def analyseBlock (l : CellList) (nr nc : Nat) : Spares :=
  let s := (List.range 10).foldl (fun s _ => mustPass l nr nc s) ⟨[], [], false⟩
  if s.bad then s
  else
    let cells := s.left l
    let rl := nr - s.rows.length
    let cl := nc - s.cols.length
    if 2 * rl * cl < cells.length then { s with bad := true }
    else
      let rows := (cells.map (·.1)).dedup.mergeSort
      let cands := (choices rl rows).filterMap (fun rs =>
        let cs := ((cells.filter (fun c => !(rs.contains c.1))).map (·.2)).dedup.mergeSort
        if cs.length ≤ cl then some (rs, cs) else none)
      match cands with
      | [] => { s with bad := true }
      | c :: cs =>
        let b := cs.foldl (fun b x => if betterChoice x b then x else b) c
        ⟨(s.rows ++ b.1).mergeSort, (s.cols ++ b.2).mergeSort, false⟩

/-- Failing cells of a bitmap by repair block, ascending (Z, BY, BX). -/
def blocksOf (m : Memory) (d : Dev) (f x : Node) (base : Nat) : List ((Nat × Nat × Nat) × CellList) :=
  let xb := f.param 0
  let yb := f.param 1
  let io := f.param 4
  let bx := x.param 0
  let by0 := x.param 1
  let setAt (z y c o : Nat) : Bool :=
    let b := ((z * 2 ^ yb + y) * 2 ^ xb + c) * io + o
    bit (Memory.rd m d.fresh (ddrAt (base + b / 8))).toNat (b % 8)
  let ids := (List.range (2 ^ f.param 2)).flatMap (fun z => (List.range (2 ^ (yb - by0))).flatMap (fun by1 =>
    (List.range (2 ^ (xb - bx))).map (fun bx1 => (z, by1, bx1))))
  (ids.map (fun b =>
    (b, (List.range (2 ^ bx)).flatMap (fun r => (List.range io).flatMap (fun o => (List.range (2 ^ by0)).filterMap (fun y =>
      if setAt b.1 (b.2.1 * 2 ^ by0 + y) (b.2.2 * 2 ^ bx + r) o then some (r, 1024 * o + y) else none)))))).filter (fun p => !p.2.isEmpty)

/-- A REPAIR payload (R221). -/
def repairRaw (b : Nat × Nat × Nat) (cells : Nat) (s : Spares) : Nat :=
  let slot (lo : Nat) (l : List Nat) : Nat := ((List.range 4).map (fun k => fld (lo + 16 * k) 16 (l.getD k 0xFFFF))).sum
  slot 192 s.cols + slot 128 s.rows + fld 96 32 (min 0xFFFFFFFF cells) + fld 84 4 s.cols.length + fld 80 4 s.rows.length +
    fld 72 8 (b2n s.bad) + fld 64 8 b.1 + fld 32 32 b.2.1 + fld 0 32 b.2.2

/-- REPAIR_ANALYSE on a BITMAP item: its REPAIR items and REPAIR_SUM (R221). -/
def repairItems (m : Memory) (d : Dev) (f x : Node) (it : Item) : List (Nat × List Nat) :=
  let base := it.words.headD 0 % 2 ^ 40
  let noaddr := bits ((it.words).getD 1 0) 32 32
  let blocks := (blocksOf m d f x base).map (fun p => (p.1, p.2.length, analyseBlock p.2 (x.param 2) (x.param 3)))
  let un := (blocks.filter (fun p => p.2.2.bad)).length
  let rows := (blocks.map (fun p => p.2.2.rows.length)).sum
  let cols := (blocks.map (fun p => p.2.2.cols.length)).sum
  let status := if it.incompl then 3 else if noaddr ≠ 0 then 4 else if un ≠ 0 then 2 else if blocks.isEmpty then 0 else 1
  let sum := fld 96 32 blocks.length + fld 64 32 un + fld 48 16 (min 0xFFFF rows) + fld 32 16 (min 0xFFFF cols) +
    fld 16 16 (min 0xFFFF (blocks.length - 8191)) + status
  ((blocks.take 8191).map (fun p => (3, rawWords (repairRaw p.1 p.2.1 p.2.2) 4))) ++ [(4, rawWords sum 2)]

/-- COUNTS payload (R219). -/
def countsRaw (a : NodeAcc) (gaps : Nat) : Nat :=
  let e := a.endRec.getD 0
  fld 224 8 (bits e 144 8) + fld 216 8 (bits e 152 8) + fld 192 24 (bits e 168 24) + fld 128 64 (bits e 192 64) +
    fld 96 32 a.timeouts + fld 64 32 a.fails + fld 48 16 (min 0xFFFF gaps) + fld 0 48 (bits e 0 48)

/-- A value BIN_DECIDE tests (R222): all ones where its source item did not arrive. -/
def binValue (items : List Item) (v : Nat) : Nat :=
  let word (kind i lo w : Nat) : Nat := match items.find? (fun x => x.kind == kind) with
    | some x => bits (x.words.getD i 0) lo w
    | none => 2 ^ 64 - 1
  match v with
  | 0 => word 5 2 0 64
  | 1 => word 4 0 0 8
  | 2 => word 4 1 0 32
  | 3 => word 5 3 0 24
  | 4 => word 5 3 24 8
  | _ => word 5 3 32 8

/-- BIN_DECIDE: the first rule that is true, or DEFAULT_BIN (R222). -/
def binRaw (x : Node) (items : List Item) : Nat :=
  let rule (i : Nat) : Nat := x.param (2 + 2 * i) + 2 ^ 32 * x.param (3 + 2 * i)
  let holds (i : Nat) : Bool :=
    let r := rule i
    let v := binValue items (bits r 44 4)
    let t := bits r 0 32
    match bits r 42 2 with
    | 0 => v == t
    | 1 => v != t
    | 2 => decide (v ≤ t)
    | _ => decide (t ≤ v)
  let rep := binValue items 1
  let repB := if rep = 2 ^ 64 - 1 then 0xFF else rep
  match (List.range (x.param 0)).find? holds with
  | some i => fld 64 64 (binValue items (bits (rule i) 44 4)) + fld 32 16 (bits (rule i) 48 16) + fld 24 8 i + repB
  | none => fld 32 16 (x.param 1) + fld 24 8 0xFF + repB

/-- DATALOG payload header (R223). -/
def datalogRaw (a : NodeAcc) (x : Inst) (items : List Item) : Nat :=
  let e := a.endRec.getD 0
  let b := items.find? (fun i => i.kind == 6)
  let ff := a.firstFail
  let fr := a.first
  let rank (r : Nat) : Nat := 64 * bits r 133 2 + (lowestBit 64 0 (bits r 192 64)).getD 0
  fld 384 64 a.startTb1 + fld 377 1 (b2n ff.isSome) +
    (match ff with
     | some r => fld 376 1 (bits r 135 1) + fld 368 8 (bits r 136 8) + fld 344 24 (bits r 144 24) + fld 320 24 (bits r 168 24) + fld 312 8 (rank r)
     | none => 0) +
    fld 288 24 (bits e 168 24) +
    (match fr with
     | some r => fld 256 32 (bits r 96 32) + fld 240 16 (bits r 80 16) + fld 192 48 (bits r 0 48)
     | none => fld 192 96 (2 ^ 96 - 1)) +
    fld 128 64 (bits e 192 64) + fld 120 8 a.kept.length + fld 112 8 (bits e 152 8) + fld 104 8 (bits e 144 8) +
    (match b with
     | some i => fld 96 8 (bits (i.words.headD 0) 0 8) + fld 80 16 (bits (i.words.headD 0) 32 16)
     | none => fld 96 8 0xFF + fld 80 16 0xFFFF) +
    fld 0 80 x.endTb0

/-- What a record leaves with a node (R219, R223). -/
def NodeAcc.record (a : NodeAcc) (raw keep : Nat) : NodeAcc :=
  let kind := bits raw 129 3
  let hit := kind == 1 || kind == 2
  { a with
    fails := (if kind = 1 then satAdd 0xFFFFFFFF a.fails 1 else a.fails),
    timeouts := (if kind = 2 then satAdd 0xFFFFFFFF a.timeouts 1 else a.timeouts),
    noaddr := (if kind = 1 ∧ !(bit raw 135) then satAdd 0xFFFFFFFF a.noaddr 1 else a.noaddr),
    kept := (if hit && decide (a.kept.length < keep) then a.kept ++ [raw] else a.kept),
    first := (if hit && a.first.isNone then some raw else a.first),
    firstFail := (if kind = 1 ∧ a.firstFail.isNone then some raw else a.firstFail),
    startTb1 := (if kind = 3 then bits raw 192 64 else a.startTb1),
    endRec := (if kind = 4 then some raw else a.endRec) }

/-- The header of an item (R235), as two words. -/
def itemHeader (g : Nat) (x : Inst) (it : Item) : List Nat :=
  [fld 32 32 x.seq + fld 16 16 x.flow + fld 0 16 x.key,
   fld 56 8 it.kind + fld 50 6 g + fld 40 10 it.node + fld 32 1 (b2n it.incompl) + fld 0 32 (8 * it.words.length)]

/-- BITMAP items a REPAIR_ANALYSE node gets on either input, with the FOLD_BITMAP node each comes from (R219). -/
def bitmapsIn (nodes : List Node) (items : List Item) : List (Item × Node) :=
  items.filterMap (fun i => if i.kind = 2 then (nodes[i.node]?.bind (fun x => if x.op = 1 then some (i, x) else none)) else none)

/-- DDR4 bytes an operation reads, as (address, length): bitmap bytes that FOLD_BITMAP sets bits in and that its own first
parcel has not just cleared, and bitmaps that REPAIR_ANALYSE works on (R220, R221). -/
def opReads (d : Dev) (g : Nat) (x : Inst) (j : Nat) (node : Node) (p : Parcel) (second : List Item) : List (Nat × Nat) :=
  match node.op with
  | 1 =>
    let base := d.get (K.BITMAP_BASE g) + x.entry * slotBytes node
    if (Table.at x.acc {} j).begun ∨ d.get K.DDR_STATE = 5 then
      (p.data.filter (fun r => bits r 129 3 == 1 && bit r 135)).flatMap (fun r => (foldCells node r).map (fun b => (base + b / 8, 1)))
    else []
  | 2 => (bitmapsIn (d.graph g).nodes (p.items ++ second)).map (fun i => (i.1.words.headD 0 % 2 ^ 40, slotBytes i.2))
  | _ => []

/-- One operation: the items it emits (kind and payload words) and what the node keeps. `kernel`: the items of a kernel. -/
def runOp (m : Memory) (d : Dev) (g : Nat) (x : Inst) (j : Nat) (node : Node) (p : Parcel) (second : List Item) (kernel : List (List Nat)) :
    Memory × Dev × List (Nat × List Nat) × NodeAcc :=
  let a := Table.at x.acc {} j
  let keep := if node.op = 5 then node.param 0 else 0
  let a' := p.data.foldl (fun (a : NodeAcc) r => a.record r keep) a
  match node.op with
  | 1 =>
    let b := slotBytes node
    let base := d.get (K.BITMAP_BASE g) + x.entry * b
    let w := if a.begun then (m, d) else ddrWrite m d 4 base (List.replicate b 0)
    let s := (p.data.filter (fun r => bits r 129 3 == 1 && bit r 135)).foldl (fun (s : Memory × Dev × Nat) r =>
      let z := foldRecord s.1 s.2.1 node base r
      (z.1, z.2.1, s.2.2 + z.2.2)) (w.1, w.2, 0)
    let a' := { a' with begun := true, cells := satAdd 0xFFFFFFFF a.cells s.2.2 }
    (s.1, s.2.1, if p.last then [(2, rawWords (fld 96 32 a'.noaddr + fld 64 32 a'.cells + fld 0 40 base) 2)] else [], a')
  | 2 =>
    let maps := bitmapsIn (d.graph g).nodes (p.items ++ second)
    (m, maps.foldl (fun (d : Dev) i => d.ddrTraffic 4 (i.1.words.headD 0 % 2 ^ 40) (slotBytes i.2) false [] [] (1 + 1024 * g + j)) d,
      maps.flatMap (fun i => repairItems m d i.2 node i.1), a')
  | 3 => (m, d, if p.last then [(5, rawWords (countsRaw a' x.gaps) 4)] else [], a')
  | 4 => (m, d, if p.last then [(6, rawWords (binRaw node (p.items ++ second)) 2)] else [], a')
  | 5 => (m, d, if p.last then [(7, rawWords (datalogRaw a' x (p.items ++ second)) 8 ++ a'.kept.flatMap (fun r => rawWords r 4))] else [], a')
  | 6 =>
    let recs := bits (d.get (K.IN_CFG g x.input)) 28 4 == 2
    let own := if recs then p.data.flatMap (fun r => rawWords r 4) else p.data
    (m, d, [(1, own ++ p.items.flatMap (fun i => itemHeader g x i ++ i.words))], a')
  | 7 => (m, d, [(8, [bits d.tb0 0 64, bits d.tb0 64 16, d.tb1 % 2 ^ 64])], a')
  | _ => (m, d, kernel.map (fun w => (9, w)), a')

/-! Release (R228). -/

/-- An instance is complete: every node it reaches has completed its final parcel. -/
def Inst.complete (x : Inst) (nodes : List Node) : Bool :=
  x.ended && (nodesFor nodes x.input).all (fun j => (Table.at x.acc {} j).done)

/-- Complete heads are released, oldest first; an instance that becomes head has its held items written by the release
store in order. -/
def releaseN : Nat → Dev → Nat → Dev
  | 0, d, _ => d
  | fuel + 1, d, g =>
    let gr := d.graph g
    match gr.insts.find? (fun x => x.complete gr.nodes && d.isHead g x.id) with
    | none => d
    | some x =>
      let k := d.get (K.GRAPH_CLASS g)
      let rest := gr.insts.filter (fun y => y.id != x.id)
      let next := if k < 64 then rest.find? (fun y => y.flow == x.flow) else none
      let outs := match next with | some y => y.held | none => []
      let rest := rest.map (fun y => if next.map (·.id) = some y.id then { y with held := [] } else y)
      let d := d.setGraph g { gr with insts := rest, outq := gr.outq ++ outs.map (fun o => { out := o.1, words := o.2 }) }
      let d : Dev := { d with ovm := { d.ovm with entries := Table.put d.ovm.entries k ((d.classUsed k).filter (· != g * 2 ^ 32 + x.id)) } }
      let d := d.bump (K.INSTANCES g)
      releaseN fuel (if k < 64 then d.bump (K.RELEASED k) else d) g

/-- A fault of R234 on an operation of graph g: GRAPH_FAULT, event 268. -/
def graphFault (m : Memory) (d : Dev) (g fk node : Nat) : Memory × Dev :=
  let d := d.set (K.GRAPH_FAULT g) (fld 24 8 fk + fld 0 10 node)
  raiseFault m d fk (0x0C40 + g) g (some (268, 3, g)) [0x0C40 + g] []

/-- An uncorrectable error in memory of cluster k (R234): every RUNNING graph whose mask holds it, each with its event. -/
def cmemEcc (m : Memory) (d : Dev) (k node : Nat) : Memory × Dev :=
  let gs := d.runGraphs.filter (fun g => d.maskHas g k)
  let force := decide (1 ≤ d.get (K.FAULT_REACT 17))
  let d := gs.foldl (fun (d : Dev) g => d.set (K.GRAPH_FAULT g) (fld 24 8 17 + fld 0 10 node)) d
  let d := gs.tail.foldl (fun (d : Dev) g => raiseN 257 d 268 3 g force) d
  raiseFault m d 17 (0x0C01 + k) k (gs.head?.map (fun g => (268, 3, g))) (gs.map (0x0C40 + ·)) []

/-- The operation of Collier c ends: its node keeps what it has found, its items reach the successors as one parcel each,
the Collier is free and the flow's home, and complete heads are released (R217, R228, R231). -/
def Dev.opFinish (d : Dev) (c : Nat) : Dev :=
  match Table.find d.ovm.running c with
  | none => d
  | some o =>
    let free (d : Dev) : Dev := { d with ovm := { d.ovm with running := Table.del d.ovm.running c } }
    let g := o.graph
    let gr := d.graph g
    match o.result, gr.insts.find? (fun x => x.id == o.inst), gr.nodes[o.node]? with
    | some (items, acc), some x, some node =>
      let x := { x with acc := Table.put x.acc o.node { acc with done := o.parcel.last }, busy := x.busy.filter (· != o.node) }
      let give := !items.isEmpty || o.parcel.last
      let x := node.succs.zipIdx.foldl (fun (x : Inst) s =>
        if s.1 < gr.nodes.length ∧ give then
          x.give gr.nodes s.1 o.node (s.2 == 1 && node.succ0 == node.succ1) ⟨[], items, o.parcel.last⟩
        else x) x
      let flows := gr.flows.map (fun f => if f.id = x.flow then { f with home := some c } else f)
      let d := free (d.setGraph g { gr with flows := flows, insts := gr.insts.map (fun y => if y.id = x.id then x else y) })
      let d := (d.keepMax K.STORE_PEAK d.storeUsed).bump (K.OPS_DONE g)
      let d := d.bump (K.CORE_OPS (c / 4) (c % 4))
      let d := d.makeReady g x.id
      (releaseN ((d.graph g).insts.length + 1) d g).drainCheck g
    | _, _, _ => free d

/-- An operation completes (R217, R219, R228, R229, R231, R234): the operation has produced its items. Those of a head
instance for graph outputs go to their queues, and the operation ends once the last is written; those of another are
held, and it ends now. An uncorrectable DDR4 read stops it (R271). -/
def opProduce (m : Memory) (d : Dev) (c : Nat) (trap : Bool) (kernel : List (List Nat)) : Memory × Dev :=
  match Table.find d.ovm.running c with
  | none => (m, d)
  | some o =>
    let g := o.graph
    if o.result.isSome then (m, d)
    else
      let gr := d.graph g
      match gr.insts.find? (fun x => x.id == o.inst), gr.nodes[o.node]? with
      | some x, some node =>
        match (opReads d g x o.node node o.parcel o.second).find? (fun q => d.ddrBad q.1 q.2) with
        | some q =>
          let r := ddrReadBy m d 4 q.1 q.2 true (1 + 1024 * g + o.node)
          graphFault r.1 r.2 g 15 o.node
        | none =>
          if trap ∧ node.op = 0x80 then graphFault m d g 15 o.node
          else
            let r := runOp m d g x o.node node o.parcel o.second kernel
            let m : Memory := r.1
            let d : Dev := r.2.1
            let inc := decide (0 < x.gaps) || (x.endInc && o.parcel.last)
            let items : List Item := r.2.2.1.map (fun i => (⟨i.1, o.node, inc, i.2⟩ : Item))
            let bytes : Nat := (items.map (fun i => 8 * i.words.length)).sum
            if node.out < 8 ∧ 262144 < bytes then graphFault m d g 16 o.node
            else
              let head := d.isHead g x.id
              let outs := if node.out < 8 then items.map (fun i => itemHeader g x i ++ i.words) else []
              let gr := d.graph g
              let o := { o with result := some (items, r.2.2.2) }
              let d : Dev := { d with ovm := { d.ovm with running := Table.put d.ovm.running c o } }
              if head ∧ !outs.isEmpty then
                (m, d.setGraph g { gr with outq := gr.outq ++ outs.map (fun w => { out := node.out, words := w, by_ := some c }) })
              else
                (m, (d.setInst g { x with held := if head then x.held else x.held ++ outs.map (fun w => (node.out, w)) }).opFinish c)
      | _, _ => (m, { d with ovm := { d.ovm with running := Table.del d.ovm.running c } })

/-- OPERATION_COMPLETE with the ECC outcome of its cluster's memory (R213, R234): an uncorrectable one is CMEM_ECC; a corrected
one is logged, behind what the operation itself raises (R416). -/
def opComplete (m : Memory) (d : Dev) (c ecc : Nat) (trap : Bool) (kernel : List (List Nat)) : Memory × Dev :=
  match Table.find d.ovm.running c with
  | none => (m, d)
  | some o =>
    if ecc = 2 then cmemEcc m d (c / 4) o.node
    else
      let p := opProduce m d c trap kernel
      if ecc = 1 then
        raiseFault p.1 (p.2.bump (K.CMEM_ECC_CORR (c / 4))) 18 (0x0C01 + c / 4) (c / 4) (some (270, 2, c / 4)) [] []
      else p

/-- OP_TIMEOUT (R234); waiting for an output queue is not counted against it (R228). -/
def opTimeout (m : Memory) (d : Dev) (c : Nat) : Memory × Dev :=
  match Table.find d.ovm.running c with
  | some o => if o.result.isSome then (m, d) else graphFault m d o.graph 14 o.node
  | none => (m, d)

/-- Another graph is in the middle of an item to queue q: items are whole packets (R235). -/
def Dev.packetOpen (d : Dev) (g q : Nat) : Bool :=
  d.ovm.graphs.any (fun p => p.1 != g && p.2.outq.any (fun i => i.begun && d.get (K.OUT_Q p.1 i.out) == q))

/-- The place of the first waiting item that may be written: no earlier item waits for its queue (`qs`), its queue has room
for a word, and its writer's port is not stalled (`ports`). A writer without credit waits at its own side; one whose XL
queue is full stalls its port (R246; log entry 52). -/
def pickItem (d : Dev) (g : Nat) : List Nat → List (Option Nat) → Nat → List OutItem → Option Nat
  | _, _, _, [] => none
  | qs, ports, k, i :: l =>
    let q := d.get (K.OUT_Q g i.out)
    if !(qs.contains q) && !(ports.contains i.by_) && decide (0 < d.qSpace q) && !(d.packetOpen g q) then some k
    else
      let full := !(qs.contains q) && isXL (d.get (K.Q_SIZE q)) && d.qSpace q == 0
      pickItem d g (q :: qs) (if full then i.by_ :: ports else ports) (k + 1) l

/-- ITEM_WRITE (R228, R235, R246): an item goes to its output queue as one packet, in order on each output, as many words
now as the queue has room for. The operation that wrote its last item ends. -/
def Dev.itemWrite (d : Dev) (g : Nat) : Dev :=
  let gr := d.graph g
  match (pickItem d g [] [] 0 gr.outq).bind (fun k => gr.outq[k]?.map (fun i => (k, i))) with
  | none => d
  | some (k, i) =>
    let q := d.get (K.OUT_Q g i.out)
    let n := min i.words.length (d.qSpace q)
    let rest := if n < i.words.length then gr.outq.set k { i with words := i.words.drop n, begun := true, head := i.head - n } else gr.outq.eraseIdx k
    let d := (d.setGraph g { gr with outq := rest }).qPut q
      ((i.words.zipIdx.map (fun p => (p.1, p.2 + 1 == i.words.length))).take n)
    match i.by_ with
    | some c => if rest.any (fun j => j.by_ == some c) then d else d.opFinish c
    | none => d

/-! Result streams (R237). -/

/-- STREAM_CMD BIND. -/
def streamBind (d : Dev) (s : Nat) : Except Abort Dev := do
  need (d.get (K.STREAM_STATE s) == 0) .state
  let q := d.get (K.STREAM_QUEUE s)
  need (decide (q < 256)) .range
  need (!(d.qSump q) && !(d.qGraphIn q) && !(d.qStream q)) .busy
  .ok ((d.set (K.STREAM_ITEMS s) 0).set (K.STREAM_STATE s) 1)

/-- STREAM_CMD UNBIND. -/
def streamUnbind (d : Dev) (s : Nat) : Except Abort Dev := do
  need (d.get (K.STREAM_STATE s) == 1) .state
  .ok (d.set (K.STREAM_STATE s) 0)

end Sys2Proof.Machine
end

