-- ==== Sys2Proof/Machine/Tarn.lean ====
section
/-! DEFINITION. Tarn queues as software commands them (R239 to R248). -/

namespace Sys2Proof.Machine

/-- The sizes of the enabled queues, in words (R244). -/
def Dev.poolUsed (d : Dev) : Nat :=
  (((List.range 256).filter (fun q => d.get (K.Q_STATE q) == 1)).map (fun q => tarnWords (d.get (K.Q_SIZE q)))).sum

/-- Q_CMD ENABLE (R244). -/
def qEnable (d : Dev) (q : Nat) : Except Abort Dev := do
  need (d.get (K.Q_STATE q) != 1) .state
  need (d.domOn 46) .state
  need (0 < tarnWords (d.get (K.Q_SIZE q))) .range
  need (decide (d.poolUsed + tarnWords (d.get (K.Q_SIZE q)) ≤ 1048576)) .range
  .ok (({ d with tarns := Table.put d.tarns q { bank := (d.tarn q).bank } } : Dev).set (K.Q_STATE q) 1)

/-- DISABLE and FLUSH are refused while the queue is DISABLED or bound (R244). -/
def qIdle (d : Dev) (q : Nat) : Except Abort Unit := do
  need (d.get (K.Q_STATE q) == 1) .state
  need (d.qBinding q == 0) .busy

/-- Q_CMD DISABLE (R244). -/
def qDisable (d : Dev) (q : Nat) : Except Abort Dev := do
  qIdle d q
  .ok (({ d with tarns := Table.put d.tarns q { bank := (d.tarn q).bank } } : Dev).set (K.Q_STATE q) 0)

/-- Q_CMD FLUSH (R244). -/
def qFlush (d : Dev) (q : Nat) : Except Abort Dev := do
  qIdle d q
  .ok (d.setTarn q { d.tarn q with drain := [], fill := [], port := [] })

/-- A read of Q_POP (R245): the value returned, or the refusal. -/
def qPop (d : Dev) (q : Nat) : Except Abort (Dev × Nat) := do
  need (d.get (K.Q_STATE q) == 1) .state
  need (!(d.qSump q || d.qStream q || d.qGraphIn q || d.qTram q 16)) .busy
  let t := (d.tarn q).swap (d.qHalf q)
  match t.drain with
  | w :: l => .ok (d.qPlace q { t with drain := l, lastPop := w.1, lastEnd := w.2 }, w.1)
  | [] =>
    let first := !(bit (d.get (K.Q_STICKY q)) 0)
    let d := ((d.qPlace q { t with lastEnd := false }).setB (K.Q_STICKY q) 0 true).bump (K.Q_UNDERRUNS q)
    .ok (if first then d.event (272 + q / 16) 2 q else d, t.lastPop)

/-- A write of Q_PUSH or Q_PUSH_END (R245). -/
def qPush (d : Dev) (q v : Nat) (mark : Bool) : Except Abort Dev := do
  need (d.get (K.Q_STATE q) == 1) .state
  need (!(d.qLogged q || d.qGraphOut q || d.qTram q 20 || d.qStaged q)) .busy
  need (0 < d.qSpace q) .busy
  .ok (d.qPut q [(v % 2 ^ 64, mark)])

/-- A write of Q_WEIR (R247): a level at or below the present fill is crossed as it takes effect. -/
def qWeir (d : Dev) (q v : Nat) : Dev :=
  let d := d.set (K.Q_WEIR q) v
  if 0 < v ∧ v ≤ (d.tarn q).count ∧ d.get (K.Q_STATE q) = 1 then
    (d.setB (K.Q_STICKY q) 1 true).event (272 + q / 16) 1 q
  else d

/-- Q_STATUS (R243): 0, its default, while the queue is DISABLED (log entry 12). -/
def Dev.qStatus (d : Dev) (q : Nat) : Nat :=
  let t := d.tarn q
  if d.get (K.Q_STATE q) = 0 then 0
  else b2n t.drain.isEmpty + 2 * b2n (d.qFull q) + 4 * (t.bank % 2) + 8 * b2n t.lastEnd

end Sys2Proof.Machine
end

