-- ==== Sys2Proof/Machine/Tram.lean ====
section
/-! DEFINITION. Tram channels (R249 to R256, R324). The elements of a descriptor move when its completion is commanded;
with a Tarn queue or the host window at an end, as far as words, room or bytes are there, and the rest at a later
completion (log entry 20). -/

namespace Sys2Proof.Machine

/-! Descriptor fields (R249). -/

def dEnd (x : Nat) : Bool := bit x 0
def dElem (x : Nat) : Nat := 2 ^ bits x 10 3
def dSwap (x : Nat) : Nat := bits x 13 3
def dSrcEp (x : Nat) : Nat := bits x 16 4
def dDstEp (x : Nat) : Nat := bits x 20 4
def dNext (x : Nat) : Nat := bits x 24 40
def dSrc (x : Nat) : Nat := bits x 160 48
def dDst (x : Nat) : Nat := bits x 208 48
def dCount (x i : Nat) : Nat := bits x (272 + 16 * i) 16
def dSrcStep (x i : Nat) : Int := toSigned 32 (bits x (320 + 32 * i) 32)
def dDstStep (x i : Nat) : Int := toSigned 32 (bits x (416 + 32 * i) 32)

/-- The unit of a swap mode in bytes (R252). -/
def swapUnit (s : Nat) : Nat := match s with | 0 => 1 | 1 => 2 | 2 | 3 => 4 | _ => 8

/-- The order in which a unit's bytes are taken (R252). -/
def swapOrder (s : Nat) : List Nat :=
  match s with
  | 1 => [1, 0]
  | 2 => [3, 2, 1, 0]
  | 3 => [2, 3, 0, 1]
  | 4 => [7, 6, 5, 4, 3, 2, 1, 0]
  | 5 => [6, 7, 4, 5, 2, 3, 0, 1]
  | _ => [0]

/-- SWAP applied to an element's bytes (R252). -/
def swapBytes (s : Nat) (l : List Byte) : List Byte :=
  (List.range l.length).map (fun i =>
    let u := swapUnit s
    l.getD (i / u * u + (swapOrder s).getD (i % u) 0) 0)

/-- An address field cut into unit and offset by its endpoint (R250). -/
def epUnit (ep a : Nat) : Nat :=
  match ep with
  | 2 | 4 => bits a 40 4
  | 3 => a % 256
  | 5 => bits a 40 2
  | _ => 0
def epOff (ep a : Nat) : Nat :=
  match ep with
  | 2 => a % 2 ^ 20
  | 3 => 0
  | 4 => a % 2 ^ 18
  | 5 => a % 2 ^ 22
  | _ => a

/-- Bits of an address field that its endpoint does not name are 0 (log entry 20). -/
def epClean (ep a : Nat) : Bool :=
  match ep with
  | 2 => bits a 20 20 == 0 && bits a 44 4 == 0
  | 3 => decide (a < 256)
  | 4 => bits a 18 22 == 0 && bits a 44 4 == 0
  | 5 => bits a 22 18 == 0 && bits a 42 6 == 0
  | _ => true

/-- The offsets of an endpoint (R250): first, and first beyond. -/
def Dev.epRange (d : Dev) (ep : Nat) : Nat × Nat :=
  match ep with
  | 0 => (0, d.get K.CAPACITY)
  | 1 => (0, 33554432)
  | 2 => (0, 1048576)
  | 4 => (131072, 262144)
  | 5 => (0, 3670016)
  | 6 => (0, d.get K.HOST_WIN_BYTES)
  | _ => (0, 0)

/-- The extreme offsets of an endpoint at the corners of the loops, the last exclusive (R253). -/
def corners (x base : Nat) (step : Nat → Int) : Int × Int :=
  let far (i : Nat) : Int := ((dCount x i : Int) - 1) * step i
  let lo := (List.range 3).foldl (fun a i => a + min 0 (far i)) (base : Int)
  let hi := (List.range 3).foldl (fun a i => a + max 0 (far i)) (base : Int)
  (lo, hi + dElem x)

def srcCorners (x : Nat) : Int × Int := corners x (epOff (dSrcEp x) (dSrc x)) (dSrcStep x)
def dstCorners (x : Nat) : Int × Int := corners x (epOff (dDstEp x) (dDst x)) (dDstStep x)

/-- DESC_FORMAT (R253). -/
def descFormatOk (x : Nat) : Bool :=
  bits x 2 6 == 0 && bits x 24 6 == 0 && bits x 64 96 == 0 && bits x 256 16 == 0 &&
  decide (dSrcEp x ≤ 6) && decide (dDstEp x ≤ 6) && decide (dSwap x ≤ 5) && decide (bits x 10 3 ≤ 4) &&
  (List.range 3).all (fun i => dCount x i != 0) && decide (swapUnit (dSwap x) ≤ dElem x) &&
  ((dSrcEp x != 3 && dDstEp x != 3) || decide (8 ≤ dElem x))

/-- ALIGN (R253). -/
def descAlignOk (x : Nat) : Bool :=
  let e : Int := dElem x
  (dSrcEp x == 3 || ((dSrc x : Int) % e == 0 && (List.range 3).all (fun i => dSrcStep x i % e == 0))) &&
  (dDstEp x == 3 || ((dDst x : Int) % e == 0 && (List.range 3).all (fun i => dDstStep x i % e == 0)))

/-- ADDRESS (R253) at one end. -/
def Dev.epAddrOk (d : Dev) (ep a : Nat) (c : Int × Int) : Bool :=
  epClean ep a &&
  (if ep = 3 then d.get (K.Q_STATE (epUnit 3 a)) == 1
   else decide (((d.epRange ep).1 : Int) ≤ c.1) && decide (c.2 ≤ (d.epRange ep).2))

/-- The source is DDR4 bytes [a, a + len) or the write touches the Lode lines of a live partition (R253). -/
def Dev.lodeProtected (d : Dev) (c : Int × Int) : Bool :=
  d.liveSeqs.any (fun n =>
    let a : Int := 16 * d.get (K.LODE_BASE n)
    let b : Int := a + 16 * d.get (K.LODE_LINES n)
    decide (c.1 < b) && decide (a < c.2))

/-- The domains of an endpoint (R250, R10) and the Assay unit, if it is one. -/
def Dev.epDomains (d : Dev) (ep a : Nat) (c : Int × Int) : List Nat × Option Nat :=
  match ep with
  | 0 => (d.ddrChans.map (34 + ·), none)
  | 1 => (((List.range 8).filter (fun (b : Nat) => decide (c.1 < 4194304 * ((b : Int) + 1)) && decide (4194304 * (b : Int) < c.2))).map (26 + ·), none)
  | 2 => ([47 + epUnit 2 a / 8], some (epUnit 2 a))
  | 3 => ([46], none)
  | 4 => ([42 + epUnit 4 a / 4], none)
  | 5 => ([42 + epUnit 5 a], none)
  | _ => ([50], none)

/-- DOMAIN_OFF (R253, R421) at one end. -/
def Dev.epPowered (d : Dev) (ep a : Nat) (c : Int × Int) : Bool :=
  let p := d.epDomains ep a c
  p.1.all d.domOn && !(d.underTest p.1 p.2) &&
  (match ep with
   | 4 => d.get (K.CLUSTER_STATE (epUnit 4 a / 4)) != 0
   | 5 => d.get (K.CLUSTER_STATE (epUnit 5 a)) != 0
   | _ => true)

/-- The first check of R253 a descriptor fails; 0 none. -/
def Dev.descCheck (d : Dev) (x : Nat) : Nat :=
  let s := srcCorners x
  let t := dstCorners x
  if !descFormatOk x then 1
  else if !descAlignOk x then 2
  else if !(d.epAddrOk (dSrcEp x) (dSrc x) s && d.epAddrOk (dDstEp x) (dDst x) t) then 3
  else if dDstEp x == 2 || (dDstEp x == 1 && d.lodeProtected t) then 4
  else if dSrcEp x == dDstEp x && dSrcEp x != 3 && epUnit (dSrcEp x) (dSrc x) == epUnit (dDstEp x) (dDst x) &&
      decide (s.1 < t.2) && decide (t.1 < s.2) then 5
  else if !(d.epPowered (dSrcEp x) (dSrc x) s && d.epPowered (dDstEp x) (dDst x) t) then 6
  else 0

/-- A channel's state beyond its objects. -/
def Dev.tram (d : Dev) (c : Nat) : Tram := Table.at d.trams {} c
def Dev.setTram (d : Dev) (c : Nat) (t : Tram) : Dev := { d with trams := Table.put d.trams c t }

/-- TRAM_ERROR (R253, R255): cause and address in TRAM_ERR, the fault, and the channel ABORTED whatever the reaction. -/
def tramError (m : Memory) (d : Dev) (c cause a : Nat) : Memory × Dev :=
  let d := ((d.setTram c {}).set (K.TRAM_STATE c) 5).set (K.TRAM_ERR c) (fld 56 8 cause + fld 0 40 a)
  raiseFault m d 19 (0x0A00 + c) 0 (some (252 + c, 3, 0)) [0x0A00 + c] []

/-- TRAM_CMD START (R255, R266, R421). -/
def tramStart (d : Dev) (c : Nat) : Except Abort Dev := do
  d.gate [46] none
  need (d.get (K.TRAM_STATE c) == 0 || d.get (K.TRAM_STATE c) == 4) .state
  need (d.domOn 46) .state
  need (d.get K.DDR_STATE == 3) .state
  let d := d.setTram c { next := some (d.get (K.CHAIN_HEAD c)) }
  .ok (d.setAll [(K.CHAIN_STOP_AT c, 0xFFFFFFFFFF), (K.DESC_DONE c, 0), (K.BYTES_DONE c, 0), (K.TRAM_STATE c, 2)])

/-- Word 0 of the descriptor at CHAIN_STOP_AT is read again (R256): the channel goes on at its NEXT, or enters or stays
DONE. The read waits while DDR4 is in self-refresh or training (R265), with the channel RUNNING, and an uncorrectable one
is READ_ECC (R271, R272). -/
def tramReread (m : Memory) (d : Dev) (c : Nat) : Memory × Dev :=
  let a := d.get (K.CHAIN_STOP_AT c)
  if d.get K.DDR_STATE ≠ 3 ∧ d.get K.DDR_STATE ≠ 5 then (m, (d.setTram c { reread := true }).set (K.TRAM_STATE c) 2)
  else if d.ddrBad a 8 then
    let r := ddrReadBy m d 3 a 8 true (c + 1)
    tramError r.1 r.2 c 7 a
  else
    let w := Memory.rdVal m d.fresh (ddrAt a) 8
    let d := d.ddrTraffic 3 a 8 false [] [] (c + 1)
    if dEnd w then
      let d := d.bump (K.RESTARTS_IGNORED c)
      (m, if d.get (K.TRAM_STATE c) = 4 then d else ((d.setTram c {}).set (K.TRAM_STATE c) 4).event (252 + c) 2 0)
    else (m, (d.setTram c { next := some (dNext w) }).set (K.TRAM_STATE c) 2)

/-- The channel is at the end-marked descriptor whose address CHAIN_STOP_AT holds: a RESTART acts as it completes. -/
def Dev.atTail (d : Dev) (c : Nat) : Bool :=
  match (d.tram c).desc with
  | some (x, a) => dEnd x && a == d.get (K.CHAIN_STOP_AT c)
  | none => false

/-- TRAM_CMD RESTART (R255, R256): one that arrives before an end-marked descriptor is reached is accepted and ignored. -/
def tramRestart (m : Memory) (d : Dev) (c : Nat) : Except Abort (Memory × Dev) := do
  let st := d.get (K.TRAM_STATE c)
  need (st == 2 || st == 4) .state
  if st = 4 then .ok (tramReread m d c)
  else if d.atTail c then .ok (m, d.setTram c { d.tram c with restart := true })
  else .ok (m, d)

/-- TRAM_CMD ABORT (R255). -/
def tramAbortCmd (d : Dev) (c : Nat) : Except Abort Dev := do
  need (d.get (K.TRAM_STATE c) == 2) .state
  .ok ((d.setTram c {}).set (K.TRAM_STATE c) 0)

/-- DESC_FETCH (R253, R256): the next descriptor is read and checked; its elements begin to move, or the channel aborts.
A re-reading of the old tail that waited comes first. -/
def descFetch (m : Memory) (d : Dev) (c : Nat) : Memory × Dev :=
  let t := d.tram c
  if t.reread ∧ d.get (K.TRAM_STATE c) = 2 then tramReread m d c
  else match t.desc, t.next with
  | none, some a =>
    if d.get (K.TRAM_STATE c) ≠ 2 ∨ (d.get K.DDR_STATE ≠ 3 ∧ d.get K.DDR_STATE ≠ 5) then (m, d)
    else
      let d := d.set (K.CUR_DESC c) a
      let bad := d.ddrBad a 64
      let r := ddrReadBy m d 3 a 64 bad (c + 1)
      let m := r.1
      let d := r.2
      if bad then tramError m d c 7 a
      else if d.get K.CAPACITY < a + 64 then tramError m d c 3 a
      else
        let x := Memory.rdVal m d.fresh (ddrAt a) 64
        let d := if dEnd x then d.set (K.CHAIN_STOP_AT c) a else d
        let k := d.descCheck x
        if k = 0 then (m, d.setTram c { t with desc := some (x, a), next := none, moved := 0 })
        else tramError m d c k a
  | _, _ => (m, d)

/-! Elements. -/

/-- Offset of element i at an end (R251). -/
def elemAt (x base : Nat) (step : Nat → Int) (i : Nat) : Nat :=
  let c0 := dCount x 0
  let c1 := dCount x 1
  ((base : Int) + (i % c0 : Nat) * step 0 + (i / c0 % c1 : Nat) * step 1 + (i / c0 / c1 : Nat) * step 2).toNat

/-- Memory address of an offset of an endpoint other than ASSAY. -/
def epAddr (ep a o : Nat) : Nat :=
  match ep with
  | 0 => ddrAt o
  | 1 => lodeAt o
  | 4 => colAt (epUnit 4 a) o
  | _ => clusterAt (epUnit 5 a) o

/-- What reading one element came to. -/
inductive Elem where
  /-- The element's bytes and the end marks of its words, what is left, and the bytes left of the host's answer. -/
  | got (bytes : List Byte) (marks : List Bool) (d : Dev) (host : List Byte)
  | wait
  | bad (src : Nat)

/-- A BULK request of channel c to the host window, by the upstream port with the channel's number as TAG (R322, R324). -/
def Dev.hostAsk (d : Dev) (c head : Nat) (bytes : List Byte) (o : Out) : Dev :=
  ({ d with egress := d.egress ++ [o] } : Dev).linkSend 0 1
    (transWords (transHead (16 + bytes.length) 0 0 0 0 c 6 false (d.get K.NODE_ID) 0) (toBytes 16 head ++ bytes))

/-- Element i read from its source (R250, R251, R324). -/
def readElem (m : Memory) (d : Dev) (c x i : Nat) (ecc : Bool) (host : List Byte) : Elem :=
  let ep := dSrcEp x
  let e := dElem x
  let o := elemAt x (epOff ep (dSrc x)) (dSrcStep x) i
  if ecc then .bad (if ep = 3 then dSrc x else if ep = 0 ∨ ep = 1 ∨ ep = 6 then o else dSrc x - epOff ep (dSrc x) + o)
  else if ep = 3 then
    let q := epUnit 3 (dSrc x)
    let w := ((d.tarn q).words).take (e / 8)
    if w.length < e / 8 then .wait
    else .got (w.flatMap (fun p => toBytes 8 p.1)) (w.map (·.2)) (d.qTake q (e / 8)) host
  else if ep = 6 then
    if host.length < e ∨ d.get (K.PORT_STATE 0) ≠ 5 then .wait
    else .got (host.take e) (List.replicate (e / 8) false) (d.hostAsk c (bulkHead e 2 false o) [] (.hostRead c o e)) (host.drop e)
  else if ep = 0 then
    if d.ddrBad o e then .bad o
    else if d.get K.DDR_STATE ≠ 3 then .wait
    else .got (Memory.rdN m d.fresh (ddrAt o) e) (List.replicate (e / 8) false) (d.ddrTraffic 3 o e false [] [] (c + 1)) host
  else if ep = 1 ∧ d.badLode.any (fun l => decide (16 * l < o + e) && decide (o < 16 * l + 16)) then .bad o
  else if ep = 2 then
    .got ((List.range e).map (fun j => Memory.rd m d.fresh (assayAt (epUnit 2 (dSrc x)) (asyOnChip d (epUnit 2 (dSrc x)) (o + j)))))
      (List.replicate (e / 8) false) d host
  else .got (Memory.rdN m d.fresh (epAddr ep (dSrc x) o) e) (List.replicate (e / 8) false) d host

/-- Element i's TARN_END mark (R249). -/
def tarnEnd (x i : Nat) : Bool :=
  let c0 := dCount x 0
  let c1 := dCount x 1
  match bits x 8 2 with
  | 1 => i % c0 + 1 == c0
  | 2 => (i + 1) % (c0 * c1) == 0
  | 3 => i + 1 == c0 * c1 * dCount x 2
  | _ => false

/-- Room at the destination for one element (R246). -/
def Dev.elemRoom (d : Dev) (x : Nat) : Bool :=
  match dDstEp x with
  | 0 => d.get K.DDR_STATE == 3 || d.get K.DDR_STATE == 5
  | 3 => decide (dElem x / 8 ≤ d.qSpace (epUnit 3 (dDst x)))
  | 6 => d.get (K.PORT_STATE 0) == 5
  | _ => true

/-- Element i written to its destination (R250, R251). -/
def writeElem (m : Memory) (d : Dev) (c x i : Nat) (bytes : List Byte) (marks : List Bool) : Memory × Dev :=
  let ep := dDstEp x
  let o := elemAt x (epOff ep (dDst x)) (dDstStep x) i
  if ep = 3 then
    let n := bytes.length / 8
    let w := (List.range n).map (fun j =>
      (ofBytes ((bytes.drop (8 * j)).take 8), (dSrcEp x == 3 && marks.getD j false) || (tarnEnd x i && j + 1 == n)))
    (m, d.qPut (epUnit 3 (dDst x)) w)
  else if ep = 6 then (m, d.hostAsk c (bulkHead 0 1 false o) bytes (.hostWrite c o bytes))
  else if ep = 0 then ddrWrite m d 3 o bytes
  else if ep = 1 then (Memory.wrN m (lodeAt o) bytes, { d with badLode := d.badLode.filter (· != o / 16) })
  else (Memory.wrN m (epAddr ep (dDst x) o) bytes, d)

/-- Elements move from `i` on; none: the rest waits; some a: uncorrectable at source address a. -/
def moveElems : Nat → Memory → Dev → Nat → Nat → Nat → Option Nat → List Byte → (Memory × Dev) × Nat × Option Nat
  | 0, m, d, _, _, i, _, _ => ((m, d), i, none)
  | fuel + 1, m, d, c, x, i, ecc, host =>
    if !(d.elemRoom x) then ((m, d), i, none)
    else match readElem m d c x i (ecc == some i) host with
    | .wait => ((m, d), i, none)
    | .bad a => ((m, d), i, some a)
    | .got bytes marks d host =>
      let p := writeElem m d c x i (swapBytes (dSwap x) bytes) marks
      moveElems fuel p.1 (p.2.bumpBy (K.BYTES_DONE c) (dElem x)) c x (i + 1) ecc host

/-- A descriptor's writes have all taken effect (R255, R256). -/
def descDone (m : Memory) (d : Dev) (c x : Nat) (restart : Bool) : Memory × Dev :=
  let d := d.bump (K.DESC_DONE c)
  let d := if bit x 1 then d.event (252 + c) 1 0 else d
  if !dEnd x then (m, d.setTram c { next := some (dNext x) })
  else if restart then tramReread m d c
  else (m, ((d.setTram c {}).set (K.TRAM_STATE c) 4).event (252 + c) 2 0)

/-- DESC_COMPLETE (R251, R255). `eccAt`: the element whose read is uncorrectable; `host`: bytes the host window answers;
`hostAbort`: the adapter answered with an abort (R324). An uncorrectable read counts in its memory too: DDR_ECC_UNCORR
(R271) or ASSAY_MEM of the unit (R183). -/
def descComplete (m : Memory) (d : Dev) (c : Nat) (eccAt : Option Nat) (host : List Byte) (hostAbort : Bool) : Memory × Dev :=
  let t := d.tram c
  match t.desc with
  | none => (m, d)
  | some (x, a) =>
    if d.get (K.TRAM_STATE c) ≠ 2 then (m, d)
    else if hostAbort ∧ (dSrcEp x = 6 ∨ dDstEp x = 6) then tramError m d c 3 a
    else
      let n := dCount x 0 * dCount x 1 * dCount x 2
      let r := moveElems (n - t.moved) m d c x t.moved eccAt host
      match r.2.2 with
      | some s =>
        let u := epUnit 2 (dSrc x)
        let e := if dSrcEp x = 0 then ddrReadBy r.1.1 r.1.2 3 s (dElem x) true (c + 1)
          else if dSrcEp x = 2 then raiseFault r.1.1 r.1.2 12 (0x1500 + u) 0 none [0x1500 + u] []
          else r.1
        tramError e.1 e.2 c 7 s
      | none =>
        if r.2.1 < n then (r.1.1, r.1.2.setTram c { t with moved := r.2.1 })
        else descDone r.1.1 r.1.2 c x t.restart

/-- A RUNNING channel's current descriptor names HOST (R324). -/
def Dev.hostInUse (d : Dev) : Bool :=
  (List.range 16).any (fun c => d.get (K.TRAM_STATE c) == 2 &&
    (match (d.tram c).desc with | some (x, _) => dSrcEp x == 6 || dDstEp x == 6 | none => false))

end Sys2Proof.Machine
end

