-- ==== Sys2Proof/Machine/Ddr.lean ====
section
/-! DEFINITION. The DDR4 controller (R257 to R272): states, admission and issue of bursts, refresh, scrubbing, ECC and
ALERT_n, and the own checks of its objects. Training is a Winder routine (Machine/Winder). -/

namespace Sys2Proof.Machine

def Dev.ddrCh (d : Dev) (c : Nat) : DdrChan := Table.at d.ddr {} c
def Dev.setDdrCh (d : Dev) (c : Nat) (x : DdrChan) : Dev := { d with ddr := Table.put d.ddr c x }

/-! The address map (R259). -/

/-- log2 of the number of channels in service. -/
def Dev.ddrW (d : Dev) : Nat := log2Ceil d.ddrChans.length

/-- The channel address of a byte address. -/
def Dev.chanAddr (d : Dev) (a : Nat) : Nat := a % 256 + a / 2 ^ (8 + d.ddrW) * 256

/-- The byte address of a channel address of channel c. -/
def Dev.byteAddr (d : Dev) (c x : Nat) : Nat :=
  x % 256 + (d.ddrChans.idxOf c) * 256 + x / 256 * 2 ^ (8 + d.ddrW)

/-- Rank of a byte address. -/
def Dev.rankOf (d : Dev) (a : Nat) : Nat := if d.ddrRanks = 2 then bits (d.chanAddr a) (15 + d.bgBits) 1 else 0

/-- Bank of a byte address: rank, bank group and bank. -/
def Dev.bankOf (d : Dev) (a : Nat) : Nat := d.rankOf a * 256 + bits (d.chanAddr a) 8 (d.bgBits + 2)

/-- Row of a byte address. -/
def Dev.rowAddr (d : Dev) (a : Nat) : Nat := d.chanAddr a / 2 ^ (15 + d.bgBits + (d.ddrRanks - 1))

/-- Channel c is in service (R258), or serves as uncorrectable while the controller is FAILED (R272). -/
def Dev.inService (d : Dev) (c : Nat) : Bool := bit (d.get K.CHAN_MASK) c && decide (c < 8) && d.get K.DDR_STATE == 3

/-! States (R264, R265). -/

/-- Channel users (R265): sequencers, Sump regions, spilling Assay units, graphs and Tram channels. -/
def Dev.ddrUsers (d : Dev) : Bool :=
  !d.liveSeqs.isEmpty || (List.range 16).any (fun x => d.get (K.SUMP_STATE x) != 0) ||
  (List.range 16).any (fun u => d.get (K.SPILL_KIB u) != 0 &&
    (d.get (K.ASY_STATE u) == 1 || d.get (K.ASY_STATE u) == 2 || asyEvictable d u != 0)) ||
  !d.noGraph || (List.range 16).any (fun c => d.get (K.TRAM_STATE c) == 2)

/-- DDR_CMD SR_EXIT (R264): REF_DEBT cleared. -/
def srExit (d : Dev) : Except Abort Dev := do
  need (d.get K.DDR_STATE == 4) .state
  .ok ((List.range 8).foldl (fun d c => d.set (K.REF_DEBT c) 0) (d.setDdrState 3))

/-- DDR_CMD RELEASE (R264). -/
def ddrRelease (m : Memory) (d : Dev) : Except Abort (Memory × Dev) := do
  need (d.get K.DDR_STATE == 3) .state
  need (!d.ddrUsers) .state
  .ok (ddrUntrained m d)

/-! Admission (R267, R268). -/

/-- The scrubber's burst is done (R270): the next one is the channel's next, and a full pass counts. -/
def Dev.scrubNext (d : Dev) (c : Nat) : Dev :=
  let x := d.ddrCh c
  let total := d.get K.CAPACITY / max 1 d.ddrChans.length / 64
  if total ≤ x.scrub + 1 then (d.setDdrCh c { x with scrub := 0 }).bump (K.SCRUB_PASSES c)
  else d.setDdrCh c { x with scrub := x.scrub + 1 }

/-- Scrub reads are held: RT panic is asserted (R267), or shed level 1 pauses the scrubber (R270). -/
def Dev.scrubHeld (d : Dev) : Bool := d.rtPanic || decide (1 ≤ d.get K.SHED_LEVEL)

/-- The burst the read queue admits next: RT, urgent TR and CO oldest first, CO and TR in alternation, scrub reads while
the queue is empty and they are not held. -/
def DdrChan.readPick (x : DdrChan) (scrubHeld : Bool) : Option Burst :=
  let l := x.ports.filter (fun b => !b.write)
  if 64 ≤ x.rq.length then none
  else match l.find? (·.port == 0) with
  | some b => some b
  | none => match l.find? (fun b => b.urgent && b.port != 5) with
    | some b => some b
    | none =>
      let first := if x.trTurn then 3 else 4
      match l.find? (·.port == first) with
      | some b => some b
      | none => match l.find? (fun b => b.port != 5) with
        | some b => some b
        | none => if x.rq.isEmpty && !scrubHeld then l.find? (·.port == 5) else none

/-- The burst the write queue admits next: urgent oldest first, then FL, AS, TR and CO. -/
def DdrChan.writePick (x : DdrChan) : Option Burst :=
  let l := x.ports.filter (·.write)
  if 64 ≤ x.wq.length then none
  else match l.find? (·.urgent) with
  | some b => some b
  | none => match l.find? (·.port == 1), l.find? (·.port == 2), l.find? (·.port == 3) with
    | some b, _, _ => some b
    | none, some b, _ => some b
    | none, none, some b => some b
    | none, none, none => l.find? (·.port == 4)

/-- A corrected error of channel c at address a (R270). -/
def ddrCorr (m : Memory) (d : Dev) (c a : Nat) : Memory × Dev :=
  raiseFault m ((d.bump (K.ECC_CORR c)).set (K.ECC_LAST_ADDR c) a) 20 (0x0901 + c) a none [] []

/-- A read queued as it was admitted: a scrub read served from the write queue ends its pass over that burst (R268). -/
def Dev.servedFull (d : Dev) (c : Nat) (b : Burst) : Dev :=
  let d := (d.bump (K.RAW_FULL c)).portBytes c b.port
  if b.port = 5 then d.scrubNext c else d

/-- The queued bytes of a burst address: all of them. -/
def DdrChan.queuedBytes (x : DdrChan) (a : Nat) : Nat := (x.wq.filter (fun w => w.addr == a)).foldl (fun m w => m ||| w.be) 0

/-- A read admitted (R267, R268): served from the write queue, or queued, counting a merge with queued bytes. -/
def admitRead (d : Dev) (c : Nat) (b : Burst) : Dev :=
  let x := d.ddrCh c
  let x := { x with ports := x.ports.erase b, nextNo := x.nextNo + 1,
                    trTurn := if !b.urgent && (b.port == 3 || b.port == 4) then b.port == 4 else x.trTurn }
  let have_ := x.queuedBytes b.addr
  if have_ &&& b.be = b.be then (d.setDdrCh c x).servedFull c b
  else
    let d := d.setDdrCh c { x with rq := x.rq ++ [{ b with no := x.nextNo }] }
    if have_ &&& b.be ≠ 0 then d.bump (K.RAW_PARTIAL c) else d

/-- A write admitted (R267, R268): its bytes are the newest of its burst; it merges into a queued write to the same
address, or is queued; the watermarks act. -/
def admitWrite (m : Memory) (d : Dev) (c : Nat) (b : Burst) : Memory × Dev :=
  let m := Memory.wrN m (ddrAt b.first) b.data
  let x := d.ddrCh c
  let x := { x with ports := x.ports.erase b, nextNo := x.nextNo + 1 }
  if x.wq.any (fun w => w.addr == b.addr) then
    (m, (d.setDdrCh c { x with wq := x.wq.map (fun w =>
      if w.addr = b.addr then { w with be := w.be ||| b.be, no := x.nextNo } else w) }).portBytes c b.port)
  else
    let occ := x.wq.length + 1
    let high := d.get K.WR_HIGH
    let panic := d.rtPanic
    let begins := !x.drain && (if panic then occ == 64 else occ == high)
    let defers := panic && !x.drain && occ == high && !begins
    let d := (d.setDdrCh c { x with wq := x.wq ++ [{ b with no := x.nextNo }], drain := x.drain || begins }).keepMax (K.WQ_PEAK c) occ
    (m, if begins then d.bump (K.DRAIN_BATCHES c) else if defers then d.bump (K.DRAIN_DEFERRED c) else d)

/-- What an uncorrectable read found at its issue does to its reader (R271): the Lode lines it filled hold uncorrectable check
bits, its Tram channel aborts with READ_ECC, its graph raises KERNEL_TRAP; a scrub is logged only. -/
def ddrReaderHit (m : Memory) (d : Dev) (b : Burst) : Memory × Dev :=
  let s := b.src - 1
  match b.port with
  | 0 => (m, { d with badLode := b.lines.filter (fun l => !d.badLode.contains l) ++ d.badLode })
  | 3 => if b.src ≠ 0 ∧ d.get (K.TRAM_STATE s) = 2 then tramError m d s 7 b.addr else (m, d)
  | 4 => if b.src ≠ 0 ∧ d.get (K.GRAPH_STATE (s / 1024)) = 2 then graphFault m d (s / 1024) 15 (s % 1024) else (m, d)
  | _ => (m, d)

/-- An uncorrectable read (R271): counted and raised, then its reader's consequence. -/
def readUncorr (m : Memory) (d : Dev) (c : Nat) (b : Burst) : Memory × Dev :=
  let p := ddrUncorr m d c b.addr
  ddrReaderHit p.1 p.2 b

/-- BURST_ADMIT: the next burst of a port enters its channel's queue if the admission order gives it its turn. While the
controller is FAILED a read completes as uncorrectable (R272). -/
def burstAdmit (m : Memory) (d : Dev) (c port : Nat) : Memory × Dev :=
  let x := d.ddrCh c
  if d.get K.DDR_STATE = 5 then
    (match x.ports.find? (fun b => b.port == port && !b.write) with
     | some b =>
       let d := d.setDdrCh c { x with ports := x.ports.erase b }
       if b.seen then (m, d) else readUncorr m d c b
     | none => (m, d))
  else if !(d.inService c) then (m, d)
  else match x.readPick d.scrubHeld, x.writePick with
  | some b, w =>
    if b.port = port then (m, admitRead d c b)
    else (match w with | some w => if w.port = port then admitWrite m d c w else (m, d) | none => (m, d))
  | none, some w => if w.port = port then admitWrite m d c w else (m, d)
  | none, none => (m, d)

/-- PORT_AGE_EXPIRY: the oldest AS, TR or CO burst at a port becomes urgent (R267). -/
def markUrgent : Nat → List Burst → List Burst
  | _, [] => []
  | p, b :: l => if b.port = p ∧ !b.urgent then { b with urgent := true } :: l else b :: markUrgent p l

def portAge (d : Dev) (c port : Nat) : Dev :=
  if 2 ≤ port ∧ port ≤ 4 then d.setDdrCh c { d.ddrCh c with ports := markUrgent port (d.ddrCh c).ports } else d

/-! Issue (R267, R268, R269). -/

/-- Postponed refreshes of a rank (R263). -/
def Dev.refDebt (d : Dev) (c rank : Nat) : Int := toSigned 8 (bits (d.get (K.REF_DEBT c)) (8 * rank) 8)
def Dev.setRefDebt (d : Dev) (c rank : Nat) (v : Int) : Dev := d.setF (K.REF_DEBT c) (8 * rank) 8 (ofSigned 8 v)

/-- No access is issued to a rank whose refresh is urgent. -/
def Dev.rankOpen (d : Dev) (c a : Nat) : Bool := decide (d.refDebt c (d.rankOf a) < 8)

/-- A row hit. -/
def Dev.rowHit (d : Dev) (x : DdrChan) (a : Nat) : Bool := Table.find x.rows (d.bankOf a) == some (d.rowAddr a)

/-- The read that issues next: RT oldest first, then row hits, at most 16 passing an older miss. -/
def Dev.pickRead (d : Dev) (c : Nat) : Option (Burst × Nat) :=
  let x := d.ddrCh c
  let l := x.rq.filter (fun b => d.rankOpen c b.addr && (b.port != 5 || !d.scrubHeld))
  match l.find? (·.port == 0), l with
  | some b, _ => some (b, x.hits)
  | none, [] => none
  | none, o :: _ =>
    match l.find? (fun b => d.rowHit x b.addr) with
    | some h => if h = o then some (h, 0) else if x.hits < 16 then some (h, x.hits + 1) else some (o, 0)
    | none => some (o, 0)

/-- The write that issues next: the oldest that no older read to its address holds back. -/
def Dev.pickWrite (d : Dev) (c : Nat) : Option Burst :=
  let x := d.ddrCh c
  x.wq.find? (fun b => d.rankOpen c b.addr && !(x.rq.any (fun r => r.addr == b.addr && decide (r.no < b.no))))

/-- A burst's words are marked uncorrectable (R271). -/
def Dev.burstBad (d : Dev) (a : Nat) : Bool := d.badDdr.any (fun w => decide (a ≤ w) && decide (w < a + 64))

/-- A read issued, with its ECC outcome (R270, R271), unless its reader has acted on that already. -/
def issueRead (m : Memory) (d : Dev) (c ecc : Nat) (b : Burst) (hits : Nat) : Memory × Dev :=
  let x := d.ddrCh c
  let d := (d.setDdrCh c { x with rq := x.rq.erase b, hits := hits, rows := Table.put x.rows (d.bankOf b.addr) (d.rowAddr b.addr) }).portBytes c b.port
  let d := if b.port = 5 then d.scrubNext c else d
  if b.seen then (m, d)
  else if ecc = 2 ∨ d.burstBad b.addr then readUncorr m d c b
  else if ecc = 1 then ddrCorr m d c b.addr
  else (m, d)

/-- A write issued; drain mode ends at its mark (R267). -/
def issueWrite (m : Memory) (d : Dev) (c ecc : Nat) (b : Burst) : Memory × Dev :=
  let x := d.ddrCh c
  let wq := x.wq.erase b
  let low := if d.rtPanic then d.get K.WR_HIGH else d.get K.WR_LOW
  let d := (d.setDdrCh c { x with wq := wq, drain := x.drain && decide (low < wq.length),
                                  rows := Table.put x.rows (d.bankOf b.addr) (d.rowAddr b.addr) }).portBytes c b.port
  if b.rmw ∧ (ecc = 2 ∨ d.rmwBad b) then ddrUncorr m (d.markWords b) c b.addr
  else if b.rmw ∧ ecc = 1 then ddrCorr m d c b.addr
  else (m, d)

/-- BURST_ISSUE (R267): in drain mode writes go ahead of reads, outside it only when no read is issuable. While the
controller is FAILED a queued read completes as uncorrectable (R272). -/
def burstIssue (m : Memory) (d : Dev) (c ecc : Nat) : Memory × Dev :=
  if d.get K.DDR_STATE = 5 then
    (let x := d.ddrCh c
     match x.rq with
     | b :: l =>
       let d := d.setDdrCh c { x with rq := l }
       if b.seen then (m, d) else readUncorr m d c b
     | [] => (m, d))
  else if !(d.inService c) then (m, d)
  else if (d.ddrCh c).drain then
    match d.pickWrite c, d.pickRead c with
    | some w, _ => issueWrite m d c ecc w
    | none, some r => issueRead m d c ecc r.1 r.2
    | none, none => (m, d)
  else match d.pickRead c, d.pickWrite c with
    | some r, _ => issueRead m d c ecc r.1 r.2
    | none, some w => issueWrite m d c ecc w
    | none, none => (m, d)

/-- DDR_CMD SR_ENTER (R264, R265): the queued writes are issued, with what their read-modify-writes find (R271). A
controller that this leaves FAILED does not enter self-refresh. -/
def srEnter (m : Memory) (d : Dev) : Except Abort (Memory × Dev) := do
  need (d.get K.DDR_STATE == 3) .state
  need (!d.ddrUsers) .state
  let p := (List.range 8).foldl (fun p c => (p.2.ddrCh c).wq.foldl (fun p b => issueWrite p.1 p.2 c 0 b) p) (m, d)
  .ok (if p.2.get K.DDR_STATE = 3 then (p.1, p.2.ddrSelfRefresh) else p)

/-! Refresh (R269). -/

/-- TREFI_TICK: one refresh more is owed; at +8 it is urgent and the rank's banks are precharged. -/
def trefiTick (d : Dev) (c rank : Nat) : Dev :=
  if d.inService c && decide (rank < d.ddrRanks) then
    let v := min 8 (d.refDebt c rank + 1)
    let x := d.ddrCh c
    let d := d.setRefDebt c rank v
    if v = 8 then d.setDdrCh c { x with rows := x.rows.filter (fun p => p.1 / 256 != rank) } else d
  else d

/-- REF_ISSUE: urgent at +8 ahead of every request, otherwise pulled in while the rank has no queued access, no RT panic
is asserted and REF_DEBT is above −8. -/
def refIssue (d : Dev) (c rank : Nat) : Dev :=
  if d.inService c && decide (rank < d.ddrRanks) then
    let v := d.refDebt c rank
    let x := d.ddrCh c
    let queued := (x.rq ++ x.wq).any (fun b => d.rankOf b.addr == rank)
    let d' := (d.setRefDebt c rank (v - 1)).setDdrCh c { x with rows := x.rows.filter (fun p => p.1 / 256 != rank) }
    if 8 ≤ v then d'.bump (K.REF_URGENT c)
    else if !queued ∧ !d.rtPanic ∧ -8 < v then d'
    else d
  else d

/-! Scrubbing (R267, R270, R271). -/

/-- SCRUB_INTERVAL_EXPIRY: the next burst of the channel is scrubbed at once if nothing goes before it (no read queued or
at a port, no drain mode, no RT panic, no urgent refresh); otherwise its read waits at the port. Shed level 1 pauses the
scrubber. -/
def scrubExpiry (m : Memory) (d : Dev) (c ecc : Nat) : Memory × Dev :=
  let x := d.ddrCh c
  if !(d.inService c) || d.get K.SCRUB_INTERVAL == 0 || decide (1 ≤ d.get K.SHED_LEVEL) then (m, d)
  else
    let a := d.byteAddr c (64 * x.scrub)
    if x.rq.isEmpty && x.ports.all (·.write) && !x.drain && !d.rtPanic && d.rankOpen c a then
      if x.queuedBytes a = 2 ^ 64 - 1 then (m, d.servedFull c { port := 5, addr := a, write := false, be := 2 ^ 64 - 1 })
      else
      let d := d.scrubNext c
      if ecc = 2 ∨ d.burstBad a then ddrUncorr m d c a else if ecc = 1 then ddrCorr m d c a else (m, d)
    else if (x.ports ++ x.rq).any (fun b => b.port == 5) then (m, d)
    else (m, d.setDdrCh c { x with ports := x.ports ++ [{ port := 5, addr := a, write := false, be := 2 ^ 64 - 1 }] })

/-! ALERT_n (R271, R272). -/

/-- ALERT_N: `replays` replays of the commands since the last accepted one; after three failed ones the controller is
FAILED. An ALERT_n that recovers is no longer asserted. -/
def alertN (m : Memory) (d : Dev) (c replays : Nat) (recovered : Bool) : Memory × Dev :=
  if recovered ∧ (d.get K.DDR_STATE ≠ 3) then
    (m, { d with pwr := { d.pwr with alert := clrBit d.pwr.alert c } })
  else if d.inService c && (d.get K.DDR_FEATURES % 4 != 0) then
    let k := if recovered then max 1 (min 3 replays) else 3
    let d := d.bumpBy (K.ALERT_RETRIES c) k
    let d : Dev := { d with pwr := { d.pwr with alert := putBit d.pwr.alert c (!recovered) } }
    if recovered then (m, d) else raiseFault m d 23 (0x0901 + c) 0 none [0x0900] []
  else (m, d)

/-! Own checks of the controller's objects (R262). -/

/-- The areas as (first byte, bytes), with one object written. -/
def Dev.areasWith (d : Dev) (key v : Nat) : List (Nat × Nat) :=
  let g (k : Nat) : Nat := (if k = key then v else d.get k) * 2 ^ 20
  [(g K.PAT_AREA_BASE, g K.PAT_AREA_MIB), (g K.SUMP_AREA_BASE, g K.SUMP_AREA_MIB), (g K.SPILL_AREA_BASE, g K.SPILL_AREA_MIB),
   (g K.OVM_AREA_BASE, g K.OVM_AREA_MIB)].filter (fun p => p.2 != 0)

/-- No two of the areas overlap. -/
def areasApart : List (Nat × Nat) → Bool
  | [] => true
  | p :: l => l.all (fun q => decide (p.1 + p.2 ≤ q.1) || decide (q.1 + q.2 ≤ p.1)) && areasApart l

/-- The area of an area object is in use. -/
def Dev.areaInUse (d : Dev) (key : Nat) : Bool :=
  if key = K.PAT_AREA_BASE ∨ key = K.PAT_AREA_MIB then !d.liveSeqs.isEmpty
  else if key = K.SUMP_AREA_BASE ∨ key = K.SUMP_AREA_MIB then (List.range 16).any (fun x => d.get (K.SUMP_STATE x) != 0)
  else if key = K.SPILL_AREA_BASE ∨ key = K.SPILL_AREA_MIB then
    (List.range 16).any (fun u => d.get (K.SPILL_KIB u) != 0 &&
      (d.get (K.ASY_STATE u) == 1 || d.get (K.ASY_STATE u) == 2 || asyEvictable d u != 0))
  else !d.noGraph

/-- After a write of CHAN_MASK (R264): UNTRAINED from OFF with the domains of all its channels on, OFF where one is not. -/
def Dev.ddrMaskSet (d : Dev) : Dev :=
  if (setBits 8 (d.get K.CHAN_MASK)).all (fun c => d.domOn (34 + c)) then
    d.setDdrState (if d.get K.DDR_STATE = 0 then 1 else d.get K.DDR_STATE)
  else d.setDdrState 0

/-- A write of a controller object by its own rule (R262). -/
def ddrWriteObj (d : Dev) (key v : Nat) : Except Abort Dev := do
  let d' := d.set key v
  let s := key % 256
  if 0x0E ≤ s ∧ s ≤ 0x15 then
    let l := d.areasWith key v
    need (areasApart l && l.all (fun p => decide (p.1 + p.2 ≤ d.confCapacity))) .range
    need (!(d.areaInUse key)) .state
  if key = K.CHAN_MASK ∨ key = K.DEVICE_CFG then
    need ((d.areasWith 0 0).all (fun p => decide (p.1 + p.2 ≤ d'.confCapacity))) .range
  if key = K.WR_HIGH ∨ key = K.WR_LOW then need (d'.get K.WR_LOW < d'.get K.WR_HIGH) .range
  if key = K.CHAN_MASK then .ok d'.ddrMaskSet else .ok d'

end Sys2Proof.Machine
end

