-- ==== Sys2Proof/Machine/Links.lean ====
section
/-! DEFINITION. Gwynter and Gallery ports and their lanes (R300 to R335): bring-up, negotiation, replay and credits,
narrowing and rejoin, forwarding, enumeration, eye scans and loopback. A lane that LANE_LOCK names is locked at both ends
(log entry 21). -/

namespace Sys2Proof.Machine

/-! Ports and lanes (R300). -/

def laneBase (p : Nat) : Nat := if p = 0 then 0 else if p = 1 then 4 else 8 + 2 * (p - 2)
def laneCount (p : Nat) : Nat := if p < 2 then 4 else 2
def portOfLane (l : Nat) : Nat := if l < 4 then 0 else if l < 8 then 1 else 2 + (l - 8) / 2
def laneList (p : Nat) : List Nat := (List.range (laneCount p)).map (laneBase p + ·)

/-- The domain of a port's lanes. -/
def portDomain (p : Nat) : Nat := if p < 2 then 50 else 51

/-- An event of the port's lane 0 (R335). -/
def Dev.portEvent (d : Dev) (p cause : Nat) : Dev := d.event (236 + laneBase p) cause 0

/-- PORT_STATE changed, with its event; CHAIN_LAST follows the downstream port (R328), and a Gallery port that is ACTIVE again is
no longer a lost one (R327). -/
def Dev.setPortState (d : Dev) (p st : Nat) : Dev :=
  if d.portState p = st then d
  else
    let d := d.set (portKey p 0x02) st
    let d := if p = 1 then d.set K.CHAIN_LAST (b2n (st != 5)) else d
    let d : Dev := if 2 ≤ p ∧ st = 5 then { d with galLost := clrBit d.galLost (p - 2) } else d
    d.portEvent p 3

/-- LANE_STATE changed; an eye scan ends ABORTED on a lane that leaves ACTIVE and STANDBY (R332). -/
def Dev.setLane (d : Dev) (l st : Nat) : Dev :=
  let d := d.set (K.LANE_STATE l) st
  if (d.get (K.EYE_STATE l) = 2 ∨ d.get (K.EYE_STATE l) = 3) ∧ st ≠ 4 ∧ st ≠ 6 then
    (d.set (K.EYE_STATE l) 5).event (236 + l) 2 0
  else d

/-- The taps a transmitter starts TRAIN with: P1 (R308). -/
def tapsP1 : Nat := fld 10 5 8 + fld 4 6 55

/-- The lanes used out of a mask of lanes locked at both ends (R306), as a mask; 0 none. -/
def widthMask (p mask : Nat) : Nat :=
  let l := setBits (laneCount p) mask
  let w := if 2 ≤ p then (if l.length = 2 then 2 else 0) else if 4 ≤ l.length then 4 else if 2 ≤ l.length then 2 else l.length
  maskOf (l.take w)

/-- Width `w` taken over a mask of locked lanes: lanes in it ACTIVE, other locked ones STANDBY (R306). -/
def Dev.takeWidth (d : Dev) (p w mask : Nat) : Dev :=
  let d := (d.set (portKey p 0x03) (popCount 4 w)).set (portKey p 0x04) w
  (setBits (laneCount p) mask).foldl (fun d j => d.setLane (laneBase p + j) (if bit w j then 4 else 6)) d

/-- The largest width over a mask of locked lanes taken (R306). -/
def Dev.applyWidth (d : Dev) (p mask : Nat) : Dev := d.takeWidth p (widthMask p mask) mask

/-- Every unacknowledged frame is sent again, under the present ACK and limits (R315). -/
def Dev.resend (d : Dev) (p : Nat) : Dev :=
  let l := (d.port p).replay.map (fun f => (p, d.frameOf p f.kind f.op f.fseq false f.body))
  (({ d with wire := d.wire ++ l } : Dev).bumpBy (portKey p 0x0E) l.length).bumpBy (portKey p 0x11) l.length

/-- A CTRL frame sent (R314): CTRL_OP, its lane mask for 4 to 7, NAK. -/
def Dev.ctrl (d : Dev) (p op mask : Nat) (nak : Bool) : Dev :=
  ({ d with egress := d.egress ++ [.ctrl p op mask nak] } : Dev).transmit p (d.frameOf p 2 op 0 nak (if 4 ≤ op then [mask] else []))

/-- The training word a lane sends (R308). -/
def Dev.trainWord (d : Dev) (l preReq postReq preset : Nat) : Nat :=
  let t := d.get (K.TX_TAPS l)
  let s := (Table.at d.lanes {} l).sts
  let p := portOfLane l
  fld 43 1 (b2n (bit (d.port p).adapted (l - laneBase p))) + fld 38 2 preReq + fld 36 2 postReq + fld 33 3 preset +
  fld 30 2 (s % 4) + fld 28 2 (s / 4) + fld 18 6 (bits t 4 6) + fld 13 5 (bits t 10 5) + fld 9 4 (t % 16) + fld 0 2 (l - laneBase p)

/-- A training word leaves a lane, with requests to the partner (R308). -/
def Dev.trainSend (d : Dev) (l preReq postReq preset : Nat) : Dev := d.emit [.train l (d.trainWord l preReq postReq preset)]

/-- A lane trains anew: its taps at P1, its replies NOT_UPDATED, no receiver adapted at either end; its first training word
leaves (R308). -/
def Dev.laneFresh (d : Dev) (l st : Nat) : Dev :=
  let p := portOfLane l
  let j := l - laneBase p
  let d : Dev := { d with lanes := Table.put d.lanes l { (Table.at d.lanes {} l) with sts := 0, wait := false } }
  let d := (d.setLane l st).set (K.TX_TAPS l) tapsP1
  let x := d.port p
  (d.setPort p { x with adapted := clrBit x.adapted j, partner := clrBit x.partner j }).trainSend l 0 0 0

/-- A lane of an ACTIVE port trains on its own: RETRAIN (R308, R317, R318). -/
def Dev.toRetrain (d : Dev) (l : Nat) : Dev :=
  let p := portOfLane l
  let j := l - laneBase p
  let x := d.port p
  (d.setPort p { x with locked := clrBit x.locked j }).laneFresh l 5

/-- A port's own frames are gone, sent or not; those that were to be forwarded over it are discarded and counted (R305,
R320). -/
def Dev.portCleared (d : Dev) (p : Nat) : Dev := (d.bumpBy K.FWD_DISCARDED (d.port p).fwd.length).setPort p {}

/-! Loss of a port (R305, R317, R327). -/

/-- The port goes to BACKOFF with a cause in LAST_FAIL; its replay buffer is discarded and its lanes idle. -/
def Dev.toBackoff (d : Dev) (p cause : Nat) : Dev :=
  let d := (d.set (portKey p 0x10) (256 * d.portState p + cause)).bump (portKey p 0x0A)
  let d := d.setAll [(portKey p 0x03, 0), (portKey p 0x04, 0), (portKey p 0x07, 0), (portKey p 0x08, 0)]
  let d := (laneList p).foldl (fun d l => if d.get (K.LANE_STATE l) = 7 then d else d.setLane l 8) d
  (d.portCleared p).setPortState p 6

/-- GALLERY_LOSS while this chip belongs to a sync domain, of a port that must be ACTIVE again for it to clear (R131, R327). -/
def Dev.galleryLoss (d : Dev) (p : Nat) : Dev :=
  if d.get K.SYNC_ROLE = 1 ∨ d.get K.SYNC_ROLE = 2 then
    ({ d with galLost := setBit d.galLost (p - 2) } : Dev).setUnsure (setBit (d.get K.UNSURE_CAUSE) 1)
  else d

/-- Every lane of an ACTIVE port is lost (R305), or any lane of a Gallery port (R327). -/
def portLost (m : Memory) (d : Dev) (p : Nat) : Memory × Dev :=
  let d := d.toBackoff p 5
  if p < 2 then raiseFault m d 25 (portIdx p) 0 (some (236 + laneBase p, 6, 0)) [] []
  else raiseFault m (d.galleryLoss p) 26 (portIdx p) 0 (some (236 + laneBase p, 6, 0)) [] []

/-- Narrowing begins (R317): sequenced sending stops and WIDTH_REQ carries the lanes still locked. -/
def Dev.narrowBegin (d : Dev) (p mask : Nat) : Dev :=
  (d.setPort p { d.port p with narrow := some mask, rejoin := none }).ctrl p 4 mask false

/-- Narrowing ends over the lanes locked at both ends (R317): a lane in use or STANDBY outside them goes to RETRAIN, and every
lane lost from the width but one put into LOOP (R333) raises LANE_LOST. -/
def narrowEnd (m : Memory) (d : Dev) (p inter : Nat) : Memory × Dev :=
  let up := d.get (portKey p 0x04)
  if widthMask p inter = 0 then portLost m d p
  else
    let st (j : Nat) : Nat := d.get (K.LANE_STATE (laneBase p + j))
    let gone := (List.range (laneCount p)).filter (fun j => !(bit inter j) && (st j == 4 || st j == 6))
    let lost := (setBits (laneCount p) up).filter (fun j => !(bit inter j) && st j != 7)
    let d := d.setPort p { d.port p with narrow := none, rejoin := none }
    let d := (gone.foldl (fun d j => d.toRetrain (laneBase p + j)) d).applyWidth p inter
    let d := ((d.bump (portKey p 0x0C)).resend p).drainPort p
    match lost with
    | [] => (m, d.portEvent p 4)
    | _ => lost.zipIdx.foldl (fun (q : Memory × Dev) x =>
        raiseFault q.1 q.2 24 (0x0220 + laneBase p + x.1) 0 (if x.2 = 0 then some (236 + laneBase p, 4, 0) else none) [] []) (m, d)

/-- The port keeps its negotiated values and trains again (R305). -/
def Dev.retrainPort (d : Dev) (p : Nat) : Dev :=
  let lanes := (List.range (laneCount p)).filter (fun j => [4, 5, 6].contains (d.get (K.LANE_STATE (laneBase p + j))))
  let d := lanes.foldl (fun d j => d.laneFresh (laneBase p + j) 2) d
  let d := (d.set (portKey p 0x03) 0).set (portKey p 0x04) 0
  (d.setPort p { d.port p with retrain := true, rate := d.get (portKey p 0x05), detected := maskOf lanes, adapted := 0, partner := 0, locked := 0,
                               narrow := none, rejoin := none, resends := 0 }).setPortState p 2

/-- One more resend of the same oldest frame; the eighth starts a RETRAIN (R315). -/
def Dev.resendAgain (d : Dev) (p : Nat) : Dev :=
  let x := d.port p
  if x.replay.isEmpty ∨ x.narrow.isSome then d
  else
    let d := (d.setPort p { x with resends := x.resends + 1 }).resend p
    if 8 ≤ x.resends + 1 then (d.set (portKey p 0x10) (256 * 5 + 6)).retrainPort p else d

/-! Port commands (R305, R327, R329). -/

/-- PORT_CMD ENABLE. -/
def portEnable (d : Dev) (p : Nat) : Except Abort Dev := do
  need (d.portState p == 0) .state
  need (d.domOn (portDomain p)) .state
  let d := (laneList p).foldl (fun d l => if d.get (K.LANE_STATE l) = 7 then d else d.setLane l 1) d
  .ok (((d.set (portKey p 0x0B) 1).portCleared p).setPortState p 1)

/-- PORT_CMD DISABLE. -/
def portDisable (d : Dev) (r : Req) (p : Nat) : Except Abort Dev := do
  need (r.port != p) .state
  need (decide (p < 2) || d.syncStopped) .state
  let d := if 2 ≤ p then d.galleryLoss p else d
  let d := d.setAll [(portKey p 0x03, 0), (portKey p 0x04, 0), (portKey p 0x07, 0), (portKey p 0x08, 0)]
  let d := (laneList p).foldl (fun d l => if d.get (K.LANE_STATE l) = 7 then d else d.setLane l 0) d
  .ok ((d.portCleared p).setPortState p 0)

/-- PORT_CMD RETRAIN. -/
def portRetrain (d : Dev) (p : Nat) : Except Abort Dev := do
  need (d.portState p == 5) .state
  .ok (d.retrainPort p)

/-! Bring-up (R305 to R308). -/

/-- Lanes kept electrically idle at shed level 4 (R317, R384). -/
def Dev.shedMask (d : Dev) (p mask : Nat) : Nat :=
  if 4 ≤ d.get K.SHED_LEVEL then (if p = 0 then mask &&& 1 else 0) else mask

/-- RECEIVER_DETECT: in DETECT a detected receiver moves the port to TRAIN, the lanes taking part from reset on (R309); on an
ACTIVE port lanes back in DETECT begin to retrain. -/
def receiverDetect (d : Dev) (p lanes : Nat) : Dev :=
  let up := d.portState p
  let mask := d.shedMask p (maskOf ((setBits (laneCount p) lanes).filter (fun j =>
    let st := d.get (K.LANE_STATE (laneBase p + j))
    st == 1 || (st == 0 && up == 1))))
  if mask = 0 then d
  else if up = 1 then
    let d := (List.range (laneCount p)).foldl (fun (d : Dev) j =>
      if d.get (K.LANE_STATE (laneBase p + j)) = 0 then d.setLane (laneBase p + j) 1 else d) d
    (((setBits (laneCount p) mask).foldl (fun (d : Dev) j => d.laneFresh (laneBase p + j) 2) d).setPort p
      { d.port p with detected := mask, adapted := 0, partner := 0, locked := 0, rate := d.get (portKey p 0x05) }).setPortState p 2
  else if up = 5 ∧ p < 2 then (setBits (laneCount p) mask).foldl (fun (d : Dev) j => d.toRetrain (laneBase p + j)) d
  else d

/-- Every lane that detected a receiver reports RX_READY at both ends: the port enters LOCK (R305). -/
def Dev.lockCheck (d : Dev) (p : Nat) : Dev :=
  let x := d.port p
  if d.portState p = 2 ∧ x.detected ≠ 0 ∧ x.detected &&& x.adapted &&& x.partner = x.detected then
    ((setBits (laneCount p) x.detected).foldl (fun d j => d.setLane (laneBase p + j) 3) d).setPortState p 3
  else d

/-- One tap request answered (R308): the tap, its status, and the main tap. `req`: 1 INC, 2 DEC; a request that would leave
the limits changes nothing. -/
def tapStep (req tap main top : Nat) : Nat × Nat × Nat :=
  match req with
  | 1 => if tap < top ∧ 24 < main then (tap + 1, 1, main - 1) else (tap, 3, main)
  | 2 => if 0 < tap then (tap - 1, 1, main + 1) else (tap, 2, main)
  | _ => (tap, 0, main)

/-- Pre, post of a preset (R308). -/
def preset (n : Nat) : Option (Nat × Nat) :=
  match n with | 1 => some (0, 0) | 2 => some (0, 8) | 3 => some (4, 12) | 4 => some (0, 16) | _ => none

/-- A lane in RETRAIN is not in its own backoff (R318). -/
def Dev.laneTries (d : Dev) (l : Nat) : Bool := d.get (K.LANE_STATE l) == 5 && !(Table.at d.lanes {} l).wait

/-- A lane trains: in TRAIN, or on its own in RETRAIN (R308, R318). -/
def Dev.laneTrains (d : Dev) (l : Nat) : Bool := d.get (K.LANE_STATE l) == 2 || d.laneTries l

/-- TRAINING_FRAME: tap requests are answered, RX_READY of the partner is noted. -/
def trainingFrame (d : Dev) (l word : Nat) : Dev :=
  if !(d.laneTrains l) then d
  else
    let p := portOfLane l
    let j := l - laneBase p
    let t := d.get (K.TX_TAPS l)
    let r := match preset (bits word 33 3) with
      | some q => ((q.1, 1, 63 - q.1 - q.2), (q.2, 1, 63 - q.1 - q.2))
      | none =>
        let a := tapStep (bits word 38 2) (t % 16) (bits t 4 6) 15
        let b := tapStep (bits word 36 2) (bits t 10 5) a.2.2 31
        (a, b)
    let d := d.set (K.TX_TAPS l) (fld 10 5 r.2.1 + fld 4 6 r.2.2.2 + fld 0 4 r.1.1)
    let d : Dev := { d with lanes := Table.put d.lanes l { (Table.at d.lanes {} l) with sts := r.1.2.1 + 4 * r.2.2.1 } }
    let x := d.port p
    (d.setPort p { x with partner := putBit x.partner j (bit word 43) }).lockCheck p

/-- A LANE_ADAPT pass on a lane's receiver ends: with requests to the partner it goes on adapting, without any it has finished
(R308; log entry 21). -/
def Dev.laneAdapted (d : Dev) (l preReq postReq presetReq : Nat) : Dev :=
  let p := portOfLane l
  let x := d.port p
  let done := preReq == 0 && postReq == 0 && presetReq == 0
  let d := d.setPort p { x with adapted := putBit x.adapted (l - laneBase p) done }
  (d.trainSend l preReq postReq presetReq).lockCheck p

/-- The capabilities frame of a port leaves on its lanes (R310). -/
def Dev.capsSend (d : Dev) (p : Nat) : Dev :=
  { d with egress := d.egress ++ [.caps p (capsWords (if p = 0 then 2 else if p = 1 then 3 else 4) (if 2 ≤ p then d.get K.GAL_NODE else 0))] }

/-- Every 10 µs, 4,000 Wellhead clocks, each port in EXCHANGE sends it again (R310; log entry 21). -/
def Dev.capsAgain (d : Dev) : Dev :=
  if d.clk % 4000 = 0 then ((List.range 6).filter (fun p => d.portState p == 4)).foldl (fun (d : Dev) p => d.capsSend p) d else d

/-- What a port sends of itself, 400 Wellhead clocks (1 µs) apart: training words on the lanes that train (R308), WIDTH_REQ while
it narrows (R317), and the progress of reception where no frame has reported it (R315; log entry 21). -/
def Dev.linkAgain (d : Dev) : Dev :=
  if d.clk % 400 = 0 then
    let d := (List.range 6).foldl (fun (d : Dev) p =>
      if d.portState p = 5 then
        (let d := match (d.port p).narrow with
          | some mask => d.ctrl p 4 mask false
          | none => d
         if (d.port p).ackDue then d.ctrl p 1 0 false else d)
      else d) d
    (List.range 16).foldl (fun (d : Dev) l => if d.laneTrains l then d.trainSend l 0 0 0 else d) d
  else d

/-- LOCK ends with the lanes locked so far: the width is fixed, and every other lane but one in LOOP or kept idle retrains in the
background (R305, R306). -/
def Dev.lockDone (d : Dev) (p : Nat) : Dev :=
  let x := d.port p
  let d := (List.range (laneCount p)).foldl (fun (d : Dev) j =>
    let st := d.get (K.LANE_STATE (laneBase p + j))
    if bit x.locked j ∨ st = 7 ∨ st = 8 then d else d.toRetrain (laneBase p + j)) d
  let d := d.applyWidth p x.locked
  if x.retrain then (((d.setPort p { d.port p with retrain := false }).setPortState p 5).resend p).drainPort p
  else (d.capsSend p).setPortState p 4

/-- Locked lanes that would raise the width ask for a rejoin (R318). -/
def Dev.rejoinTry (d : Dev) (p : Nat) : Dev :=
  let x := d.port p
  let w := widthMask p x.locked
  if d.portState p = 5 ∧ x.narrow = none ∧ x.rejoin = none ∧ d.get (portKey p 0x03) < popCount 4 w then
    (d.setPort p { x with rejoin := some w }).ctrl p 6 w false
  else d

/-- A lane has locked, and measures its partner's clock from now on. -/
def Dev.laneLinked (d : Dev) (l : Nat) : Dev :=
  { d with lanes := Table.put d.lanes l { (Table.at d.lanes {} l) with linked := true } }

/-- LANE_LOCK. -/
def laneLock (d : Dev) (l : Nat) : Dev :=
  let p := portOfLane l
  let j := l - laneBase p
  let x := d.port p
  let x' := { x with locked := setBit x.locked j }
  if d.portState p = 3 ∧ d.get (K.LANE_STATE l) = 3 then
    let d := (d.laneLinked l).setPort p x'
    if x'.locked &&& x.detected = x.detected ∧ widthMask p x'.locked ≠ 0 then d.lockDone p else d
  else if (d.portState p = 5 ∨ d.portState p = 4) ∧ d.laneTries l then
    let d := d.laneLinked l
    let d := ({ d with lanes := Table.put d.lanes l { (Table.at d.lanes {} l) with next := 1 } } : Dev)
    let d := (d.setPort p x').setLane l 6
    if bit (d.get (portKey p 0x08)) 2 then d.rejoinTry p else d
  else d

/-- STABILITY_HOLD_END. -/
def stabilityHoldEnd (d : Dev) (l : Nat) : Dev :=
  let p := portOfLane l
  if d.get (K.LANE_STATE l) = 6 ∧ p < 2 then d.rejoinTry p else d

/-- STAGE_TIMEOUT (R305, R307): of a port in bring-up, or of the lanes of an ACTIVE port that retrain on their own, which
begin their own backoff (R318). -/
def stageTimeout (d : Dev) (p : Nat) : Dev :=
  let st := d.portState p
  if st = 3 ∧ widthMask p (d.port p).locked ≠ 0 then d.lockDone p
  else if 1 ≤ st ∧ st ≤ 4 then (d.toBackoff p 1).portEvent p 6
  else if st = 5 then
    (laneList p).foldl (fun (d : Dev) l =>
      if d.laneTries l then { d with lanes := Table.put d.lanes l { (Table.at d.lanes {} l) with wait := true } } else d) d
  else d

/-- BACKOFF_EXPIRY (R305, R307), of a port or of the lanes of an ACTIVE port in their own backoff (R318); lanes that shed
level 4 keeps idle stay so. -/
def backoffExpiry (d : Dev) (p : Nat) : Dev :=
  if d.portState p = 6 ∧ d.shedMask p 15 ≠ 0 then
    let next := d.get (portKey p 0x0B)
    let d := (laneList p).foldl (fun d l =>
      if d.get (K.LANE_STATE l) = 7 ∨ !(bit (d.shedMask p 15) (l - laneBase p)) then d else d.setLane l 1) d
    (d.set (portKey p 0x0B) (min 1000 (2 * next))).setPortState p 1
  else if d.portState p = 5 then
    (laneList p).foldl (fun (d : Dev) l =>
      let x := Table.at d.lanes {} l
      if d.get (K.LANE_STATE l) = 5 ∧ x.wait then
        ({ d with lanes := Table.put d.lanes l { x with next := min 1000 (2 * x.next) } } : Dev).toRetrain l
      else d) d
  else d

/-- CAPABILITIES_FRAME (R310, R311, R325). -/
def capabilities (d : Dev) (p : Nat) (c : Caps) : Dev :=
  if d.portState p ≠ 4 then d
  else
    let fail (cause : Nat) : Dev := (d.toBackoff p cause).portEvent p 6
    let major := if bit c.majors 2 then 2 else if bit c.majors 1 then 1 else 0
    let roles := if p = 0 then [1, 3] else if p = 1 then [2] else [4]
    let oneWay := c.round / 2
    if major = 0 then fail 2
    else if !roles.contains c.role then fail 3
    else if 2 ≤ p ∧ 112000000 < oneWay then fail 4
    else
      let minor := if major = 2 then min c.minor2 3 else min c.minor1 2
      let feats := if major = 2 then c.feats &&& (if 3 ≤ minor then 7 else if 2 ≤ minor then 3 else if 1 ≤ minor then 1 else 0) else 0
      let d := d.setAll [(portKey p 0x07, 256 * major + minor), (portKey p 0x08, feats),
        (portKey p 0x09, fld 32 32 c.vendor + fld 0 32 c.device), (portKey p 0x0B, 1)]
      let d := if 2 ≤ p then
          d.setAll [(portKey p 0x20, oneWay), (portKey p 0x21, 128000000 - oneWay), (portKey p 0x23, c.galNode % 256)]
        else d
      let x := d.port p
      (d.setPort p { detected := x.detected, adapted := x.adapted, partner := x.partner, locked := x.locked, fwd := x.fwd,
                     rate := x.rate }).setPortState p 5

/-! Frames (R312 to R316). -/

/-- Frames up to FSEQ `a` are acknowledged. -/
def Dev.acked (d : Dev) (p a : Nat) : Dev :=
  let x := d.port p
  match x.replay.findIdx? (fun f => f.fseq == a) with
  | some i => (d.setPort p { x with replay := x.replay.drop (i + 1), resends := 0 }).drainPort p
  | none => d

/-- What any intact header carries (R313, R315, R316). -/
def Dev.header (d : Dev) (p : Nat) (f : Frame) : Dev :=
  let d := d.bump (portKey p 0x12)
  let d := if d.portMajor p = 2 then
      (d.setPort p { d.port p with reqLim := f.reqLim, datLim := f.datLim, notLim := f.notLim }).drainPort p
    else d
  let d := d.acked p f.ack
  if f.nak then d.resendAgain p else d

/-- A frame that fails its CRC (R312, R315). -/
def Dev.crcError (d : Dev) (p : Nat) : Dev := (d.bump (portKey p 0x0F)).ctrl p 1 0 true

/-- A sequenced frame that arrived intact: its header acts, and whether it is the next in order; a gap is answered with NAK, a
duplicate discarded (R315). -/
def Dev.inOrder (d : Dev) (p : Nat) (f : Frame) : Dev × Bool :=
  let d := d.header p f
  let x := d.port p
  let delta := (f.fseq + 65536 - x.ack) % 65536
  if delta = 1 then (d.setPort p { x with ack := f.fseq, ackDue := true }, true)
  else if delta = 0 ∨ 32768 ≤ delta then (d, false)
  else (d.ctrl p 1 0 true, false)

/-- Bytes of the frames that came in on a port at 1.x and still wait: PAUSE_ON at 75 % of 64 KiB, PAUSE_OFF at 25 % (R316). -/
def Dev.pauseCheck (d : Dev) (p : Nat) : Dev :=
  let n := ((d.passing p).map (fun f => 8 * f.body.length)).sum
  let x := d.port p
  if p < 2 ∧ d.portState p = 5 ∧ d.portMajor p = 1 then
    if !x.pausing ∧ 49152 ≤ n then (d.setPort p { x with pausing := true }).ctrl p 2 0 false
    else if x.pausing ∧ n ≤ 16384 then (d.setPort p { x with pausing := false }).ctrl p 3 0 false
    else d
  else d

/-- A frame to be forwarded waits at its onward port (R320). -/
def Dev.onward (d : Dev) (p : Nat) (f : Frame) : Dev := (d.setPort p { d.port p with fwd := (d.port p).fwd ++ [f] }).pauseCheck (1 - p)

/-- Why a request is none of a command's: RANGE for a reserved TYPE, PHASE or field or a malformed ENUM or BULK, VERSION for
TIME at 1.x (R288, R292, R321, R322). -/
def Dev.faulty (d : Dev) (p : Nat) (f : Frame) : Option Abort :=
  if f.resp then none
  else if f.rsvd ∨ f.type = 0 ∨ 8 ≤ f.type ∨ (f.type = 7 ∧ !f.enumOk) then some .range
  else if f.type = 5 ∧ d.portMajor p = 1 then some .version
  else if (f.type = 3 ∧ (f.phase = 0 ∨ 6 ≤ f.phase)) ∨ (f.type = 6 ∧ !f.bulkOk) then some .range
  else none

/-- Such a request is refused. -/
def Dev.frameRefused (d : Dev) (p : Nat) (f : Frame) : Dev :=
  d.refuse ⟨p, f.src, f.tag, f.dst == 63⟩ f.type f.index f.sub ((d.faulty p f).getD .range) f.phase

/-- A request taken by this node: a faulty one is refused in its turn behind the requests of its port that wait, with BUSY where 32
are outstanding (R289), and one of TYPE DICT_READ, DICT_BLOCK or BULK to every node is discarded (R290). Every other request is
served by its own command. -/
def Dev.takeFrame (d : Dev) (p : Nat) (f : Frame) : Dev :=
  match d.faulty p f with
  | none => d
  | some _ =>
    if f.dst = 63 ∧ (f.type = 1 ∨ f.type = 3 ∨ f.type = 6) then d.bump K.BCAST_DISCARDED
    else if 32 ≤ d.outstanding p then d.refuse ⟨p, f.src, f.tag, f.dst == 63⟩ f.type f.index f.sub .busy f.phase
    else if d.outstanding p ≠ 0 then { d with held := d.held ++ [(p, .transFrameReceived p f)] }
    else d.frameRefused p f

/-- A TRANS frame accepted in order is taken, forwarded or discarded (R320, R321). An ENUM to every node that comes from
upstream is forwarded by its own command. -/
def Dev.route (d : Dev) (p : Nat) (f : Frame) : Dev :=
  let me := d.get K.NODE_ID
  let enum := f.type == 7 && !f.resp
  let mine := (f.dst == me && me != 0) || (f.dst == 63 && p == 0)
  let d := if mine && (me != 0 || enum) then d.takeFrame p f else d
  if p = 0 then
    (if f.dst = 0 then d.bump K.FWD_DISCARDED
     else if f.dst = 63 then (if enum && f.enumOk then d else d.onward 1 f)
     else if f.dst = me then d
     else d.onward 1 f)
  else if f.dst = me ∧ me ≠ 0 then d
  else d.onward 0 f

/-- The credits of a request received are counted (R316). -/
def Dev.received (d : Dev) (p : Nat) (f : Frame) : Dev :=
  let c := d.costs p f.body
  let x := d.port p
  d.setPort p { x with reqGot := x.reqGot + c.1, datGot := x.datGot + c.2.1, notGot := x.notGot + c.2.2 }

/-- TRANS_FRAME_RECEIVED (R312, R314, R315, R320). -/
def transFrame (d : Dev) (p : Nat) (f : Frame) : Dev :=
  if 2 ≤ p ∨ d.portState p ≠ 5 then d
  else if !f.intact then d.crcError p
  else if f.badKind then d.bump (portKey p 0x0F)
  else if f.kind ≠ 1 then d
  else
    let q := d.inOrder p f
    if q.2 then (q.1.received p f).route p f else q.1

/-- FRAME_FORWARD: the oldest frame waiting at an onward port leaves, waits for credit, or is discarded (R316, R320). -/
def frameForward (d : Dev) (p : Nat) : Dev :=
  let x := d.port p
  match x.fwd with
  | [] => d
  | f :: l =>
    let out := d.setPort p { x with fwd := l }
    if d.portState p ≠ 5 then (out.bump K.FWD_DISCARDED).pauseCheck (1 - p)
    else if !(d.mayGo p f.body) || !(d.canSend p (8 * f.body.length)) then d
    else ({ out.sendNow p 1 f.body with egress := d.egress ++ [.forward p f] } : Dev).pauseCheck (1 - p)

/-- REPLAY_TIMEOUT (R315). -/
def replayTimeout (d : Dev) (p : Nat) : Dev := if d.portState p = 5 then d.resendAgain p else d

/-- What PAUSE_ON and PAUSE_OFF do, at 1.x (R316). -/
def Dev.pauseActs (d : Dev) (p : Nat) (on : Bool) : Dev :=
  if d.portMajor p = 1 then
    let d := d.setPort p { d.port p with paused := on }
    if on then d.bump (portKey p 0x14) else d.drainPort p
  else d

/-- PAUSE_ON and PAUSE_OFF: frames whose header tells nothing new (log entry 53); with another header, `ctrlFrame`. -/
def pause (d : Dev) (p : Nat) (on : Bool) : Dev :=
  if d.portState p = 5 then (d.bump (portKey p 0x12)).pauseActs p on else d

/-! Narrowing and rejoin (R317 to R319). -/

/-- BLOCK_LOCK_LOST. -/
def blockLockLost (m : Memory) (d : Dev) (l : Nat) : Memory × Dev :=
  let p := portOfLane l
  let j := l - laneBase p
  let x := d.port p
  if !(bit x.locked j) then (m, d)
  else
    let x' := { x with locked := clrBit x.locked j, adapted := clrBit x.adapted j, partner := clrBit x.partner j, rejoin := none }
    let d := ((d.bump (K.LOCK_LOSSES l)).event (236 + l) 1 0).setPort p x'
    if d.portState p ≠ 5 then (m, if d.get (K.LANE_STATE l) = 6 then d.toRetrain l else d)
    else if 2 ≤ p then portLost m d p
    else if d.get (K.LANE_STATE l) = 6 then (m, d.toRetrain l)
    else if widthMask p x'.locked = 0 then portLost m d p
    else (m, d.narrowBegin p x'.locked)

/-- What WIDTH_REQ does: answered with the intersection; lanes in use that the partner lost narrow this end too. -/
def widthAsked (m : Memory) (d : Dev) (p mask : Nat) : Memory × Dev :=
  if 2 ≤ p then (m, d)
  else
    let inter := mask &&& (d.port p).locked
    let d := d.ctrl p 5 inter false
    let up := d.get (portKey p 0x04)
    if (d.port p).narrow.isSome ∨ up &&& inter ≠ up then narrowEnd m d p inter else (m, d)

/-- What WIDTH_ACK does. -/
def widthAnswered (m : Memory) (d : Dev) (p mask : Nat) : Memory × Dev :=
  match (d.port p).narrow with
  | some own => narrowEnd m d p (mask &&& own &&& (d.port p).locked)
  | none => (m, d)

/-- WIDTH_REQ and WIDTH_ACK: intact frames of an ACTIVE port. -/
def widthReq (m : Memory) (d : Dev) (p mask : Nat) : Memory × Dev :=
  if d.portState p = 5 then widthAsked m (d.bump (portKey p 0x12)) p mask else (m, d)
def widthAck (m : Memory) (d : Dev) (p mask : Nat) : Memory × Dev :=
  if d.portState p = 5 then widthAnswered m (d.bump (portKey p 0x12)) p mask else (m, d)

/-- The wider mask is taken at the next frame boundary (R318). -/
def Dev.rejoined (d : Dev) (p mask : Nat) : Dev :=
  let x := d.port p
  (((d.setPort p { x with rejoin := none }).takeWidth p mask x.locked).bump (portKey p 0x0D)).portEvent p 5

/-- What REJOIN_REQ does: answered while every lane of the mask is locked here. -/
def Dev.rejoinAsked (d : Dev) (p mask : Nat) : Dev :=
  let x := d.port p
  if p < 2 ∧ x.narrow = none ∧ mask ≠ 0 ∧ widthMask p (mask &&& x.locked) = mask then (d.ctrl p 7 mask false).rejoined p mask
  else d

/-- What REJOIN_ACK does. -/
def Dev.rejoinAnswered (d : Dev) (p mask : Nat) : Dev :=
  match (d.port p).rejoin with
  | some w => if w = mask then d.rejoined p w else d
  | none => d

/-- REJOIN_REQ and REJOIN_ACK: intact frames of an ACTIVE port. -/
def rejoinReq (d : Dev) (p mask : Nat) : Dev := if d.portState p = 5 then (d.bump (portKey p 0x12)).rejoinAsked p mask else d
def rejoinAck (d : Dev) (p mask : Nat) : Dev := if d.portState p = 5 then (d.bump (portKey p 0x12)).rejoinAnswered p mask else d

/-- ACK_ONLY, or a CTRL frame of another CTRL_OP with its header (R313, R314, R315; log entry 53): the header acts, then the
CTRL_OP with the lane mask of the first payload word. -/
def ctrlFrame (m : Memory) (d : Dev) (p : Nat) (f : Frame) : Memory × Dev :=
  if d.portState p ≠ 5 then (m, d)
  else if !f.intact then (m, d.crcError p)
  else if f.badKind then (m, d.bump (portKey p 0x0F))
  else if f.kind ≠ 2 then (m, d)
  else
    let d := d.header p f
    let mask := f.body.headD 0 % 16
    if d.portState p ≠ 5 then (m, d)
    else match f.op with
    | 2 => (m, d.pauseActs p true)
    | 3 => (m, d.pauseActs p false)
    | 4 => widthAsked m d p mask
    | 5 => widthAnswered m d p mask
    | 6 => (m, d.rejoinAsked p mask)
    | 7 => (m, d.rejoinAnswered p mask)
    | _ => (m, d)

/-- Shed level 4: every lane but lane 0 electrically idle (R317, R384); a lane in LOOP stays so until LOOP_EXIT (R423). -/
def shedLanes (m : Memory) (d : Dev) : Memory × Dev :=
  let q := (List.range 5).foldl (fun (q : Memory × Dev) i =>
    let p := i + 1
    if q.2.portState p = 5 then portLost q.1 q.2 p
    else if q.2.portState p = 0 ∨ q.2.portState p = 6 then q
    else (q.1, (q.2.toBackoff p 5).portEvent p 6)) (m, d)
  let d := (List.range 15).foldl (fun (d : Dev) i =>
    if d.get (K.LANE_STATE (i + 1)) = 0 ∨ d.get (K.LANE_STATE (i + 1)) = 7 then d else d.setLane (i + 1) 8) q.2
  let x := d.port 0
  let d := d.setPort 0 { x with locked := x.locked &&& 1, detected := x.detected &&& 1, rejoin := none }
  if d.portState 0 ≠ 5 then (q.1, d)
  else if !(bit (d.get (portKey 0 0x04)) 0) then portLost q.1 d 0
  else if d.get (portKey 0 0x04) = 1 then (q.1, d)
  else (q.1, d.narrowBegin 0 1)

/-! Enumeration (R321). -/

/-- An ENUM request that came from upstream goes on downstream, or is discarded. -/
def Dev.enumOn (d : Dev) (r : Req) (op n : Nat) : Dev :=
  if d.portState 1 = 5 then
    ({ d with egress := d.egress ++ [.enum 1 op n] } : Dev).linkSend 1 1
      (transWords (transHead 8 0 0 0 0 r.tag 7 false r.src 63) (enumBytes op n))
  else d.bump K.FWD_DISCARDED

/-- ENUM_CLEAR; one that comes from downstream is not this node's (R320). -/
def enumClear (d : Dev) (r : Req) : Dev := if r.port ≠ 0 then d else (d.set K.NODE_ID 0).enumOn r 1 0

/-- ENUM_ASSIGN. NEXT_ID 0, of which the spec says nothing, is neither taken nor forwarded (log entry 21). -/
def enumAssign (d : Dev) (r : Req) (n : Nat) : Dev :=
  if r.port ≠ 0 then d
  else if d.get K.NODE_ID ≠ 0 then d.enumOn r 2 n
  else if 63 ≤ n then d.bump K.ENUM_REFUSED
  else if n = 0 then d
  else
    let id := toBytes 4 0xCAE1 ++ toBytes 4 0x2564 ++ toBytes 8 Config.serial.toNat
    let d := d.set K.NODE_ID n
    (({ d with egress := d.egress ++ [.enumId r.port n id] } : Dev).linkSend r.port 1 (d.response r 7 0 0 0 0 id)).enumOn r 2 (n + 1)

/-! Loopback and PRBS (R333, R334). -/

/-- A counter of a lane advances by an amount the commands do not say (R331). -/
def Dev.freeBump (d : Dev) (key : Nat) : Dev := (d.free 64).2.bumpBy key (d.free 64).1

/-- A lane's counters brought up to date: since the last Wellhead clock they were looked at, blocks with invalid sync headers
and skip blocks came by and a locked checker checked bits, as many as there were (R331, R334; log entry 21). -/
def Dev.laneMeasure (d : Dev) (l : Nat) : Dev :=
  let x := Table.at d.lanes {} l
  if x.seen = d.clk then d
  else
    let d : Dev := { d with lanes := Table.put d.lanes l { x with seen := d.clk } }
    let st := d.get (K.LANE_STATE l)
    let d := if st = 3 ∨ st = 4 ∨ st = 5 ∨ st = 6 then d.freeBump (K.SYNC_ERRORS l) else d
    let d := if (st = 4 ∨ st = 6) ∧ l < 8 then d.freeBump (K.SKIP_ADJUSTS l) else d
    if st = 7 ∧ d.get (K.PRBS_LOCKED l) = 1 then (d.freeBump (K.PRBS_BITS l)).freeBump (K.PRBS_ERRORS l) else d

/-- LANE_CMD LOOP_ENTER. -/
def loopEnter (d : Dev) (l : Nat) : Except Abort Dev := do
  let p := portOfLane l
  let j := l - laneBase p
  let st := d.get (K.LANE_STATE l)
  let up := d.get (portKey p 0x04)
  let inUse := bit up j
  let others := (List.range 4).filter (fun i => i != j && bit up i && d.get (K.LANE_STATE (laneBase p + i)) != 7)
  need (d.domOn (portDomain p)) .state
  need (d.portState p == 0 || (decide (p < 2) && d.portState p == 5 &&
    (st == 5 || st == 6 || (inUse && st != 7 && !others.isEmpty)))) .state
  let d := d.laneMeasure l
  let x := d.port p
  let x' := { x with locked := clrBit x.locked j, rejoin := none }
  let d := (d.setPort p x').setLane l 7
  let d := if d.portState p = 5 ∧ inUse then d.narrowBegin p x'.locked else d
  .ok (d.setAll [(K.PRBS_LOCKED l, 0), (K.PRBS_BITS l, 0), (K.PRBS_ERRORS l, 0), (K.INJECTED l, 0)])

/-- LANE_CMD LOOP_EXIT. -/
def loopExit (d : Dev) (l : Nat) : Except Abort Dev := do
  need (d.get (K.LANE_STATE l) == 7) .state
  .ok (((d.laneMeasure l).set (K.PRBS_LOCKED l) 0).setLane l (if d.portState (portOfLane l) = 0 then 0 else 1))

/-- The PRBS of a selection: degree and second tap of its polynomial, and the next state of a generator of that degree, whose new
bit is the lowest (R334). -/
def prbsTaps (sel : Nat) : Nat × Nat := match sel with | 0 => (7, 6) | 1 => (15, 14) | 2 => (23, 18) | _ => (31, 28)
def prbsNext (sel s : Nat) : Nat :=
  let t := prbsTaps sel
  (2 * s + b2n (bit s (t.1 - 1) != bit s (t.2 - 1))) % 2 ^ t.1

/-- What a lane's transmitter sends: nothing, training frames, 64b/66b blocks, the PRBS selected, or in FAR_END the receiver's
data (R308, R332 to R334). -/
inductive LaneOut where
  | idle | training | blocks | prbs (sel : Nat) | receiverData
  deriving DecidableEq, Repr

/-- What a lane sends follows from its state and LOOP_CFG; at shed level 4 every lane but lane 0 is idle (R317, R334). -/
def Dev.laneSends (d : Dev) (l : Nat) : LaneOut :=
  let cfg := d.get (K.LOOP_CFG l)
  if d.pwr.resetLow || !(d.domOn (portDomain (portOfLane l))) || d.pwr.refLost || (decide (4 ≤ d.get K.SHED_LEVEL) && l != 0) then .idle
  else match d.get (K.LANE_STATE l) with
    | 2 | 5 => .training
    | 3 | 4 | 6 => .blocks
    | 7 => if bits cfg 8 2 = 2 then .receiverData else .prbs (bits cfg 4 2)
    | _ => .idle

/-- One transmitted bit inverted; the lane's own checker sees it in NEAR_PMA loopback while locked (R334). -/
def Dev.injectBit (d : Dev) (l : Nat) : Dev :=
  let d := d.bump (K.INJECTED l)
  if d.get (K.PRBS_LOCKED l) = 1 ∧ bits (d.get (K.LOOP_CFG l)) 8 2 = 1 then d.bump (K.PRBS_ERRORS l) else d

/-- LANE_CMD INJECT. -/
def injectCmd (d : Dev) (l : Nat) : Except Abort Dev := do
  need (d.get (K.LANE_STATE l) == 7) .state
  .ok (d.injectBit l)

/-- PERIODIC_INJECT: INJ_PERIOD bits have passed. -/
def periodicInject (d : Dev) (l : Nat) : Dev :=
  if d.get (K.LANE_STATE l) = 7 ∧ bit (d.get (K.LOOP_CFG l)) 0 then
    let d := if d.get (K.PRBS_LOCKED l) = 1 then d.bumpBy (K.PRBS_BITS l) (d.get (K.INJ_PERIOD l)) else d
    d.injectBit l
  else d

/-- PRBS_CHECKER_LOCK: the checker locks, or resynchronises. -/
def prbsLock (d : Dev) (l : Nat) (locked : Bool) : Dev :=
  if d.get (K.LANE_STATE l) = 7 then (d.laneMeasure l).set (K.PRBS_LOCKED l) (b2n locked) else d

/-! Eye scans (R332). -/

/-- LANE_CMD EYE_START. -/
def eyeStart (d : Dev) (l : Nat) : Except Abort Dev := do
  need (d.get (K.LANE_STATE l) == 4 || d.get (K.LANE_STATE l) == 6) .state
  need (d.get (K.EYE_STATE l) != 2 && d.get (K.EYE_STATE l) != 3) .state
  .ok (({ d with eyes := Table.put d.eyes l {} } : Dev).setAll [(K.EYE_STATE l, 2), (K.EYE_BITS l, 0), (K.EYE_ERRS l, 0)])

/-- LANE_CMD EYE_ABORT (log entry 21). -/
def eyeAbort (d : Dev) (l : Nat) : Except Abort Dev := do
  need (d.get (K.EYE_STATE l) == 2 || d.get (K.EYE_STATE l) == 3) .state
  .ok ((d.set (K.EYE_STATE l) 5).event (236 + l) 2 0)

/-- The scan after a point: the next step, or none at its end. -/
def Eye.after (e : Eye) (isOpen : Bool) (top bottom : Nat) : Eye × Bool :=
  if !e.neg then
    if isOpen then
      let e := { e with hi := some e.step, lo := if e.step = 0 then some 0 else e.lo }
      if e.step < top then ({ e with step := e.step + 1 }, false) else ({ e with neg := true, step := 1 }, false)
    else if e.step = 0 then (e, true) else ({ e with neg := true, step := 1 }, false)
  else if isOpen then
    let e := { e with lo := some e.step }
    if e.step < bottom then ({ e with step := e.step + 1 }, false) else (e, true)
  else (e, true)

/-- The scan is DONE: the last open steps of a WIDTH or HEIGHT scan; a free value where no point was open. -/
def Dev.eyeDone (d : Dev) (l mode : Nat) (e : Eye) : Dev :=
  let d := if mode = 0 then d
    else match e.lo, e.hi with
      | some a, some b => (d.set (K.EYE_LO l) (ofSigned 8 (-(a : Int)))).set (K.EYE_HI l) b
      | _, _ =>
        let f := d.free 8
        let g := f.2.free 8
        (g.2.set (K.EYE_LO l) f.1).set (K.EYE_HI l) g.1
  (d.set (K.EYE_STATE l) 4).event (236 + l) 2 0

/-- EYE_POINT_DONE: at shed level 1 the scan pauses at the end of its present point. -/
def eyePointDone (d : Dev) (l mism : Nat) : Dev :=
  if d.get (K.EYE_STATE l) ≠ 2 then d
  else
    let mode := bits (d.get (K.EYE_CFG l)) 16 2
    let d := (d.bumpBy (K.EYE_BITS l) (1000000 * d.get (K.EYE_DWELL l))).bumpBy (K.EYE_ERRS l) mism
    let e := (Table.at d.eyes {} l)
    if mode = 0 then d.eyeDone l 0 e
    else
      let r := e.after (decide (mism ≤ d.get (K.EYE_THRESH l))) (if mode = 1 then 31 else 63) (if mode = 1 then 32 else 64)
      let d : Dev := { d with eyes := Table.put d.eyes l r.1 }
      if r.2 then d.eyeDone l mode r.1
      else if 1 ≤ d.get K.SHED_LEVEL then d.set (K.EYE_STATE l) 3
      else d

/-- Paused scans go on when the level is released (R332). -/
def Dev.eyesResume (d : Dev) : Dev :=
  (List.range 16).foldl (fun (d : Dev) l => if d.get (K.EYE_STATE l) = 3 then d.set (K.EYE_STATE l) 2 else d) d

/-- A write of a lane test setting (R331). -/
def laneSettingOk (d : Dev) (key : Nat) : Bool :=
  let l := key / 256 - 0x220
  let s := key % 256
  if s = 0x10 ∨ s = 0x11 then d.get (K.LANE_STATE l) != 7
  else d.get (K.EYE_STATE l) != 2 && d.get (K.EYE_STATE l) != 3

end Sys2Proof.Machine
end

