-- ==== Sys2Proof/Machine/Wellhead.lean ====
section
/-! DEFINITION. Wellhead: the time bases and their exchange (R336 to R347), marks (R348, R349), alarms (R350 to R354), and
with them what crosses the Gallery: epochs and bonding (R93 to R98, R129, R130, R325, R326). Times are exact in
1/1024 fs: 1/256 ns is 4,000,000 of them, 2^-16 ns is 15,625. -/

namespace Sys2Proof.Machine

/-! Time values. -/

/-- One femtosecond and one nanosecond in 1/1024 fs. -/
def fsU : Nat := 1024
def nsU : Nat := 1024000000

/-- A base's present value in 1/1024 fs; TB1 as its ticks × 10 ns and the Wellhead clocks into the tick (R337). -/
def Dev.baseU (d : Dev) (b : Nat) : Nat :=
  if b = 1 then (4 * d.tb1 + d.tb1Sub) * 2560000000 else Table.at d.tbs 0 b * 1024000000 / 2 ^ 41

/-- A time in 1/1024 fs cut to the internal resolution of 1/256 ns (R337). -/
def cutU (x : Int) : Int := x / 4000000 * 4000000

/-- The stamp in a base of an instant `off` fs after its present value (R345). -/
def Dev.stampU (d : Dev) (b : Nat) (off : Int) : Int := cutU ((d.baseU b : Int) + off * fsU)

/-- STAMP80 of a time in 1/1024 fs, truncated to whole nanoseconds (R337). -/
def stamp80 (x : Nat) : Nat :=
  let ns := x / nsU
  ((ns / 1000000000) * 2 ^ 32 + ns % 1000000000) % 2 ^ 80

/-- A STAMP80 in 1/1024 fs. -/
def ofStamp80 (t : Nat) : Nat := (t / 2 ^ 32 * 1000000000 + t % 2 ^ 32) * nsU

/-- STAMP80 of a stamp; one before 0 has no value in the spec and is free. -/
def Dev.stampObj (d : Dev) (x : Int) : Nat × Dev :=
  if 0 ≤ x ∧ x < 2 ^ 48 * 1000000000 * (nsU : Int) then (stamp80 x.toNat, d) else ((d.free 64).1, (d.free 64).2)

/-- TX_LAT and RX_LAT of a port in fs, by the LANE_RATE its lanes trained at (R329, R345). -/
def Dev.txLat (d : Dev) (p : Nat) : Int :=
  match (d.port p).rate with | 0 => 41600000 | 1 => 30900000 | 2 => 17200000 | _ => 15900000
def Dev.rxLat (d : Dev) (p : Nat) : Int :=
  match (d.port p).rate with | 0 => 57300000 | 1 => 43000000 | 2 => 24800000 | _ => 23100000

/-- Ingress and egress stamps at the balls (R345). -/
def Dev.ingress (d : Dev) (b p : Nat) (raw : Int) : Int := d.stampU b (raw - d.rxLat p)
def Dev.egressAt (d : Dev) (b p : Nat) (raw : Int) : Int := d.stampU b (raw + d.txLat p)

/-- An I64 object value, saturating (R338). -/
def satI64 (x : Int) : Nat := ofSigned 64 (clampInt (-9223372036854775808) 9223372036854775807 x)

/-- A port is ACTIVE at 2.x. -/
def Dev.at2 (d : Dev) (p : Nat) : Bool := d.portState p == 5 && d.portMajor p == 2

/-- What INIT and STOP leave of an exchange: its own SEQ_ID count, the instant of the last DELAY_REQ (R342) and a step that waits. -/
def Exch.ended (e : Exch) : Exch := { lastReq := e.lastReq, nextSeq := e.nextSeq, jump := e.jump }

def Dev.exchOf (d : Dev) (b : Nat) : Exch := Table.at d.exch {} b
def Dev.setExch (d : Dev) (b : Nat) (x : Exch) : Dev := { d with exch := Table.put d.exch b x }

/-- A Wellhead event (R354): the base or port in the information. -/
def Dev.wellEvent (d : Dev) (cause what : Nat) : Dev := d.event 288 cause what

/-! Time base commands (R341). -/

/-- An ARMED alarm slot stands on a base. -/
def Dev.alarmOn (d : Dev) (b : Nat) : Bool :=
  (List.range 32).any (fun s => d.get (K.ALM_STATE s) == 1 && d.get (K.ALM_BASE s) == b)

/-- A step of a base waits for the next Wellhead clock: to a value (true) or by an amount, in 1/1024 fs (R341, R345). -/
def Dev.stepSoon (d : Dev) (b : Nat) (abs : Bool) (v : Int) : Dev :=
  (d.setExch b { d.exchOf b with jump := some (abs, v) }).setB (K.TB_STATUS b) 0 true

/-- The Wellhead clock at which a base steps; STEP_BEFORE and STEP_AFTER record it (R341, R345). A value past the ends of
STAMP80 is free. -/
def Dev.stepNow (d : Dev) (b : Nat) (j : Bool × Int) : Dev :=
  let was := Table.at d.tbs 0 b
  let v : Int := (if j.1 then 0 else was) + j.2 * 2 ^ 41 / 1024000000
  let d := d.setExch b { d.exchOf b with jump := none }
  let d : Dev :=
    if 0 ≤ v ∧ v < 2 ^ 48 * 1000000000 * 2 ^ 41 then { d with tbs := Table.put d.tbs b v.toNat }
    else { (d.free 64).2 with tbs := Table.put d.tbs b (d.free 64).1 }
  d.setAll [(K.STEP_BEFORE b, stampOf was), (K.STEP_AFTER b, d.tbNow b)]

/-- TB_CMD INIT: RANGE, VERSION, BUSY (R341). LOCKED cleared raises UNLOCKED (R347). -/
def tbInit (d : Dev) (b : Nat) : Except Abort Dev := do
  need (d.get (K.TB_STATE b) == 0) .state
  need ([0, 2, 3].all (fun c => c == b || d.get (K.TB_STATE c) == 0 || d.get (K.TB_DOMAIN c) != d.get (K.TB_DOMAIN b))) .range
  need (d.get (K.INIT_MODE b) == 1 || d.at2 0) .version
  need (!d.alarmOn b) .busy
  let d := (d.setExch b { (d.exchOf b).ended with integral := toSigned 64 (d.get (K.RATE b)) }).set (K.EXCHANGES b) 0
  if d.get (K.INIT_MODE b) = 1 then .ok ((d.stepSoon b true (ofStamp80 (d.get (K.INIT_VALUE b)))).set (K.TB_STATE b) 2)
  else
    let e := (d.set (K.TB_STATUS b) (d.get (K.TB_STATUS b) / 4 * 4)).set (K.TB_STATE b) 1
    .ok (if bit (d.get (K.TB_STATUS b)) 1 then e.wellEvent 10 b else e)

/-- TB_CMD STOP. -/
def tbStop (d : Dev) (b : Nat) : Except Abort Dev := do
  need (d.get (K.TB_STATE b) == 1 || d.get (K.TB_STATE b) == 2) .state
  need (!d.alarmOn b) .busy
  .ok ((d.setExch b (d.exchOf b).ended).set (K.TB_STATE b) 0)

/-- A write of RATE. -/
def rateWrite (d : Dev) (b v : Nat) : Except Abort Dev := do
  need (!(d.get (K.SERVO_MODE b) == 1 && (d.get (K.TB_STATE b) == 1 || d.get (K.TB_STATE b) == 2))) .state
  .ok (d.set (K.RATE b) v)

/-! The exchange (R340 to R347). -/

/-- What every TIME frame meets at its port (R312, R313, R314, R288, R340, R343); true where it is one of the command's MSG
and is taken up. -/
def Dev.timeFrame (d : Dev) (m : TimeMsg) (msg : Nat) : Dev × Bool :=
  let f := m.frame
  if 2 ≤ m.port ∨ d.portState m.port ≠ 5 then (d, false)
  else if !f.intact then (d.crcError m.port, false)
  else if f.badKind then (d.bump (portKey m.port 0x0F), false)
  else if f.kind ≠ 3 then (d, false)
  else
    let d := d.header m.port f
    if d.portMajor m.port ≠ 2 then (d.takeFrame m.port f, false)
    else if !f.timeOk then (d.bump (portKey m.port 0x0F), false)
    else (d, f.msg == msg)

/-- A TIME frame is for this node (R320). -/
def Dev.timeMine (d : Dev) (m : TimeMsg) : Bool :=
  (m.frame.dst == d.get K.NODE_ID && m.frame.dst != 0) || (m.frame.dst == 63 && m.port == 0)

/-- A TIME frame goes on to the other port (R320); one that comes from upstream names no node beyond node 0. -/
def Dev.timeOn (d : Dev) (m : TimeMsg) : Bool :=
  m.frame.dst == 63 || (if m.frame.dst = 0 then m.port == 1 else m.frame.dst != d.get K.NODE_ID)

/-- A TIME frame sent on a port (R314): unsequenced and never resent. -/
def Dev.timeSend (d : Dev) (p : Nat) (words : List Nat) : Dev := d.transmit p (d.frameOf p 3 0 0 false words)

/-- The bases that bind a domain and take part in its exchange. -/
def Dev.basesOf (d : Dev) (domain : Nat) : List Nat :=
  [0, 2, 3].filter (fun b => (d.get (K.TB_STATE b) == 1 || d.get (K.TB_STATE b) == 2) && d.get (K.TB_DOMAIN b) == domain)

/-- The port a frame goes on to. -/
def onwardPort (p : Nat) : Nat := if p = 0 then 1 else 0

/-- Residence records still kept (R346): 10 ms are 4,000,000 Wellhead clocks. -/
def Dev.freshResid (d : Dev) : List Resid := d.resid.filter (fun x => decide (d.clk ≤ x.clk + 4000000))

/-- A SYNC or DELAY_REQ forwarded with its residence recorded (R320, R346). -/
def Dev.forwardEvent (d : Dev) (m : TimeMsg) (req : Bool) : Dev :=
  let q := onwardPort m.port
  if !d.timeOn m then (if m.frame.dst = 0 ∧ m.port = 0 then d.bump K.FWD_DISCARDED else d)
  else if !d.at2 q then d.bump K.FWD_DISCARDED
  else
    let r := (d.egressAt 1 q m.eg - d.ingress 1 m.port m.raw) / 15625
    let old := d.freshResid
    let old := if old.length < 16 then old else old.drop 1
    ({ d with resid := old ++ [⟨req, m.domain, m.seqId, if req then m.src else 0, r, d.clk⟩],
              egress := d.egress ++ [.time q m.frame.dst m.frame.msg m.domain m.seqId m.t m.corr m.node] } : Dev).timeSend q m.frame.body

/-- A FOLLOW_UP or DELAY_RESP forwarded with the residence of its event message added (R346). -/
def Dev.forwardGeneral (d : Dev) (m : TimeMsg) (req : Bool) : Dev :=
  let q := onwardPort m.port
  if !d.timeOn m then (if m.frame.dst = 0 ∧ m.port = 0 then d.bump K.FWD_DISCARDED else d)
  else if !d.at2 q then d.bump K.FWD_DISCARDED
  else
    let hit (x : Resid) : Bool := x.req == req && x.domain == m.domain && x.seqId == m.seqId && (!req || x.src == m.node)
    match d.freshResid.find? hit with
    | none => ({ d with resid := d.freshResid } : Dev).bump K.RES_MISSES
    | some x =>
      let c := toSigned 64 (ofSigned 64 (m.corr + x.r))
      ({ d with resid := d.freshResid.erase x,
                egress := d.egress ++ [.time q m.frame.dst m.frame.msg m.domain m.seqId m.t c m.node] } : Dev).timeSend q
        (timeWords m.frame.tag m.src m.frame.dst (timeBits m.t c m.seqId m.domain m.node m.frame.msg (bits m.frame.time 68 8) m.markBase))

/-- LOCKED after an exchange of offset `o` fs (R347). -/
def Dev.lockNote (d : Dev) (b : Nat) (o : Int) : Dev :=
  let x := d.exchOf b
  let inside := decide (o.natAbs ≤ d.get (K.LOCK_WINDOW b))
  let good := if inside then x.good + 1 else 0
  let d := d.setExch b { x with good := good }
  let was := bit (d.get (K.TB_STATUS b)) 1
  if inside ∧ 4 ≤ good ∧ !was then (d.setB (K.TB_STATUS b) 1 true).wellEvent 9 b
  else if !inside ∧ was then (d.setB (K.TB_STATUS b) 1 false).wellEvent 10 b
  else d

/-- The greatest magnitude of RATE, 1,000 ppm (R338). -/
def rateMax : Int := 1099511627

/-- The servo in AUTO mode (R347): offset `o` and interval `t` in fs. An interval of 0 leaves the correction open: free. -/
def Dev.servo (d : Dev) (b : Nat) (o t : Int) : Dev :=
  let ed : Int × Dev := if t = 0 then (toSigned 64 (d.free 64).1, (d.free 64).2) else ((o * 2 ^ 40).tdiv t, d)
  let d := ed.2
  let x := d.exchOf b
  let integral := x.integral - ed.1 / 2 ^ (d.get (K.KI_SHIFT b))
  let rate := integral - ed.1 / 2 ^ (d.get (K.KP_SHIFT b))
  let clamped := decide (rate < -rateMax) || decide (rateMax < rate)
  let integral := if clamped then clampInt (-rateMax) rateMax integral else integral
  let was := bit (d.get (K.TB_STATUS b)) 2
  let d := ((d.setExch b { x with integral := integral }).set (K.RATE b) (ofSigned 64 (clampInt (-rateMax) rateMax rate))).setB
    (K.TB_STATUS b) 2 clamped
  if clamped && !was then d.wellEvent 11 b else d

/-- An exchange completes (R342, R344): `f` holds t2 − t1 − c1 and t1. The first one of an ARMED base steps it; later ones
set RATE only. -/
def Dev.exchange (d : Dev) (b : Nat) (f : Int × Int) : Dev :=
  let x := d.exchOf b
  let asym := toSigned 64 (d.get (K.PATH_ASYM b)) * fsU
  let off := f.1 - x.path.getD 0 - asym
  let o := off / fsU
  let d := ((d.setExch b { x with prevT1 := some f.2 }).set (K.LAST_OFFSET b) (satI64 o)).bump (K.EXCHANGES b)
  if d.get (K.TB_STATE b) = 1 then (((d.stepSoon b false (-off)).set (K.TB_STATE b) 2).wellEvent 8 b).lockNote b o
  else
    let d := d.lockNote b o
    match x.prevT1 with
    | some p => if d.get (K.SERVO_MODE b) = 1 then d.servo b o (f.2 / fsU - p / fsU) else d
    | none => d

/-- SYNC (R342 step 1, R346). -/
def sync (d : Dev) (m : TimeMsg) : Dev :=
  let p := d.timeFrame m 0
  if p.2 then
    let d := if m.port = 0 && p.1.timeMine m then
        (p.1.basesOf m.domain).foldl (fun d b =>
          let x := d.exchOf b
          d.setExch b { x with syncs := x.syncs.filter (fun y => decide (d.clk ≤ y.2.2 + 4000000) && y.1 != m.seqId) ++
                                          [(m.seqId, d.ingress b 0 m.raw, d.clk)] }) p.1
      else p.1
    d.forwardEvent m false
  else p.1

/-- A DELAY_REQ leaves for one base (R342 step 3): DREQ_PERIOD is in ms, 400,000 Wellhead clocks each. -/
def Dev.delayReqSend (d : Dev) (b : Nat) (f : Int × Int) (eg : Int) : Dev :=
  let x := d.exchOf b
  let due := match x.lastReq with | none => true | some c => decide (c + 400000 * d.get (K.DREQ_PERIOD b) ≤ d.clk)
  if due then
    let d := d.setExch b { x with dreqs := x.dreqs.filter (fun y => decide (d.clk ≤ y.2.2.1 + 40000000)) ++
                                            [(x.nextSeq, d.egressAt b 0 eg, d.clk, f)],
                                  lastReq := some d.clk, nextSeq := (x.nextSeq + 1) % 65536 }
    let dom := d.get (K.TB_DOMAIN b)
    ({ d with egress := d.egress ++ [.time 0 0 1 dom x.nextSeq 0 0 0] } : Dev).timeSend 0
      (timeWords 0 (d.get K.NODE_ID) 0 (timeBits 0 0 x.nextSeq dom 0 1 0 0))
  else d

/-- FOLLOW_UP (R342 step 2, R343, R346). -/
def followUp (d : Dev) (m : TimeMsg) : Dev :=
  let p := d.timeFrame m 8
  if p.2 then
    let d := if m.port = 0 && p.1.timeMine m then
        (p.1.basesOf m.domain).foldl (fun (d : Dev) b =>
          let x := d.exchOf b
          match x.syncs.find? (fun y => y.1 == m.seqId && decide (d.clk ≤ y.2.2 + 4000000)) with
          | some y =>
            let t1 : Int := ofStamp80 m.t
            let f := (y.2.1 - t1 - m.corr * 15625, t1)
            let d := d.setExch b { x with fup := some f }
            let d := if x.path.isSome then d.exchange b f else d
            d.delayReqSend b f m.eg
          | none => d.bump (K.TIME_DISCARDS b)) p.1
      else p.1
    d.forwardGeneral m false
  else p.1

/-- DELAY_REQ (R346): a node, never a master, answers none. -/
def delayReq (d : Dev) (m : TimeMsg) : Dev :=
  let p := d.timeFrame m 1
  if p.2 then p.1.forwardEvent m true else p.1

/-- DELAY_RESP (R342 step 4, R343, R344, R346): 100 ms are 40,000,000 Wellhead clocks. -/
def delayResp (d : Dev) (m : TimeMsg) : Dev :=
  let p := d.timeFrame m 9
  if p.2 then
    if p.1.timeMine m && m.node == p.1.get K.NODE_ID then
      (p.1.basesOf m.domain).foldl (fun (d : Dev) b =>
        let x := d.exchOf b
        match x.dreqs.find? (fun y => y.1 == m.seqId && decide (d.clk ≤ y.2.2.1 + 40000000)) with
        | some y =>
          let path := (y.2.2.2.1 + ((ofStamp80 m.t : Int) - y.2.1 - m.corr * 15625)) / 2
          let d := (d.setExch b { x with path := some path }).set (K.MEAN_PATH b) (satI64 (path / fsU))
          if x.path.isNone then d.exchange b y.2.2.2 else d
        | none => d.bump (K.TIME_DISCARDS b)) p.1
    else p.1.forwardGeneral m true
  else p.1

/-! Marks (R348, R349). -/

/-- TSQ_COUNT, TSQ_HEAD and TSQ_STAMP follow the queue. -/
def Dev.setTsq (d : Dev) (l : List TsEntry) : Dev :=
  ({ d with tsq := l } : Dev).setAll [(K.TSQ_COUNT, l.length), (K.TSQ_HEAD, (l.head?.map (·.head)).getD 0),
    (K.TSQ_STAMP, (l.head?.map (·.stamp)).getD 0)]

/-- The MARK a write of `v` to TS_MARK sends on its port, to the partner there (R340, R349; log entry 23). -/
def Dev.markSent (d : Dev) (v : Nat) : Dev :=
  ({ d with egress := d.egress ++ [.mark (v % 2) (bits v 16 16) (bits v 4 2)] } : Dev).timeSend (v % 2)
    (timeWords 0 (d.get K.NODE_ID) 63 (timeBits 0 0 0 0 (bits v 24 8) 0xF (bits v 16 8) (bits v 4 2)))

/-- A write to TS_MARK. -/
def tsMark (d : Dev) (v : Nat) (eg : Int) : Except Abort Dev := do
  let p := v % 2
  let b := bits v 4 2
  need (d.at2 p) .state
  let d := d.markSent v
  if d.tsq.length < 16 then
    let s := d.stampObj (d.egressAt b p eg)
    .ok (s.2.setTsq (s.2.tsq ++ [⟨v, s.1⟩]))
  else
    let was := bit (d.get K.TSQ_FLAGS) 0
    let d := (d.bump K.TSQ_DROPPED).setB K.TSQ_FLAGS 0 true
    .ok (if was then d else d.wellEvent 12 p)

/-- A write of 1 to TSQ_POP. -/
def tsqPop (d : Dev) (v : Nat) : Except Abort Dev := do
  need (v == 1) .range
  need (!d.tsq.isEmpty) .state
  .ok (d.setTsq (d.tsq.drop 1))

/-- A received MARK is taken whatever its DST (R340). -/
def mark (d : Dev) (m : TimeMsg) : Dev :=
  let p := d.timeFrame m 0xF
  if p.2 then
    let s := p.1.stampObj (p.1.ingress m.markBase m.port m.raw)
    (s.2.setAll [(K.RX_MARK, fld 16 16 m.markId + fld 4 2 m.markBase + m.port), (K.RX_MARK_STAMP, s.1)]).wellEvent 13 m.port
  else p.1

/-! The monitor ADC's request (R381). -/

/-- Channels asked for are converted in ascending order after those already queued. -/
def Dev.adcAsk (d : Dev) (mask : Nat) : Dev :=
  ({ d with pwr := { d.pwr with adcReqs := d.pwr.adcReqs ++ setBits 16 mask } } : Dev).set K.ADC_BUSY (d.get K.ADC_BUSY ||| mask % 65536)

/-! Alarms (R350 to R353). -/

/-- ALM_CMD ARM. -/
def almArm (d : Dev) (s : Nat) : Except Abort Dev := do
  let b := d.get (K.ALM_BASE s)
  d.gate [1] none
  need (d.get (K.ALM_STATE s) != 1) .state
  need (!(b != 1 && d.get (K.TB_STATE b) == 1)) .state
  need (decide (d.baseU b + 1000 * nsU ≤ ofStamp80 (d.get (K.ALM_TIME s)))) .range
  need (d.get (K.ALM_ACTION s) != 0) .range
  let d : Dev := { d with almNext := Table.put d.almNext s (ofStamp80 (d.get (K.ALM_TIME s)) / nsU) }
  .ok ((d.set (K.ALM_FIRES s) 0).set (K.ALM_STATE s) 1)

/-- ALM_CMD DISARM. -/
def almDisarm (d : Dev) (s : Nat) : Except Abort Dev := do
  need (d.get (K.ALM_STATE s) != 0) .state
  .ok (({ d with almNext := Table.del d.almNext s } : Dev).set (K.ALM_STATE s) 0)

/-- An action that cannot be taken (R352). -/
def Dev.almSkip (d : Dev) (s info : Nat) : Dev :=
  let first := d.get (K.ALM_SKIPPED s) == 0
  let d := d.bump (K.ALM_SKIPPED s)
  if first then d.event (288 + s / 4) 2 info else d

/-- SEQ_START of a firing: each sequencer of the mask starts under R74 or is skipped. -/
def Dev.almStarts (d : Dev) (s info : Nat) : Dev :=
  (setBits 64 (d.get (K.ALM_SEQ_MASK s))).foldl (fun (d : Dev) n =>
    if d.get (K.SEQ_STATE n) = 1 ∧ d.get (K.START_SRC n) % 8 = 1 ∧ (d.run n).startTick = none ∧ d.get K.SHED_LEVEL < 3 then
      d.startSet n (d.tickIn (d.lead n))
    else d.almSkip s info) d

/-- ADC of a firing: each channel of the mask is asked for unless it still converts. -/
def Dev.almAdc (d : Dev) (s info : Nat) : Dev :=
  let busy := d.get K.ADC_BUSY
  (setBits 16 (d.get (K.ALM_ADC_MASK s))).foldl (fun (d : Dev) k =>
    if bit busy k then d.almSkip s info else d.adcAsk (2 ^ k)) d

/-- What a firing sets whatever ALM_ACTION holds: the slot's flag for every sequencer, a jump request where EXTJ_SRC names
the slot, and the Assay triggers (R84, R185, R351). -/
def Dev.almFlags (d : Dev) (s : Nat) : Dev :=
  let d := (List.range 64).foldl (fun (d : Dev) n =>
    let d : Dev := if (Table.find d.almSeq (32 * n + s)).isSome then d
      else { d with almSeq := Table.put d.almSeq (32 * n + s) d.tb1Clk }
    let src := d.get (K.EXTJ_SRC n)
    if bit src 8 ∧ bits src 9 5 = s ∧ (d.get (K.SEQ_STATE n) = 2 ∨ d.get (K.SEQ_STATE n) = 3) then
      d.setRun n { d.run n with arrivals := (d.run n).arrivals + 1 }
    else d) d
  asyNotify d 4 s true

/-- ALARM_FIRING: an ARMED slot fires at a clock at which its base's value, advanced at the rate of the clock before, is at least
the next match time (R351, R353); before that nothing happens. -/
def alarmFiring (d : Dev) (s : Nat) : Dev :=
  if s < 32 ∧ d.get (K.ALM_STATE s) = 1 ∧ Table.at d.almNext 0 s * nsU ≤ d.baseU (d.get (K.ALM_BASE s)) then
    let ns := Table.at d.almNext 0 s
    let time := stamp80 (ns * nsU)
    let info := (Config.infoAlarm s time).toNat
    let act := d.get (K.ALM_ACTION s)
    let d := (d.bump (K.ALM_FIRES s)).set (K.ALM_LAST s) time
    let d := if bit act 0 then d.almStarts s info else d
    let d := if bit act 1 then (setBits 8 (d.get (K.ALM_TRIG_MASK s))).foldl (fun d l =>
        d.trigPulse l (d.tb1Clk * 640000 + 15360000) (d.get (K.ALM_TRIG_WIDTH s))) d else d
    let d := if bit act 2 then d.almAdc s info else d
    let d := if bit act 3 then d.graphAlarm s time else d
    let d := d.almFlags s
    let d := if bit act 4 then d.event (288 + s / 4) 1 info else d
    let period := d.get (K.ALM_PERIOD s)
    if period = 0 then ({ d with almNext := Table.del d.almNext s } : Dev).set (K.ALM_STATE s) 4
    else { d with almNext := Table.put d.almNext s (ns + period / 1000000) }
  else d

/-! Epochs (R129, R130). -/

/-- SYNC_CMD ARM_EPOCH. -/
def armEpoch (d : Dev) : Except Abort Dev := do
  d.gate [1] none
  need d.liveSeqs.isEmpty .state
  need (!d.alarmOn 1) .busy
  .ok (d.set K.SYNC_STATE 1)

/-- SYNC_CMD CANCEL_EPOCH: the state before the ARM_EPOCH returns. -/
def cancelEpoch (d : Dev) : Except Abort Dev := do
  need (d.get K.SYNC_STATE == 1) .state
  .ok (d.set K.SYNC_STATE (if d.get K.EPOCH_COUNT = 0 then 0 else 2))

/-- A SYNC_IN pulse of the shape R130 names: the epoch edge, or ignored. The timing master tells its count (R129). -/
def syncInEpoch (d : Dev) : Dev :=
  if d.get K.SYNC_STATE = 1 then
    let d := (d.bump K.EPOCH_COUNT).set K.SYNC_STATE 2
    let d : Dev := { d with tb1 := 0, tb1Sub := 0, almSeq := d.almSeq.map (fun p => (p.1, 0)) }
    let d := d.event 314 1 (fld 32 32 (d.get K.EPOCH_COUNT) + fld 0 8 (d.get K.UNSURE_CAUSE))
    if d.get K.SYNC_ROLE = 1 then d.tellTimed (.epochCount (d.get K.EPOCH_COUNT)) else d
  else d.bump K.SYNC_IGNORED

/-! Gallery frames (R94 to R98, R325, R326). -/

/-- The sequencers of this chip bonded in the group with an identifier. -/
def Dev.membersIn (d : Dev) (id : Nat) : List (Nat × Nat × Nat) :=
  (List.range 64).filterMap (fun n => match d.bondOf n with
    | some (g, cfg) => if bits cfg 16 8 = id then some (n, g, cfg) else none
    | none => none)

/-- The other Gallery ports a frame is relayed to: ACTIVE, while this chip is in a sync domain. -/
def Dev.relayPorts (d : Dev) (p : Nat) : List Nat :=
  if d.get K.SYNC_ROLE = 0 then [] else (List.range 4).filter (fun q => q != p && d.portState (2 + q) == 5)

/-- Another member ended issue or aborted (R96, R98). An ARMED sequencer stops with it; one that is DONE stays so (log entry 56). -/
def peerStop (m : Memory) (d : Dev) (n kind : Nat) : Memory × Dev :=
  let st := d.get (K.SEQ_STATE n)
  let r := d.run n
  if st = 1 then (if kind = 2 then seqEnd m d n 5 else if kind = 0 then seqEnd m d n 0 else (m, d))
  else if st = 2 then
    if kind = 1 then (m, if r.stopReq = 0 ∧ r.drain = 0 then d.setRun n { r with stopReq := 1 } else d)
    else if r.stopReq < 4 ∧ r.drain < 4 then seqStop m d n 4
    else (m, d)
  else if st = 3 ∧ kind ≠ 1 then seqEnd m d n 0
  else (m, d)

/-- BOND_LATE (R96, R98): a class F fault; an ARMED member becomes ABORTED and tells the others. -/
def bondLate (m : Memory) (d : Dev) (n : Nat) : Memory × Dev :=
  let e := match (d.run n).cur with | some c => c.idx | none => d.get (K.START_ENTRY n)
  seqFault m d n 3 e (d.get (K.CYCLE n)) []

/-- A member that cannot start with its group (R96): BOND_LATE, from ARMED to ABORTED, told to the others. -/
def memberLate (m : Memory) (d : Dev) (n : Nat) : Memory × Dev :=
  let p := bondLate m d n
  if p.2.get (K.SEQ_STATE n) = 1 then seqEnd p.1 (p.2.bondSend n 2) n 5 else p

/-- START_INSTANT, for a bonded member too whose START_SRC is BOND: the leader's tick has come without its frame (R96; log
entry 47). -/
def startTick (m : Memory) (d : Dev) (n : Nat) : Memory × Dev :=
  if d.get (K.SEQ_STATE n) = 1 ∧ (d.run n).startTick = none ∧ d.get (K.START_SRC n) % 8 = 3 ∧ (d.bondOf n).isSome ∧ !(d.bondLeader n) then
    memberLate m d n
  else startInstant m d n

/-- A start instant reaches a member (R95, R96): 2 µs are 200 ticks. -/
def memberStart (m : Memory) (d : Dev) (n tick : Nat) : Memory × Dev :=
  if d.get (K.SEQ_STATE n) = 1 ∧ d.get (K.START_SRC n) % 8 = 3 ∧ (d.run n).startTick = none then
    (if d.tickIn 200 ≤ tick then (m, d.setRun n { d.run n with startTick := some tick })
     else
       memberLate m d n)
  else (m, d)

/-- A member acts on the second copy because the first was lost; its end is measured against the tick the frame carries when it
comes (R98). -/
def lateStop (m : Memory) (d : Dev) (n kind tick : Nat) : Memory × Dev :=
  let r := d.run n
  let acts := d.get (K.SEQ_STATE n) == 2 && (if kind = 1 then r.drain == 0 && r.stopReq == 0 else decide (r.stopReq < 4) && decide (r.drain < 4))
  peerStop m (if acts && r.drain == 0 then d.setRun n { r with lateTick := some tick } else d) n kind

/-- GROUP_RL follows a membership frame while ARMED (R94): the largest RL reported now, at which every member retires. -/
def Dev.groupRlNote (d : Dev) (n g : Nat) : Dev :=
  let rl := d.groupRl n (periodP (d.get (K.TMIN n)))
  if d.get (K.SEQ_STATE n) = 1 then (d.set (K.RL n) rl).setF (K.BOND_STAT g) 16 16 rl else d

/-- What is known of another member. -/
def Dev.setPeer (d : Dev) (g member : Nat) (f : Peer → Peer) : Dev :=
  let k := 256 * g + member % 256
  { d with peers := Table.put d.peers k (f (Table.at d.peers {} k)) }

/-- GAL_TIMED delivered on Gallery port p. The parent's marker gives SYNC_SKEW the interval d_B, which the TMU measures and is
free (R131). -/
def galTimed (m : Memory) (d : Dev) (p hops : Nat) (fr : Frame) (f : GalTimed) : Memory × Dev :=
  if 4 ≤ p ∨ d.portState (2 + p) ≠ 5 then (m, d)
  else if !fr.intact then (m, (d.bump (K.TIMED_DROPS p)).crcError (2 + p))
  else if fr.badKind then (m, d.bump (portKey (2 + p) 0x0F))
  else if fr.kind ≠ 4 then (m, d)
  else
    let d := d.header (2 + p) fr
    let d := ({ d with egress := d.egress ++ (d.relayPorts p).map (fun q => .relayTimed q (hops + 1) f) } : Dev).galNow (d.relayPorts p) (hops + 1) f
    match f with
    | .bondValue id entry iter member value =>
      (d.membersIn id).foldl (fun (p : Memory × Dev) x => bondReceive p.1 p.2 x.1 entry iter member value) (m, d)
    | .stopNotice id member kind =>
      (d.membersIn id).foldl (fun (p : Memory × Dev) x => peerStop p.1 p.2 x.1 kind) (m, { d with heard := d.heard ++ [(id, member, kind)] })
    | .skewMarker =>
      (m, if hops = 0 ∧ d.get K.SYNC_ROLE = 2 ∧ d.get K.MASTER_PORT = p ∧ d.wndBusy ∧ d.wnd.routine = 3 then
            { (d.free 32).2 with wnd := { (d.free 32).2.wnd with skewB := (d.free 32).1 } }
          else d)
    | .epochCount c =>
      (m, if d.get K.SYNC_ROLE = 2 ∧ d.get K.MASTER_PORT = p then
            let d : Dev := { d with master := some c }
            if d.get K.EPOCH_COUNT ≠ c then d.setUnsure (setBit (d.get K.UNSURE_CAUSE) 3) else d
          else d)

/-- GAL_SEQ on Gallery port p; the second copy of a stop notice acts only where the first did not come (R98): taken and relayed if it is intact and the next in order (R315, R326). -/
def galSeq (m : Memory) (d : Dev) (p hops : Nat) (fr : Frame) (f : GalSeq) : Memory × Dev :=
  if 4 ≤ p ∨ d.portState (2 + p) ≠ 5 then (m, d)
  else if !fr.intact then (m, d.crcError (2 + p))
  else if fr.badKind then (m, d.bump (portKey (2 + p) 0x0F))
  else if fr.kind ≠ 5 then (m, d)
  else if !(d.inOrder (2 + p) fr).2 then (m, (d.inOrder (2 + p) fr).1)
  else
    let d := (d.inOrder (2 + p) fr).1
    let d := ({ d with egress := d.egress ++ (d.relayPorts p).map (fun q => .relaySeq q (hops + 1) f) } : Dev).galSend (d.relayPorts p) (hops + 1) f
    match f with
    | .memberState id member st =>
      (m, (d.membersIn id).foldl (fun (d : Dev) x => (d.setPeer x.2.1 member (fun q => { q with state := st })).bondRefresh x.1) d)
    | .membership id member rl _ =>
      (m, (d.membersIn id).foldl (fun (d : Dev) x =>
        (d.setPeer x.2.1 member (fun q => { q with rl := rl, hops := hops })).groupRlNote x.1 x.2.1) d)
    | .startInstant id tick => (d.membersIn id).foldl (fun (p : Memory × Dev) x => memberStart p.1 p.2 x.1 tick) (m, d)
    | .stopNotice id member kind tick =>
      if d.heard.contains (id, member, kind) then (m, { d with heard := d.heard.erase (id, member, kind) })
      else (d.membersIn id).foldl (fun (p : Memory × Dev) x => lateStop p.1 p.2 x.1 kind tick) (m, d)

/-! Spare channel engines (R132, R133). -/

/-- A channel belongs to no site, or to sites that are INACTIVE or PARKED. -/
def Dev.chanFree (d : Dev) (ch : Nat) : Bool :=
  (List.range 128).all (fun s => !(bit (d.get (K.CHAN_MAP s (ch / 64))) (ch % 64)) || d.get (K.SITE_COND s) == 0 || d.get (K.SITE_COND s) == 3)

/-- A channel belongs to no site. -/
def Dev.inNoSite (d : Dev) (ch : Nat) : Bool :=
  (List.range 128).all (fun s => !(bit (d.get (K.CHAN_MAP s (ch / 64))) (ch % 64)))

/-- A write of SPE_TARGET of spare k (R133). -/
def speTarget (d : Dev) (k v : Nat) : Except Abort Dev := do
  let base := k / 2 * 64
  let old := d.get (K.SPE_TARGET k)
  need (!(d.underTest [22 + k / 2] none)) .busy
  need ((v == 0xFF || d.chanFree (base + v)) && (old == 0xFF || d.chanFree (base + old))) .state
  need (d.get (K.SPE_STATE k) != 2) .range
  need (v == 0xFF || d.get (K.SPE_TARGET (if k % 2 = 0 then k + 1 else k - 1)) != v) .range
  let d := (d.set (K.SPE_TARGET k) v).set (K.SPE_STATE k) (if v = 0xFF then 0 else 1)
  .ok (d.switchSpares (([v, old].filter (· != 0xFF)).map (base + ·) |>.filter d.inNoSite))

end Sys2Proof.Machine
end

