-- ==== Sys2Proof/Machine/Power.lean ====
section
/-! DEFINITION. Power domains, monitors and shedding, PMBus rails, DUT supply sequences, SPI ports and clocks
(R376 to R390, R397, R107, R108). -/

namespace Sys2Proof.Machine

/-! Domains (R377 to R379, R15, R40, R214, R264). -/

/-- SEQn, if ARMED, RUNNING or PAUSED, uses shaft k or seam s (R10, R15). -/
def Dev.shaftUsed (d : Dev) (k : Nat) : Bool := d.liveSeqs.any (fun n => (d.shaftsOf n).contains k)
def Dev.seamUsed (d : Dev) (s : Nat) : Bool := d.liveSeqs.any (fun n => (d.gangOf n).any (fun p => p.1 / 16 == s))

/-- Lode bank b is mapped (R40): it holds a line of some partition. Line l is in bank l mod 8's interleave (R37). -/
def Dev.bankMapped (d : Dev) (b : Nat) : Bool :=
  (List.range 64).any (fun n => (banksOf (d.get (K.LODE_BASE n)) (d.get (K.LODE_LINES n))).contains b)

/-- Domain objects whose owning function stands in a domain (R294, R10). -/
def Dev.domXfer (d : Dev) (dd : Nat) : Bool :=
  d.xfers.any (fun x =>
    let i := x.key / 256
    if 2 ≤ dd ∧ dd ≤ 5 then decide (0x2000 ≤ i) && decide (i ≤ 0x203F) && homeShaft (i - 0x2000) == dd - 2
    else if 6 ≤ dd ∧ dd ≤ 21 then
      decide (0x2000 ≤ i) && decide (i ≤ 0x203F) && (d.gangOf (i - 0x2000)).any (fun p => p.1 / 16 == dd - 6)
    else if 26 ≤ dd ∧ dd ≤ 33 then
      decide (0x2000 ≤ i) && decide (i ≤ 0x203F) &&
        (banksOf (d.get (K.LODE_BASE (i - 0x2000))) (d.get (K.LODE_LINES (i - 0x2000)))).contains (dd - 26)
    else if 34 ≤ dd ∧ dd ≤ 41 then
      decide (0x2000 ≤ i) && decide (i ≤ 0x203F) || decide (0x2200 ≤ i) && decide (i ≤ 0x220F)
    else if dd = 46 then
      decide (0x2200 ≤ i) && decide (i ≤ 0x220F) || decide (0x2500 ≤ i) && decide (i ≤ 0x26FF)
    else if dd = 47 ∨ dd = 48 then decide (0x2300 ≤ i) && decide (i ≤ 0x230F) && 47 + (i - 0x2300) / 8 == dd
    else if dd = 49 then decide (0x2100 ≤ i) && decide (i ≤ 0x210F) || decide (0x2400 ≤ i) && decide (i ≤ 0x2403)
    else false)

/-- A spare engine of shaft k stands in for a channel of an ARMED, RUNNING or PAUSED sequencer (R10; log entry 55). -/
def Dev.spareUsed (d : Dev) (k : Nat) : Bool :=
  d.liveSeqs.any (fun n => (d.gangOf n).any (fun p => p.1 / 64 == k && ((d.spareFor p.1).isSome || (d.spareOf p.1).isSome)))

/-- A domain is in use by what R10, R15, R40, R214 and R264 name. -/
def Dev.domUsed (d : Dev) (dd : Nat) : Bool :=
  if 2 ≤ dd ∧ dd ≤ 5 then d.shaftUsed (dd - 2)
  else if 6 ≤ dd ∧ dd ≤ 21 then d.seamUsed (dd - 6)
  else if 22 ≤ dd ∧ dd ≤ 25 then d.spareUsed (dd - 22)
  else if 26 ≤ dd ∧ dd ≤ 33 then d.bankMapped (dd - 26)
  else if 34 ≤ dd ∧ dd ≤ 41 then bit (d.get K.CHAN_MASK) (dd - 34) && !([0, 1, 5].contains (d.get K.DDR_STATE))
  else if 42 ≤ dd ∧ dd ≤ 45 then d.get (K.CLUSTER_STATE (dd - 42)) == 1
  else false

/-- A function that R10 places in a domain is not STOPPED, or a queue is not DISABLED (R379). A Tram channel, a Dowser
engine and a TMU count as STOPPED in every state but those of R254, R206 and log entry 8. -/
def Dev.domBusy (d : Dev) (dd : Nat) : Bool :=
  if dd = 46 then
    (List.range 64).any (fun g => d.get (K.GRAPH_STATE g) != 0) || (List.range 16).any (fun c => d.get (K.TRAM_STATE c) == 2) ||
      (List.range 256).any (fun q => d.get (K.Q_STATE q) != 0)
  else if dd = 47 ∨ dd = 48 then (List.range 8).any (fun u => d.get (K.ASY_STATE (8 * (dd - 47) + u)) != 0)
  else if dd = 49 then
    (List.range 16).any (fun h => d.get (K.HEW_STATE h) != 0) || (List.range 4).any (fun e => d.get (K.DWS_STATE e) == 2 || d.get (K.DWS_STATE e) == 3) ||
      (List.range 4).any (fun k => d.get (K.TMU_STATE k) == 2)
  else false

/-- The lanes of D51 lose their clock with it (R305, R379). -/
def galleryDown (m : Memory) (d : Dev) : Memory × Dev :=
  (List.range 4).foldl (fun (q : Memory × Dev) i =>
    let p := 2 + i
    if q.2.portState p = 5 then portLost q.1 q.2 p
    else if q.2.portState p = 0 ∨ q.2.portState p = 6 then q
    else (q.1, (q.2.toBackoff p 5).portEvent p 6)) (m, d)

/-- Domain dd loses its supply and takes PD_STATE `st`: hardware state lost, clusters OFF, DDR4 OFF with a channel of
CHAN_MASK, event 297 (R214, R264, R379, R397). -/
def domDown (m : Memory) (d : Dev) (dd st : Nat) : Memory × Dev :=
  let p := domLost m (d.set (K.PD_STATE dd) st) dd
  let d := p.2
  let q :=
    if 42 ≤ dd ∧ dd ≤ 45 then
      (p.1, if d.get (K.CLUSTER_STATE (dd - 42)) = 0 then d
            else ((d.set (K.CLUSTER_STATE (dd - 42)) 0).set (K.CLUSTER_CLOCK (dd - 42)) 0).event 270 1 (dd - 42))
    else if 34 ≤ dd ∧ dd ≤ 41 then
      (p.1, if bit (d.get K.CHAN_MASK) (dd - 34) then d.setDdrState 0 else d.setDdrState (d.get K.DDR_STATE))
    else if dd = 51 then galleryDown p.1 d
    else (p.1, d)
  (q.1, q.2.event 297 2 dd)

/-- The first waiting domain begins its ramp; one that is on already only acknowledges its ON (R378). -/
def pdNext : Nat → Dev → Dev
  | 0, d => d
  | fuel + 1, d =>
    match d.pwr.pdQueue with
    | [] => d
    | (dd, req) :: l =>
      if d.get (K.PD_STATE dd) = 2 then
        let d := d.setPwr { d.pwr with pdQueue := l }
        pdNext fuel (match req with | some r => d.respond r 2 (0x500 + dd) 1 [] | none => d)
      else
        let d := d.set (K.PD_STATE dd) 1
        if 2 ≤ dd ∧ dd ≤ 5 then d.set (K.PLL_STATE (dd - 2)) 1 else d

/-- A domain joins the queue of ramps. -/
def Dev.pdAsk (d : Dev) (dd : Nat) (req : Option Req) : Dev :=
  let idle := d.pwr.pdQueue.isEmpty
  let d := d.setPwr { d.pwr with pdQueue := d.pwr.pdQueue ++ [(dd, req)] }
  if idle then pdNext 53 d else d

/-- An ON of the domain that ramps now is acknowledged with it (R12, R378). -/
def Dev.pdJoin (d : Dev) (r : Req) (dd : Nat) : Dev :=
  match d.pwr.pdQueue with
  | [] => d.respond r 2 (0x500 + dd) 1 []
  | q => d.setPwr { d.pwr with pdQueue := q.takeWhile (fun e => e.1 == dd) ++ (dd, some r) :: q.dropWhile (fun e => e.1 == dd) }

/-- PD_CMD ON (R378, R379): acknowledged once the domain is ON; nothing changes where it is ON or RAMPING already. -/
def pdOn (d : Dev) (r : Req) (dd : Nat) : Dev :=
  match d.preWrite (0x500 + dd) 1 1 1 with
  | some a => d.refuse r 2 (0x500 + dd) 1 a
  | none =>
    if d.get (K.PD_STATE dd) = 2 then d.respond r 2 (0x500 + dd) 1 []
    else if d.get (K.PD_STATE dd) = 1 then d.pdJoin r dd
    else d.pdAsk dd (some r)

/-- The ramp of the first waiting domain has no success: it and every ON that waits on that ramp are answered with FAULT. -/
def Dev.pdFailed (d : Dev) (dd : Nat) : Dev :=
  let q := d.pwr.pdQueue.takeWhile (fun e => e.1 == dd)
  q.foldl (fun (d : Dev) e => match e.2 with | some r => d.refuse r 2 (0x500 + dd) 1 .fault | none => d)
    (d.setPwr { d.pwr with pdQueue := d.pwr.pdQueue.dropWhile (fun e => e.1 == dd) })

/-- PD_CMD OFF (R379, R421), in the order of its checks. -/
def pdOff (m : Memory) (d : Dev) (dd : Nat) : Except Abort (Memory × Dev) := do
  need (dd != 0 && dd != 1 && dd != 50) .range
  need (!d.domUsed dd) .state
  need (!d.domBusy dd) .state
  need (!(d.domXfer dd)) .busy
  need (!(d.underTest [dd] none)) .busy
  if d.get (K.PD_STATE dd) = 0 then .ok (m, d)
  else if d.get (K.PD_STATE dd) = 3 then
    .ok (m, (d.setPwr { d.pwr with pdQueue := d.pwr.pdQueue.filter (fun e => e.1 != dd || e.2.isSome) }).set (K.PD_STATE dd) 0)
  else
    let ramping := d.get (K.PD_STATE dd) == 1
    let p := domDown m d dd 0
    .ok (if ramping then (p.1, pdNext 53 (p.2.pdFailed dd)) else p)

/-- A seam or Lode bank domain is idle under level 2 (R384). -/
def Dev.shedIdle (d : Dev) (dd : Nat) : Bool :=
  if 6 ≤ dd ∧ dd ≤ 21 then !d.seamUsed (dd - 6) else if 26 ≤ dd ∧ dd ≤ 33 then !d.bankMapped (dd - 26) else false

/-- DOMAIN_RAMP_DONE: the ramping domain is ON; its PLL is locked, its cluster OFFLINE with its firmware, the controller UNTRAINED once every
channel of CHAN_MASK is on; the ON is acknowledged and the next ramp begins. -/
def domainRampDone (m : Memory) (d : Dev) (dd : Nat) : Memory × Dev :=
  match d.pwr.pdQueue with
  | (e, req) :: l =>
    if e = dd ∧ d.get (K.PD_STATE dd) = 1 then
      let d := ((d.setPwr { d.pwr with pdQueue := l }).set (K.PD_STATE dd) 2).bump (K.PD_SWITCHES dd)
      let d :=
        if 2 ≤ dd ∧ dd ≤ 5 then d.set (K.PLL_STATE (dd - 2)) 2
        else if 42 ≤ dd ∧ dd ≤ 45 then
          ((d.set (K.CLUSTER_STATE (dd - 42)) 3).set (K.CLUSTER_CLOCK (dd - 42)) (if 1 ≤ d.get K.SHED_LEVEL then 1000 else 2000)).event 270 1 (dd - 42)
        else if 34 ≤ dd ∧ dd ≤ 41 then
          (if d.get K.DDR_STATE = 0 ∧ (setBits 8 (d.get K.CHAN_MASK)).all (fun c => d.domOn (34 + c)) then d.setDdrState 1
           else d.setDdrState (d.get K.DDR_STATE))
        else d
      let d := if 2 ≤ d.get K.SHED_LEVEL ∧ d.shedIdle dd then { d with wnd := { d.wnd with shedPend := true } } else d
      let d := d.event 297 1 dd
      let d := match req with | some r => d.respond r 2 (0x500 + dd) 1 [] | none => d
      (if 42 ≤ dd ∧ dd ≤ 45 then loadFirmware m d (dd - 42) else m, pdNext 53 d)
    else (m, d)
  | [] => (m, d)

/-- DOMAIN_RAMP: the ramping domain is not ON in time: OFF again, its ON answered with FAULT. -/
def domainRamp (m : Memory) (d : Dev) (dd : Nat) : Memory × Dev :=
  match d.pwr.pdQueue with
  | (e, _) :: _ =>
    if e = dd ∧ d.get (K.PD_STATE dd) = 1 then
      let d := d.set (K.PD_STATE dd) 0
      let d := if 2 ≤ dd ∧ dd ≤ 5 then d.set (K.PLL_STATE (dd - 2)) 0 else d
      let d := d.pdFailed dd
      let p := raiseFault m d 33 (0x500 + dd) dd (some (297, 2, dd)) [] []
      (p.1, pdNext 53 p.2)
    else (m, d)
  | [] => (m, d)

/-! The monitor ADC (R381). -/

/-- ADC_CMD. -/
def adcCmd (d : Dev) (mask : Nat) : Except Abort Dev := do
  need (d.get K.ADC_BUSY == 0) .busy
  .ok (d.adcAsk mask)

/-- ADC_CONVERTED: the channel being converted takes its code; channels 14 and 15 read 0. -/
def adcConverted (d : Dev) (code : Nat) : Dev :=
  match d.pwr.adcReqs with
  | [] => d
  | k :: l =>
    let d := (d.setPwr { d.pwr with adcReqs := l }).set (K.ADC_VALUE k) (if k < 14 then code % 4096 else 0)
    let d := if l.contains k then d else d.setB K.ADC_BUSY k false
    d.event 298 1 0

/-! Shedding (R382 to R385). -/

/-- The demanded level (R383). -/
def Dev.demand (d : Dev) : Nat :=
  let mon := d.get K.SHED_MON_MASK
  let rails := (List.range 8).map (fun k =>
    if bit mon k then ([4, 3, 2, 1].find? (fun l => bit (Table.at d.pwr.railLow 0 k) (l - 1))).getD 0 else 0)
  max (rails.foldl max 0) (if d.pwr.pwrLow then d.get K.PWN_LEVEL else 0)

/-- A demand ends the calm a level 3 or 4 clear waits for (R383). -/
def Dev.calmNote (d : Dev) : Dev := if 0 < d.demand then d.setPwr { d.pwr with calm := false } else d

/-- RAIL_CROSSING (R380): rail 0 to 7 crosses the threshold of a level. -/
def railCrossing (d : Dev) (rail level : Nat) (below : Bool) : Dev :=
  if 8 ≤ rail ∨ level = 0 ∨ 5 ≤ level then d
  else
    let v := putBit (Table.at d.pwr.railLow 0 rail) (level - 1) below
    (d.setPwr { d.pwr with railLow := Table.put d.pwr.railLow rail v }).calmNote

/-- PWR_WARN_N_CHANGE. -/
def pwrWarn (d : Dev) (low : Bool) : Dev := (d.setPwr { d.pwr with pwrLow := low }).calmNote

/-- SHED_CAUSE as a rise records it (R382). -/
def Dev.shedCause (d : Dev) : Nat :=
  maskOf ((List.range 8).filter (fun k => bit (Table.at d.pwr.railLow 0 k) 0)) + (if d.pwr.pwrLow then 256 else 0)

/-- Level 1 actions of the hardware (R384). An eye scan pauses at the end of its present point (R332, `eyePointDone`); a rise to
level 3 leads to FAULT and not to SHED (R282). -/
def shedOne (m : Memory) (d : Dev) : Memory × Dev :=
  let d := d.dwsShed true
  let d := (List.range 4).foldl (fun (d : Dev) k => if d.get (K.CLUSTER_STATE k) = 0 then d else d.set (K.CLUSTER_CLOCK k) 1000) d
  let st := d.get K.CHIP_STATE
  let d := if d.get K.SHED_LEVEL < 3 ∧ (st = 2 ∨ st = 3 ∨ st = 4 ∨ st = 7) then d.setChip 5 else d
  if [1, 2, 3, 8, 9].contains d.wnd.routine then wndRequest m d 1 else (m, d)

/-- Level 2 actions of the hardware (R384, R193, R232). -/
def Dev.shedTwo (d : Dev) : Dev :=
  (List.range 16).foldl (fun (d : Dev) u => d.setB (K.ASY_STATUS u) 4 true) (d.set K.OVM_STATE 2)

/-- The supply sequences of the sites whose sequencer is RUNNING or PAUSED, in ascending site order, each once (R389). -/
def Dev.rampList (d : Dev) : List Nat :=
  (((List.range 128).filter (fun s =>
    let n := d.get (K.SITE_SEQ s)
    let q := d.get (K.SUPPLY_SEQ s)
    decide (n < 64) && (d.get (K.SEQ_STATE n) == 2 || d.get (K.SEQ_STATE n) == 3) && decide (1 ≤ q) && decide (q ≤ 16))).map
      (fun s => d.get (K.SUPPLY_SEQ s) - 1)).foldl (fun l q => if l.contains q then l else l ++ [q]) []

/-- Level 3 actions of the hardware: the class K fault ends what issues; DDR_TRAIN aborts; DDR4 enters SELF_REFRESH once no
sequencer issues (R364, R384). -/
def shedThree (m : Memory) (d : Dev) : Memory × Dev :=
  let d := (d.setPwr { d.pwr with calm := false, ramp := d.rampList, ramped := [] }).set K.OVM_STATE 3
  let info := (Config.infoShed 3 (d.get K.SHED_CAUSE)).toNat
  let p := raiseFault m d 30 0x0540 info none [] []
  (p.1, p.2.ddrShed)

/-- Level 4 actions of the hardware: every lane but GWU0 idle, the Canary stopped (R384, R414). -/
def shedFour (m : Memory) (d : Dev) : Memory × Dev :=
  let info := (Config.infoShed 4 (d.get K.SHED_CAUSE)).toNat
  let p := raiseFault m d 31 0x0540 info none [] []
  shedLanes p.1 p.2

/-- SHED_LEVEL_RISE: the demand has lasted SHED_FILTER. -/
def shedRise (m : Memory) (d : Dev) : Memory × Dev :=
  let old := d.get K.SHED_LEVEL
  let new := d.demand
  if new ≤ old then (m, d)
  else
    let d := ((d.set K.SHED_LEVEL new).keepMax K.SHED_PEAK new).set K.SHED_CAUSE d.shedCause
    let d := raiseN 257 (d.bump K.SHED_RISES) 296 1 (Config.infoShed new (d.get K.SHED_CAUSE)).toNat (decide (3 ≤ new))
    let p := if old < 1 then shedOne m d else (m, d)
    let p := if old < 2 ∧ 2 ≤ new then (p.1, p.2.shedTwo) else p
    let p := if old < 3 ∧ 3 ≤ new then shedThree p.1 p.2 else p
    let p := if 4 ≤ new then shedFour p.1 p.2 else p
    (p.1, if 2 ≤ new then { p.2 with wnd := { p.2.wnd with shedPend := true } } else p.2)

/-- What a level brings back at its release beside `shedClear`: eye scans, a paused self-test, domains in SHED_OFF in
ascending order (R332, R384, R418). -/
def Dev.shedRelease (d : Dev) : Dev :=
  let l := d.get K.SHED_LEVEL
  let d := if l = 0 then
      let d := d.eyesResume
      if d.get K.WND_STATE = 3 then
        ({ d with wnd := { d.wnd with safeAt := d.clk } }.set K.WND_STATE 2).set K.BIST_STATE 2
      else d
    else d
  if l < 2 then (List.range 52).foldl (fun (d : Dev) dd => if d.get (K.PD_STATE dd) = 3 then d.pdAsk dd none else d) d else d

/-- The chip leaves SHED at the release (R282). -/
def Dev.chipRelease (d : Dev) : Dev :=
  if d.get K.CHIP_STATE = 5 then
    let prior := d.get K.PRIOR_STATE
    if prior = 2 ∨ prior = 7 then d.setChip prior else d.setChip (if d.anyIssuing then 4 else 3)
  else d

/-- SHED_LEVEL_FALL: the demand has stayed below SHED_LEVEL for 1 ms. Levels 1 and 2 fall; a latched level 3 or 4 may from
now on be cleared (R383). -/
def shedFall (d : Dev) : Dev :=
  let l := d.get K.SHED_LEVEL
  let new := d.demand
  if l ≤ new then d
  else if 3 ≤ l then (if new = 0 then (d.setPwr { d.pwr with calm := true }).canaryTry else d)
  else
    let d := (d.shedClear new).event 296 2 (Config.infoShed new (d.get K.SHED_CAUSE)).toNat
    let d := d.shedRelease
    if new = 0 then d.chipRelease else d

/-- Every waiting ramp is abandoned (R385): the ramping domain is OFF, the ONs are answered with FAULT. -/
def Dev.pdAbandon (d : Dev) : Dev :=
  let q := d.pwr.pdQueue
  let d := d.setPwr { d.pwr with pdQueue := [] }
  q.foldl (fun (d : Dev) e =>
    let d := if d.get (K.PD_STATE e.1) = 1 then
        (let d := d.set (K.PD_STATE e.1) 0
         if 2 ≤ e.1 ∧ e.1 ≤ 5 then d.set (K.PLL_STATE (e.1 - 2)) 0 else d)
      else d
    match e.2 with | some r => d.refuse r 2 (0x500 + e.1) 1 .fault | none => d) d

/-- The next sequence of a ramp-down starts when no earlier one runs (R389). -/
def Dev.rampNext (d : Dev) : Dev :=
  match d.pwr.ramp with
  | [] => d
  | q :: l =>
    if d.pwr.ramped.any (fun x => d.get (K.SSQ_STATE x) == 2) then d
    else (d.setPwr { d.pwr with ramp := l, ramped := q :: d.pwr.ramped }).ssqStart q

/-- A SHED_SEQ pass (R359, R384). -/
def shedSeqPass (m : Memory) (d : Dev) : Memory × Dev :=
  if !d.wnd.shedPend then (m, d)
  else
    let d : Dev := { d with wnd := { d.wnd with shedPend := false } }
    let l := d.get K.SHED_LEVEL
    let p := if 4 ≤ l then
        let d := d.pdAbandon
        let p := (List.range 52).foldl (fun (p : Memory × Dev) dd =>
          if dd = 0 ∨ dd = 1 ∨ dd = 50 then p
          else if p.2.get (K.PD_STATE dd) = 2 then domDown p.1 p.2 dd 0
          else if p.2.get (K.PD_STATE dd) = 3 then (p.1, p.2.set (K.PD_STATE dd) 0)
          else p) (m, d)
        (p.1.filter (fun x => x.1 / 2 ^ 64 != 1), p.2.setDdrState 0)
      else if 2 ≤ l then
        (List.range 52).foldl (fun (p : Memory × Dev) dd =>
          if p.2.get (K.PD_STATE dd) = 2 ∧ p.2.shedIdle dd then domDown p.1 p.2 dd 3 else p) (m, d)
      else (m, d)
    (p.1, if 3 ≤ l then p.2.rampNext else p.2)

/-! PMBus rails (R386, R387). -/

/-- A set-point of a rail: sent at once if the rail is ON, and at its next ON otherwise (R387). -/
def Dev.mvSet (d : Dev) (rail mv : Nat) : Dev :=
  let d := d.set (K.RAIL_MV rail) mv
  if d.get (K.RAIL_STATE rail) = 1 then d
  else d.setPwr { d.pwr with mvDue := d.pwr.mvDue.filter (· != rail) ++ [rail] }

/-- RAIL_CMD 1 ON, 2 OFF, 3 READ: acknowledged when its transaction is done. -/
def railCmd (d : Dev) (r : Req) (rail v : Nat) : Dev :=
  match d.preWrite (0x550 + rail) 2 1 v with
  | some a => d.refuse r 2 (0x550 + rail) 2 a
  | none =>
    if !d.railOn rail then d.refuse r 2 (0x550 + rail) 2 .state
    else (if v = 1 then d.mvSend rail else d).pmbAsk { kind := v, rail := rail, req := some r }

/-- A write of RAIL_MV: sent as VOUT_COMMAND at once if the rail is ON. -/
def railMv (d : Dev) (rail mv : Nat) : Except Abort Dev :=
  let d := d.mvSet rail mv
  .ok (if d.get (K.RAIL_STATE rail) = 1 then d.pmbAsk { kind := 4, rail := rail, mv := mv } else d)

/-- A rail switched on or off: a rail in FAULT only notes what was commanded (R404). -/
def Dev.railSet (d : Dev) (rail st : Nat) : Dev :=
  let d := d.setPwr { d.pwr with railWant := Table.put d.pwr.railWant rail st }
  if d.get (K.RAIL_STATE rail) = 2 then d else d.set (K.RAIL_STATE rail) st

/-- PMBUS_NACK on a master. -/
def pmbNack (m : Memory) (d : Dev) (mm : Nat) : Memory × Dev :=
  raiseFault m (d.bump (K.PMB_NACKS mm)) 35 (0x570 + mm) 0 (some (299 + mm, 2, 0)) [] []

/-- The running supply sequence whose WAIT_BELOW reads a rail of a master. -/
def Dev.ssqOn (d : Dev) (mm : Nat) : Option Nat :=
  (List.range 16).find? (fun q => d.get (K.SSQ_STATE q) == 2 &&
    bits (d.ssqStep q) 28 4 == 5 && d.railMaster (bits (d.ssqStep q) 23 5) == mm)

/-- A supply sequence's step has its turn on its master's bus: its transaction, if it is one, is the oldest (R387). -/
def Dev.ssqTurn (d : Dev) (q : Nat) : Bool :=
  [0, 1].all (fun mm => ((Table.at d.pwr.pmb [] mm).drop 1).all (fun o => o.seq != some q))

/-- The transaction of a sequence's step leaves the bus, sent. -/
def Dev.ssqTake (d : Dev) (q : Nat) : Dev :=
  [0, 1].foldl (fun (d : Dev) mm =>
    match Table.at d.pwr.pmb [] mm with
    | o :: l => if o.seq = some q then (d.pmbSends o true).setPwr { d.pwr with pmb := Table.put d.pwr.pmb mm l } else d
    | [] => d) d

/-- PMBUS_TRANSACTION_DONE: a try of the oldest transaction of master mm is made; it ends, or is tried again up to three
times. The transaction of a supply sequence's step ends with SSQ_STEP_DONE; with nothing waiting, a try not acknowledged
is one of a WAIT_BELOW's READ_VOUT (log entry 24). -/
def pmbDone (m : Memory) (d : Dev) (mm : Nat) (acked linear16 : Bool) (vout iout status : Nat) : Memory × Dev :=
  if 2 ≤ mm then (m, d)
  else match Table.at d.pwr.pmb [] mm with
  | [] =>
    (match d.ssqOn mm with
     | some q =>
       if acked then (m, d)
       else
         let x := Table.at d.ssqs {} q
         let d : Dev := { d with ssqs := Table.put d.ssqs q { x with tries := if x.tries = 2 then 0 else x.tries + 1 } }
         let d := d.railSends (bits (d.ssqStep q) 23 5) [(.readVout, 0)]
         if x.tries = 2 then pmbNack m d mm else (m, d)
     | none => (m, d))
  | o :: l =>
    let key := K.RAIL_CMD o.rail
    let put (l : List PmbOp) (d : Dev) : Dev := d.setPwr { d.pwr with pmb := Table.put d.pwr.pmb mm l }
    let answer (d : Dev) (a : Option Abort) : Dev :=
      match o.req, a with
      | some r, none => d.respond r 2 (key / 256) (key % 256) []
      | some r, some a => d.refuse r 2 (key / 256) (key % 256) a
      | none, _ => d
    if acked ∧ o.seq.isSome then (m, d)
    else
    let d := d.pmbSends o linear16
    if !acked then
      (if o.tries < 2 then (m, put ({ o with tries := o.tries + 1 } :: l) d)
       else
         let p := pmbNack m (put l d) mm
         (p.1, answer p.2 (some .fault)))
    else
      let d := put l d
      match o.kind with
      | 1 => (m, if linear16 then answer (d.railSet o.rail 1) none else answer d (some .range))
      | 2 => (m, answer (d.railSet o.rail 0) none)
      | 3 => (m, answer (d.setAll [(K.RAIL_VOUT o.rail, vout % 65536), (K.RAIL_IOUT o.rail, iout % 2 ^ 32),
                (K.RAIL_STATUS o.rail, status % 65536)]) none)
      | 5 =>
        let d := d.set (K.RAIL_STATUS o.rail) (status % 65536)
        if status % 65536 = 0 then (m, d)
        else raiseFault m (d.set (K.RAIL_STATE o.rail) 2) 34 (0x550 + o.rail) 0 (some (302, 1, 0)) [] []
      | _ => (m, d)

/-- PMB_ALERT: the master reads STATUS_WORD of every enabled rail on its bus. -/
def pmbAlert (d : Dev) (mm : Nat) : Dev :=
  if 2 ≤ mm then d
  else
    let d := (d.bump (K.PMB_ALERTS mm)).event (299 + mm) 1 0
    ((List.range 32).filter (fun r => d.railOn r && d.railMaster r == mm)).foldl (fun d r => d.pmbAsk { kind := 5, rail := r }) d

/-! Supply sequences (R388, R389). -/

/-- SSQ_CMD RUN. -/
def ssqRun (d : Dev) (q : Nat) : Except Abort Dev := do
  need (d.get (K.SSQ_STATE q) != 2) .state
  .ok (d.ssqStart q)

/-- A sequence ends; a ramp-down goes on with its next one. -/
def Dev.ssqEnd (d : Dev) (q st : Nat) : Dev :=
  let d := ({ d with ssqs := Table.del d.ssqs q } : Dev).set (K.SSQ_STATE q) st
  if d.pwr.ramped.contains q then d.rampNext else d

/-- A sequence ends in DONE. -/
def Dev.ssqDone (d : Dev) (q : Nat) : Dev := (d.ssqEnd q 4).event 301 1 0

/-- The next step, or the end with END or after the last step. -/
def Dev.ssqNext (d : Dev) (q : Nat) : Dev :=
  let k := (Table.at d.ssqs {} q).step + 1
  if 16 ≤ k ∨ bits (d.get (K.SSQ_STEP q k)) 28 4 = 0 then d.ssqDone q
  else ({ d with ssqs := Table.put d.ssqs q { step := k } } : Dev).ssqBegin q

/-- SSQ_STEP_DONE: an ON, OFF or SET_MV step has been carried out, once its transaction is the oldest of its master. -/
def ssqStepDone (d : Dev) (q : Nat) : Dev :=
  if 16 ≤ q ∨ d.get (K.SSQ_STATE q) ≠ 2 ∨ d.ssqTurn q = false then d
  else
    let s := d.ssqStep q
    let rail := bits s 23 5
    let d := d.ssqTake q
    match bits s 28 4 with
    | 0 => d.ssqDone q
    | 1 => (d.railSet rail 1).ssqNext q
    | 2 => (d.railSet rail 0).ssqNext q
    | 3 => (d.mvSet rail (bits s 0 16)).ssqNext q
    | _ => d

/-- WAIT_US_EXPIRY. -/
def waitUsExpiry (d : Dev) (q : Nat) : Dev :=
  if q < 16 ∧ d.get (K.SSQ_STATE q) = 2 ∧ bits (d.ssqStep q) 28 4 = 4 then d.ssqNext q else d

/-- WAIT_BELOW_POLL: READ_VOUT of every 100 µs; after 100 ms the run is ABORTED with DUT_SUPPLY. -/
def waitBelowPoll (m : Memory) (d : Dev) (q mv : Nat) (expired : Bool) : Memory × Dev :=
  if q < 16 ∧ d.get (K.SSQ_STATE q) = 2 ∧ bits (d.ssqStep q) 28 4 = 5 then
    let s := d.ssqStep q
    let d := (d.railSends (bits s 23 5) [(.readVout, 0)]).set (K.RAIL_VOUT (bits s 23 5)) (mv % 65536)
    let x := Table.at d.ssqs {} q
    if mv % 65536 < bits s 0 23 then (m, d.ssqNext q)
    else if expired ∨ 1000 ≤ x.polls + 1 then
      raiseFault m (d.ssqEnd q 5) 36 (0x580 + q) 0 (some (301, 2, 0)) [] []
    else (m, { d with ssqs := Table.put d.ssqs q { x with polls := x.polls + 1 } })
  else (m, d)

/-! SPI (R390). -/

/-- The entries a running list still has to send use port p. -/
def Dev.listUses (d : Dev) (p : Nat) : Bool :=
  (List.range 16).any (fun w => d.get (K.WL_STATE w) == 2 &&
    ((((List.range 64).filter (fun i => decide ((Table.at d.wls {} w).entry ≤ i))).map (fun i => d.get (K.WL_ENTRY w i))).takeWhile
      (fun e => bits e 58 3 != 0)).any (fun e => bits e 61 3 == p))

/-- Bytes received in a transfer of an entry's LEN are kept (R390). -/
def Dev.spiGot (d : Dev) (p e rx : Nat) : Dev :=
  let len := bits e 58 3
  if len = 0 then d else d.set (K.SPI_XFER p) (rx % 2 ^ (8 * len))

/-- A write of SPI_XFER: one transfer. -/
def spiXfer (d : Dev) (p v rx : Nat) : Except Abort Dev := do
  need (!d.listUses p) .busy
  .ok ((d.spiSend p v).spiGot p v rx)

/-- WL_CMD RUN. -/
def wlRun (d : Dev) (w : Nat) : Except Abort Dev := do
  need (d.get (K.WL_STATE w) != 2) .busy
  .ok (d.wlStart w)

/-- WL_ENTRY_DONE: an entry and its GAP are complete; LEN 0 or the last entry ends the list. -/
def wlEntryDone (d : Dev) (w rx : Nat) : Dev :=
  if 16 ≤ w ∨ d.get (K.WL_STATE w) ≠ 2 then d
  else
    let i := (Table.at d.wls {} w).entry
    let e := d.get (K.WL_ENTRY w i)
    let fin (d : Dev) : Dev := ((({ d with wls := Table.del d.wls w } : Dev).set (K.WL_STATE w) 4).event 313 1 0).wndListDone w
    if bits e 58 3 = 0 then fin d
    else
      let d := d.spiGot (bits e 61 3) e rx
      if 63 ≤ i ∨ bits (d.get (K.WL_ENTRY w (i + 1))) 58 3 = 0 then fin d
      else ({ d with wls := Table.put d.wls w ⟨i + 1⟩ } : Dev).spiSend (bits (d.get (K.WL_ENTRY w (i + 1))) 61 3)
        (d.get (K.WL_ENTRY w (i + 1)))

/-! Clocks (R107, R108, R376). -/

/-- The instances that hold PLL_UNLOCK after its occurrence in shaft k hold it for that shaft (R404): those that use it, and those
that hold it for no other. -/
def pllLatch (k : Nat) (p : Memory × Dev) : Memory × Dev :=
  let d := p.2
  (p.1, { d with pllOf := (d.latched.filter (fun q => bit q.2 9)).foldl (fun (t : Table Nat) q =>
    let uses := 0x1200 ≤ q.1 ∧ q.1 ≤ 0x123F ∧ (d.shaftsOf (q.1 - 0x1200)).contains k
    if q.1 = 0x0300 ∨ uses ∨ Table.at t 0 q.1 = 0 then Table.put t q.1 (setBit (Table.at t 0 q.1) k) else t) d.pllOf })

/-- PLL_UNLOCK of shaft k: raised on every sequencer with its home or gang in the shaft, and with none of them all the same
(R108, R376; log entry 24). -/
def pllUnlock (m : Memory) (d : Dev) (k : Nat) : Memory × Dev :=
  if 4 ≤ k ∨ d.get (K.PLL_STATE k) ≠ 2 then (m, d)
  else
    let d := (d.set (K.PLL_STATE k) 1).bump (K.PLL_UNLOCKS k)
    let d := d.setUnsure (setBit (d.get K.UNSURE_CAUSE) 2)
    let l := d.liveSeqs.filter (fun n => (d.shaftsOf n).contains k)
    let mask := maskOf l
    let cause := (Config.causeOfFault 9).toNat
    match l with
    | [] => pllLatch k (raiseFault m d 9 (0x1710 + k) 0 none [] [])
    | n :: ns =>
      let d := ns.foldl (fun (d : Dev) x => raiseN 257 d x cause mask (decide (1 ≤ d.get (K.FAULT_REACT 9)))) d
      pllLatch k (raiseFault m d 9 (0x1710 + k) mask (some (n, cause, mask)) (l.map (0x1200 + ·)) [])

/-- PLL_LOCK: shaft PLL k, or with k = 4 the always-on PLL, whose lock brings the clocks back (R376). -/
def pllLock (d : Dev) (k : Nat) : Dev :=
  if k < 4 then (if d.get (K.PLL_STATE k) = 1 then d.set (K.PLL_STATE k) 2 else d)
  else if k = 4 then
    (d.setPwr { d.pwr with refLost := false }).canaryTry
  else d

/-- REFCLK_LOST: TB1 stops, PLL_LOSS is set, every lane loses its transmit clock (R305, R376). -/
def refclkLost (m : Memory) (d : Dev) : Memory × Dev :=
  if d.pwr.refLost then (m, d)
  else
    let d := d.setPwr { d.pwr with refLost := true }
    let d := d.setUnsure (setBit (d.get K.UNSURE_CAUSE) 2)
    let p := (List.range 6).foldl (fun (q : Memory × Dev) p =>
      if q.2.portState p = 5 then portLost q.1 q.2 p
      else if q.2.portState p = 0 ∨ q.2.portState p = 6 then q
      else (q.1, (q.2.toBackoff p 5).portEvent p 6)) (m, d)
    raiseFault p.1 p.2 32 0x0300 0 none [] []

end Sys2Proof.Machine
end

