-- ==== Sys2Proof/Machine/Winder.lean ====
section
/-! DEFINITION. The Winder and self-test (R355 to R372, R417 to R422, R447): commands, micro-words, SAFE points, service
passes, and what each routine writes. The nano-words' encoding is not given (R357): a routine's writes are made when it
halts, and what it measures is free. -/

namespace Sys2Proof.Machine

/-! Starting a routine (R363 to R365). -/

/-- The TMUs a routine holds. -/
def Dev.wndTmus (d : Dev) (routine arg : Nat) : List Nat :=
  if routine = 1 ∨ routine = 8 ∨ routine = 9 then setBits 4 arg
  else if routine = 3 then [d.get K.MASTER_PORT % 4] else []

/-- SYNC_SKEW's marker leaves on every Gallery port (R131, R325). -/
def Dev.skewSend (d : Dev) : Dev := ({ d with fresh := d.fresh + 1 } : Dev).tellTimed .skewMarker

/-- A foreground routine starts: WND_STATUS cleared but for its ROUTINE, WND_RUNS counted, resources held. Its entry address
stands in the image and is free. -/
def Dev.wndStart (d : Dev) (routine arg : Nat) : Dev :=
  let pc := (d.free 14).1
  let d := (((d.free 14).2.set K.WND_STATUS (routine * 2 ^ 24)).bump K.WND_RUNS).set K.WND_STATE 2
  let w : Winder := { d.wnd with routine := routine, arg := arg, pc := pc, stack := [], timedOut := false, intr := 0 }
  let d : Dev := { d with wnd := { w with entered := false, safeAt := d.clk, waiting := false, loops := 0, phase := 0 } }
  let d := (d.wndTmus routine arg).foldl (fun (d : Dev) k => d.setTmu k { d.tmu k with holder := 2 }) d
  let d := if routine = 3 then
      let f := d.free 32
      let g := f.2.free 32
      ({ g.2 with wnd := { g.2.wnd with skewB := f.1, skewA := g.1 } } : Dev).skewSend
    else d
  let list := bits arg 8 8
  if routine = 1 ∧ list < 16 then
    ({ d with wnd := { d.wnd with entered := true } } : Dev).wlStart list
  else d

/-- TMU k is free (R365). -/
def Dev.tmuFree (d : Dev) (k : Nat) : Bool := (d.tmu k).holder == 0 && d.get (K.TMU_STATE k) != 2

/-- The argument of a RUN has the layout its routine gives (R365). -/
def wndArgOk (routine arg : Nat) : Bool :=
  let listOk (x : Nat) : Bool := decide (x < 16) || x == 0xFF
  match routine with
  | 1 => decide (arg < 2 ^ 24) && bits arg 4 4 == 0 && arg % 16 != 0 && listOk (bits arg 8 8) && listOk (bits arg 16 8)
  | 2 => decide (arg < 64)
  | 3 => decide (1 ≤ arg) && decide (arg ≤ 60000)
  | 8 | 9 => decide (1 ≤ arg) && decide (arg < 16)
  | _ => false

/-- WND_CMD RUN: RANGE, BUSY, then the preconditions of the routine. -/
def wndRun (d : Dev) : Except Abort Dev := do
  let id := d.get K.WND_ROUTINE
  let a := d.get K.WND_ARG
  need (wndArgOk id a) .range
  need (!d.wndBusy) .busy
  need (!d.latchHeld 0x0740 K.WND_STATE) .state
  let ks := setBits 4 a
  let sq (n : Nat) : Bool := d.get (K.SEQ_STATE n) == 0
  match id with
  | 1 => do
    need (ks.all (fun k => (List.range 64).all (fun c => (d.ownersOf (64 * k + c)).all sq))) .state
    need (ks.all d.tmuFree) .busy
    need (ks.all (fun k => d.get (K.LIN_STATE k) != 2)) .state
  | 2 => need (sq a && (d.sitesOf a).any (fun s => d.get (K.SITE_ENABLE s) == 1)) .state
  | 3 => need (d.syncStopped && d.get K.SYNC_STATE == 2 && (d.get K.SYNC_ROLE == 1 || d.get K.SYNC_ROLE == 2)) .state
  | 8 => need (ks.all d.tmuFree) .busy
  | _ => do
    need ((List.range 64).all (fun n => sq n || !((d.gangOf n).any (fun p => ks.contains (p.1 / 64))))) .state
    need (ks.all d.tmuFree) .busy
    need (ks.all (fun k => d.get (K.TMU_CALIBRATED k) == 1)) .state
  .ok (d.wndStart id a)

/-- WND_CMD ABORT (R360, R367). -/
def wndAbort (m : Memory) (d : Dev) : Except Abort (Memory × Dev) := do
  need d.wndBusy .state
  .ok (wndRequest m d 0)

/-- DDR_CMD INIT (R264, R364). -/
def ddrInit (d : Dev) : Except Abort Dev := do
  need (d.get K.DDR_STATE == 1) .state
  need (!d.wndBusy) .busy
  need (!d.latchHeld 0x0740 K.WND_STATE) .state
  .ok ((d.setDdrState 2).wndStart 4 0)

/-! Self-test (R417 to R422). -/

/-- The condition of R419 under which a domain may be tested; a chip SHED with PRIOR_STATE SERVICE counts as SERVICE. -/
def Dev.testable (d : Dev) (dd unit : Nat) : Bool :=
  let service := d.get K.CHIP_STATE == 7 || (d.get K.CHIP_STATE == 5 && d.get K.PRIOR_STATE == 7)
  let asyOk (u : Nat) : Bool := d.get (K.ASY_STATE u) == 0 || d.get (K.ASY_STATE u) == 4
  if dd = 1 then service
  else if 2 ≤ dd ∧ dd ≤ 5 then !d.shaftUsed (dd - 2)
  else if 6 ≤ dd ∧ dd ≤ 21 then !d.seamUsed (dd - 6)
  else if 22 ≤ dd ∧ dd ≤ 25 then [2 * (dd - 22), 2 * (dd - 22) + 1].all (fun k => d.get (K.SPE_STATE k) != 1)
  else if 26 ≤ dd ∧ dd ≤ 33 then !d.bankMapped (dd - 26)
  else if 34 ≤ dd ∧ dd ≤ 41 then !d.ddrUsers && d.get K.DDR_STATE != 2
  else if 42 ≤ dd ∧ dd ≤ 45 then d.get (K.CLUSTER_STATE (dd - 42)) == 3
  else if dd = 46 then
    service && (List.range 256).all (fun q => d.get (K.Q_STATE q) == 0) && (List.range 16).all (fun c => d.get (K.TRAM_STATE c) == 0)
  else if dd = 47 ∨ dd = 48 then
    (if unit < 8 then asyOk (8 * (dd - 47) + unit) else (List.range 8).all (fun u => asyOk (8 * (dd - 47) + u)))
  else if dd = 49 then
    (List.range 16).all (fun h => d.get (K.HEW_STATE h) == 0) && (List.range 4).all (fun k => d.get (K.TMU_STATE k) == 0) &&
      (List.range 4).all (fun e => d.get (K.DWS_STATE e) != 2 && d.get (K.DWS_STATE e) != 3)
  else if dd = 51 then (List.range 4).all (fun p => d.portState (2 + p) == 0)
  else false

/-- BIST_CMD START. -/
def bistStart (d : Dev) : Except Abort Dev := do
  let t := d.get K.BIST_TARGET
  let dd := t % 64
  let unit := bits t 8 4
  let kind := bits t 12 3
  need (decide (1 ≤ kind) && decide (kind ≤ 3) && decide (dd ≤ 51) && dd != 0 && dd != 50 &&
    (unit == 15 || (decide (unit < 8) && (dd == 47 || dd == 48)))) .range
  need (d.get K.SHED_LEVEL == 0) .shed
  need (!d.wndBusy) .busy
  need (!d.latchHeld 0x0740 K.WND_STATE && !d.latchHeld 0x0800 K.BIST_STATE && d.domOn dd && d.testable dd unit) .state
  .ok (((d.set K.BIST_STATE 2).bump K.BIST_RUNS).wndStart 6 0)

/-- BIST_CMD ABORT: an interrupt request of the routine (R418). -/
def bistAbort (m : Memory) (d : Dev) : Except Abort (Memory × Dev) := do
  need (d.get K.BIST_STATE == 2 || d.get K.BIST_STATE == 3) .state
  .ok (wndRequest m d 0)

/-- The marks of a test's target (R422): set by a FAIL, cleared by a PASS. A seam FAIL that names no channel marks the domain
(log entry 57). -/
def Dev.bistMark (d : Dev) (fails shared : Bool) : Dev :=
  let t := d.get K.BIST_TARGET
  let dd := t % 64
  let unit := bits t 8 4
  let cf := d.get K.CHAN_FAILS
  if unit < 8 ∧ (dd = 47 ∨ dd = 48) then d.setB K.UNIT_FAILED (8 * (dd - 47) + unit) fails
  else if 22 ≤ dd ∧ dd ≤ 25 then
    [0, 1].foldl (fun (d : Dev) i =>
      let k := 2 * (dd - 22) + i
      if fails ∧ bit cf i then d.set (K.SPE_STATE k) 2
      else if !fails ∧ d.get (K.SPE_STATE k) = 2 then d.set (K.SPE_STATE k) 0 else d) d
  else if 6 ≤ dd ∧ dd ≤ 21 ∧ fails ∧ !shared ∧ cf ≠ 0 then
    (setBits 16 cf).foldl (fun d c => d.set (K.CH_BIST_FAILED (16 * (dd - 6) + c)) 1) d
  else
    let d := d.setB K.DOMAIN_FAILED dd fails
    if 6 ≤ dd ∧ dd ≤ 21 ∧ !fails then
      (List.range 16).foldl (fun (d : Dev) c => d.set (K.CH_BIST_FAILED (16 * (dd - 6) + c)) 0) d
    else d

/-- What a test of BIST_TARGET should find by the running image (R420). -/
def Dev.bistExp (d : Dev) (memory : Bool) : Nat := (Config.bistExpected (d.sigs.getD []) (d.get K.BIST_TARGET) memory).toNat

/-- A test is completed (R418, R420): signatures are measured, and so free, and compared with the running image's. -/
def bistDone (m : Memory) (d : Dev) : Memory × Dev :=
  let t := d.get K.BIST_TARGET
  let dd := t % 64
  let kind := bits t 12 3
  let logic := kind == 1 || kind == 3
  let memory := kind == 2 || kind == 3
  let d := if logic then (d.freeSet [(K.LOGIC_SIG, 64)]).set K.LOGIC_EXP (d.bistExp false) else d
  let d := if memory then (d.freeSet [(K.MEM_SIG, 64)]).set K.MEM_EXP (d.bistExp true) else d
  let lf := logic && d.get K.LOGIC_SIG != d.get K.LOGIC_EXP
  let mf := memory && d.get K.MEM_SIG != d.get K.MEM_EXP
  let d := if mf then d.freeSet [(K.MEM_FAIL_ADDR, 32)] else if memory then d.set K.MEM_FAIL_ADDR 0xFFFFFFFF else d
  let segs := (Config.misrSegments (BitVec.ofNat 64 (d.get K.LOGIC_SIG)) (BitVec.ofNat 64 (d.get K.LOGIC_EXP))).toNat
  let d := d.set K.CHAN_FAILS (if lf ∧ 6 ≤ dd ∧ dd ≤ 21 then segs % 2 ^ 16 else if lf ∧ 22 ≤ dd ∧ dd ≤ 25 then segs % 4 else 0)
  let fails := lf || mf
  let res := fld 18 6 dd + fld 14 4 (bits t 8 4) + fld 11 3 kind + fld 3 1 (b2n mf) + fld 2 1 (b2n lf) + (if fails then 2 else 1)
  let d := d.set K.BIST_RESULT res
  let p := bistLost m (d.bistMark fails (lf && bit segs 16))
  let d := p.2.set K.BIST_STATE 4
  if fails then raiseFault p.1 (d.bump K.BIST_FAILS) 40 0x0800 0 (some (306, 2, 0)) [] []
  else (p.1, d.event 306 1 0)

/-! What each routine writes (R366, R368 to R370). -/

/-- PCH_CAL: offsets, CAL_TEMP and THERM_ADJ of every channel of the mask, or of its mapped spare. -/
def Dev.pchCalWrite (d : Dev) (arg : Nat) : Dev :=
  let d := d.freeSet ((setBits 4 arg).map (fun k => (K.SHAFT_TEMP k, 16)))
  ((setBits 4 arg).flatMap (fun k => (List.range 64).map (64 * k + ·))).foldl (fun (d : Dev) ch =>
    let d := d.set (K.CAL_TEMP ch) (d.get (K.SHAFT_TEMP (ch / 64)))
    match d.spareFor ch with
    | some k => ((List.range 6).foldl (fun d i => d.freeWithin (K.SPE_CAL k i) 16 4000 1) d).set (K.SPE_THERM_ADJ k) 0
    | none => ([K.CAL_DRV_RISE ch, K.CAL_DRV_FALL ch, K.CAL_DEN_ON ch, K.CAL_DEN_OFF ch, K.CAL_CMPH ch, K.CAL_CMPL ch].foldl
        (fun d key => d.freeWithin key 16 4000 1) d).set (K.THERM_ADJ ch) 0) d

/-- A SKEW_ADJ the object cannot hold: SYNC_SKEW of a member fails with ADJ_RANGE (R365, R439). -/
def Dev.skewOut (d : Dev) : Bool :=
  d.wnd.routine == 3 && d.get K.SYNC_ROLE == 2 && !(decide (-5000000 ≤ d.skewSum) && decide (d.skewSum ≤ 5000000))

/-- The latest strobe of a channel over the active copies of the 32 timing sets, with its compare offsets, in fs (R369). -/
def Dev.latestStrobe (d : Dev) (n ch : Nat) : Int :=
  let o := d.offsets ch
  let sets := (List.range 32).map (fun t => let b := (d.actSet n ch t).b; max (fSTB1 b) (fSTB2 b))
  500 * ((sets.foldl max 0 : Nat) + max (o.getD 4 0) (o.getD 5 0))

/-- The largest of some integers. -/
def maxInt : List Int → Int
  | [] => 0
  | x :: l => l.foldl max x

/-- LOOP_LAT's measurement (R369): per slice the time from strobe to home block, which is free, with the slice's latest strobe:
the seam of the slowest slice and its sum. -/
def Dev.loopLatMeasure (d : Dev) (n : Nat) : (Nat × Int) × Dev :=
  let gang := d.gangOf n
  let p := (seamsOf gang).foldl (fun (p : List (Nat × Int) × Dev) s =>
    let late := maxInt ((gang.filter (fun c => c.1 / 16 == s)).map (fun c => d.latestStrobe n c.1))
    (p.1 ++ [(s, ((p.2.free 32).1 : Int) + late)], (p.2.free 32).2)) ([], d)
  let top := maxInt (p.1.map (·.2))
  ((((p.1.find? (fun q => q.2 == top)).map (·.1)).getD 0, top), p.2)

/-- LOOP_LAT (R369): the largest sum over the gang and 10 ns of margin. -/
def Dev.loopLatWrite (d : Dev) (n : Nat) : Dev :=
  let r := d.loopLatMeasure n
  r.2.set (K.LOOP_LATENCY n) (r.1.2 + 10000000).toNat

/-- SYNC_SKEW: SKEW_ADJ and SKEW_RESIDUAL, and every UNSURE_CAUSE bit whose cause is gone (R131). The timing master has no
parent and keeps its SKEW_ADJ. -/
def Dev.syncSkewWrite (d : Dev) : Dev :=
  let d := (if d.get K.SYNC_ROLE = 2 then d.set K.SKEW_ADJ (ofSigned 64 d.skewSum) else d).freeSet [(K.SKEW_RESIDUAL, 64)]
  let u := clrBit (d.get K.UNSURE_CAUSE) 0
  let u := if d.galLost = 0 then clrBit u 1 else u
  let u := if !d.pwr.refLost && (List.range 4).all (fun k => !(d.domOn (2 + k)) || d.get (K.PLL_STATE k) == 2) then clrBit u 2 else u
  let u := if d.master = some (d.get K.EPOCH_COUNT) ∨ d.get K.SYNC_ROLE = 1 then clrBit u 3 else u
  d.setUnsure u

/-- The writes of a routine that has passed its commit point. -/
def Dev.routineWrites (d : Dev) : Dev :=
  let a := d.wnd.arg
  match d.wnd.routine with
  | 1 => d.pchCalWrite a
  | 2 => d.loopLatWrite (a % 64)
  | 3 => d.syncSkewWrite
  | 8 => (setBits 4 a).foldl (fun (d : Dev) k => d.set (K.TMU_CALIBRATED k) 1) d
  | 9 => (setBits 4 a).foldl (fun (d : Dev) k => (d.set (K.LIN_STATE k) 1).freeSet [(K.LIN_INL k, 64)]) d
  | _ => d

/-- DDR_TRAIN ends (R263, R264): every channel trained, or one fails a step; which is free. -/
def ddrTrained (m : Memory) (d : Dev) : Memory × Dev :=
  let ok := (d.freeB).1
  let d := (d.freeB).2
  let chans := setBits 8 (d.get K.CHAN_MASK)
  if ok || chans.isEmpty then
    let d := d.freeSet (chans.map (fun c => (K.TRAIN_RESULT c, 16)))
    let d := chans.foldl (fun (d : Dev) c => (d.set (K.SCRUB_PASSES c) 0).set (K.REF_DEBT c) 0) d
    (m, ((d.setDdrState 3).event 228 1 3).wndFinish)
  else
    let c := chans.getD ((d.free 8).1 % chans.length) 0
    let d := (d.free 8).2
    let x := (d.free 32).1
    let d := (d.free 32).2
    let at_ := bits (d.get K.WND_STATUS) 8 16
    let c := if at_ ≠ 0 ∧ chans.contains (at_ / 256) then at_ / 256 else c
    let res := fld 24 8 (1 + bits x 24 8 % 5) + fld 16 8 (bits x 16 8 % 9) + x % 65536
    let p := wndUnwind m (d.set K.WND_FAIL res) 4
    raiseFault p.1 (p.2.set (K.TRAIN_RESULT c) res) 22 0x0900 0 none [0x0900] []

/-! Micro-words (R356, R357). -/

/-- The ARG of the micro-word at the Winder's address, if a routine runs and the word's SEQ is the command's: where the
image's word is not known the command says which it is. A WAITE that waits is the word until it goes on. -/
def microArg (m : Memory) (d : Dev) (op : Nat) : Option Nat :=
  if d.get K.WND_STATE ≠ 2 ∨ d.wnd.phase ≠ 0 ∨ (d.wnd.waiting ∧ op ≠ 6) then none
  else
    let a := microAt (4 * d.wnd.pc)
    let same := match Memory.look m (a + 3) with
      | some b => (if op = 9 then decide (9 ≤ b.toNat / 16) else b.toNat / 16 == op)
      | none => true
    if same then some (Memory.rdVal m d.fresh a 4 % 2 ^ 17) else none

/-- The Winder goes on at an address. -/
def Dev.wndGo (d : Dev) (pc : Nat) : Dev := { d with wnd := { d.wnd with pc := pc % 16384 } }
def Dev.wndNext (d : Dev) : Dev := d.wndGo (d.wnd.pc + 1)

/-- A TRAP: unwind before the commit point; after it the routine is halted with WINDER_TRAP (R362). -/
def microTrapped (m : Memory) (d : Dev) : Memory × Dev :=
  if bit (d.get K.WND_STATUS) 5 then
    let p := wndHaltF m d (decide (1 ≤ d.get (K.FAULT_REACT 27)))
    raiseFault p.1 p.2 27 0x0740 p.2.wndInfo none [] []
  else wndUnwind m d 4

/-- The event of a class K fault of the Winder where no halt raises it: in BOOT and LOCKED (R372, R416). -/
def Dev.hangEvent (d : Dev) (fk : Nat) : Option (Nat × Nat × Nat) :=
  if d.get K.CHIP_STATE < 2 then some (305, (Config.causeOfFault fk).toNat, d.wndInfo) else none

/-- The frame of a micro-word: an uncorrectable store error is the class K fault WINDER_STORE_ECC (R372). -/
def microWord (m : Memory) (d : Dev) (op ecc : Nat) (act : Nat → Memory × Dev) : Memory × Dev :=
  match microArg m d op with
  | none => (m, d)
  | some arg =>
    if ecc = 2 then raiseFault m d 29 0x0740 d.wndInfo (d.hangEvent 29) [] []
    else act arg

/-! Service passes (R359, R371). -/

/-- THERM_TRACK_DUE. -/
def thermTrackDue (d : Dev) : Dev :=
  if d.get K.THERM_EN = 1 ∧ !d.wnd.thermDue then { d with wnd := { d.wnd with thermDue := true, thermAt := d.clk } } else d

/-- Integer division rounded to nearest, halves away from zero. -/
def roundHalf (n : Int) (k : Nat) : Int := if 0 ≤ n then (2 * n + k) / (2 * k) else -((2 * (-n) + k) / (2 * k))

/-- One step of a THERM_ADJ towards its target (R371). -/
def thermMove (adj target : Int) : Int := if adj < target then adj + 1 else if target < adj then adj - 1 else adj

/-- A THERM_TRACK pass runs: `temps` are the junction temperatures of the shafts. Late by more than 1 ms it is counted. -/
def Dev.thermPass (d : Dev) (temps : List Nat) : Dev :=
    let late := decide (d.wnd.thermAt + 400000 < d.clk)
    let d : Dev := { d with wnd := { d.wnd with thermDue := false, therm := none } }
    let d := if late then d.bump K.THERM_DEFERRED else d
    let d := (List.range 4).foldl (fun (d : Dev) k => match temps[k]? with
      | some t => d.set (K.SHAFT_TEMP k) (t % 65536)
      | none => d) d
    let coeff := toSigned 32 (d.get K.THERM_COEFF)
    (List.range 256).foldl (fun (d : Dev) ch =>
      let diff := toSigned 16 (d.get (K.SHAFT_TEMP (ch / 64))) - toSigned 16 (d.get (K.CAL_TEMP ch))
      let target := -(roundHalf (diff * coeff) 5000)
      let key := match d.spareFor ch with | some k => K.SPE_THERM_ADJ k | none => K.THERM_ADJ ch
      let old := toSigned 16 (d.get key)
      let new := thermMove old target
      if new = old then d else d.set key (ofSigned 16 new)) d

/-- THERM_TRACK: a pass that is due runs, at the next SAFE point where a foreground routine runs (R359, R367). -/
def thermTrack (d : Dev) (temps : List Nat) : Dev :=
  if !d.wnd.thermDue then d
  else if d.get K.WND_STATE = 2 then { d with wnd := { d.wnd with therm := some temps } }
  else d.thermPass temps

/-- A LANE_ADAPT pass runs on a lane that trains (R308). -/
def Dev.adaptPass (d : Dev) (l preReq postReq presetReq : Nat) : Dev :=
  if l < 16 ∧ d.laneTrains l then d.laneAdapted l preReq postReq presetReq else d

/-- LANE_ADAPT: a pass on a lane that trains, at the next SAFE point where a foreground routine runs (R308, R359). -/
def laneAdapt (d : Dev) (l preReq postReq presetReq : Nat) : Dev :=
  if d.get K.WND_STATE = 2 ∧ l < 16 ∧ d.laneTrains l then
    { d with wnd := { d.wnd with adapts := d.wnd.adapts ++ [(l, preReq, postReq, presetReq)] } }
  else d.adaptPass l preReq postReq presetReq

/-- SHED_SEQ: a pending pass runs, at the next SAFE point where a foreground routine runs (R359). -/
def shedSeqDue (m : Memory) (d : Dev) : Memory × Dev := if d.get K.WND_STATE = 2 then (m, d) else shedSeqPass m d

/-- The pending service passes: LANE_ADAPT before THERM_TRACK (R360). -/
def Dev.wndService (d : Dev) : Dev :=
  let l := d.wnd.adapts
  let d := l.foldl (fun (d : Dev) a => d.adaptPass a.1 a.2.1 a.2.2.1 a.2.2.2) ({ d with wnd := { d.wnd with adapts := [] } } : Dev)
  match d.wnd.therm with
  | some t => d.thermPass t
  | none => d

/-! SAFE points and micro-words. -/

/-- What a SAFE point brings, in the order of R360: a pending SHED_SEQ pass, a pending interrupt request, the other pending passes,
and for BIST_RUN under shed level 1 or 2 the pause. -/
def safeActs (m : Memory) (d : Dev) : Memory × Dev :=
  let d := d.keepMax K.SAFE_GAP_MAX ((d.clk - d.wnd.safeAt) * 5 / 2)
  let d : Dev := { d with wnd := { d.wnd with safeAt := d.clk } }
  let p := shedSeqPass m d
  let d := p.2
  if d.wnd.intr ≠ 0 ∧ !(bit (d.get K.WND_STATUS) 5) then wndUnwind p.1 d (intrResult d.wnd.intr)
  else
    let d := d.wndService
    if d.wnd.routine = 6 ∧ d.get K.WND_STATE = 2 ∧ 1 ≤ d.get K.SHED_LEVEL ∧ d.get K.SHED_LEVEL ≤ 2 then
      (p.1, (d.set K.WND_STATE 3).set K.BIST_STATE 3)
    else (p.1, d)

/-- SAFE_POINT: every 50 µs of a WAITE that waits, an EXIT_LIST's included (R358); at those of an unwind only a SHED_SEQ pass
runs (R361). -/
def safePoint (m : Memory) (d : Dev) : Memory × Dev :=
  if d.get K.WND_STATE ≠ 2 then (m, d)
  else if d.wnd.phase = 1 then shedSeqPass m { d with wnd := { d.wnd with safeAt := d.clk } }
  else if d.wnd.waiting ∨ d.wnd.phase = 2 then safeActs m d
  else (m, d)

/-- The steps a foreground routine reports, in order, and the one that is its commit point, if it has one (R447). -/
def Dev.wndSteps (d : Dev) : List Nat × Option Nat :=
  let count (k extra : Nat) : List Nat × Option Nat := ((List.range (k + extra)).map (· + 1), some (k + extra - 1))
  let ks := (setBits 4 d.wnd.arg).length
  match d.wnd.routine with
  | 1 => ((List.range (64 * ks + 4)).map (· + 1), some (64 * ks + 2))
  | 2 => count (seamsOf (d.gangOf (d.wnd.arg % 64))).length 2
  | 3 => ([1, 2, 3, 4], some 3)
  | 4 => ((setBits 8 (d.get K.CHAN_MASK)).flatMap (fun c => (List.range d.ddrRanks).flatMap (fun r =>
      (List.range 5).map (fun t => 256 * c + 16 * r + t + 1))), none)
  | 6 => (match bits (d.get K.BIST_TARGET) 12 3 with
    | 1 => [1]
    | 2 => [2]
    | _ => [1, 2], none)
  | 8 => count ks 2
  | 9 => count (4 * ks) 2
  | _ => ([], none)

/-- The step after the present one. -/
def Dev.wndNextStep (d : Dev) : Nat :=
  let now := bits (d.get K.WND_STATUS) 8 16
  let l := d.wndSteps.1
  if now = 0 then l.headD 0 else l.getD (l.idxOf now + 1) now

/-- NEXT and JMP. -/
def microNext (m : Memory) (d : Dev) (ecc : Nat) : Memory × Dev := microWord m d 0 ecc (fun _ => (m, d.wndNext))
def microJmp (m : Memory) (d : Dev) (ecc : Nat) : Memory × Dev := microWord m d 1 ecc (fun a => (m, d.wndGo (a % 16384)))

/-- JCC: TIMED_OUT is the last WAITE's; the conditions of the datapath are free, NOT_ZERO being ZERO's complement. -/
def microJcc (m : Memory) (d : Dev) (ecc : Nat) : Memory × Dev := microWord m d 2 ecc (fun a =>
  let c := if bits a 14 3 = 5 then d.wnd.timedOut else (d.freeB).1 != (bits a 14 3 == 1)
  let d := if bits a 14 3 = 5 then d else (d.freeB).2
  (m, if c then d.wndGo (a % 16384) else d.wndNext))

/-- CALL and RET: a full or an empty micro-stack is a TRAP. -/
def microCall (m : Memory) (d : Dev) (ecc : Nat) : Memory × Dev := microWord m d 3 ecc (fun a =>
  if 8 ≤ d.wnd.stack.length then microTrapped m d
  else
    let w := d.wnd
    (m, ({ d with wnd := { w with stack := (w.pc + 1) % 16384 :: w.stack } } : Dev).wndGo (a % 16384)))
def microRet (m : Memory) (d : Dev) (ecc : Nat) : Memory × Dev := microWord m d 4 ecc (fun _ =>
  match d.wnd.stack with
  | [] => microTrapped m d
  | x :: l => (m, ({ d with wnd := { d.wnd with stack := l } } : Dev).wndGo x))

/-- The low three bytes of the word at the Winder's address, its ARG among them, are known. -/
def microKnown (m : Memory) (d : Dev) : Bool :=
  (List.range 3).all (fun i => (Memory.look m (microAt (4 * d.wnd.pc) + i)).isSome)

/-- SAFE: the STEP, what the SAFE point brings, and with COMMIT the commit point of a routine that has one (R361, R365); a
SYNC_SKEW whose adjustment the object cannot hold fails there. Where the image's word is not known the STEP is the routine's
next by R447. -/
def microSafe (m : Memory) (d : Dev) (ecc : Nat) : Memory × Dev := microWord m d 5 ecc (fun a =>
  let steps := d.wndSteps
  let step := if microKnown m d then bits a 0 16 else d.wndNextStep
  let commit := steps.2.isSome && (if microKnown m d then bit a 16 else steps.2 == some step)
  let p := safeActs m (d.setF K.WND_STATUS 8 16 step)
  if p.2.wndBusy ∧ p.2.wnd.phase = 0 then
    if commit ∧ p.2.skewOut then wndUnwind p.1 (p.2.set K.WND_FAIL 4) 4
    else (p.1, (if commit then p.2.setB K.WND_STATUS 5 true else p.2).wndNext)
  else p)

/-- WAITE: a SAFE point on entry; it goes on when the source comes (`done`) or its limit, in units of 10 µs, has run out, and
waits until then (R356, R358). -/
def microWaite (m : Memory) (d : Dev) (ecc : Nat) (done : Bool) : Memory × Dev := microWord m d 6 ecc (fun a =>
  let p := if d.wnd.waiting then (m, d) else safeActs m { d with wnd := { d.wnd with waiting := true, waitAt := d.clk } }
  let e := p.2
  if !(e.wndBusy ∧ e.wnd.phase = 0) then p
  else if done ∨ e.wnd.waitAt + bits a 0 12 * 4000 ≤ e.clk then
    (p.1, ({ e with wnd := { e.wnd with waiting := false, timedOut := !done } } : Dev).wndNext)
  else p)

/-- LOOP: the loop counter is decremented, and the branch taken while it is not 0. What a nano-word loads into one that has run
out is free (R356, R357). -/
def microLoop (m : Memory) (d : Dev) (ecc : Nat) : Memory × Dev := microWord m d 7 ecc (fun a =>
  let f := if d.wnd.loops = 0 then d.free 32 else (d.wnd.loops, d)
  let n := (f.1 + (2 ^ 32 - 1)) % 2 ^ 32
  let e : Dev := { f.2 with wnd := { f.2.wnd with loops := n } }
  (m, if n = 0 then e.wndNext else e.wndGo (a % 16384)))

/-- WND_FAIL of a routine that found a failure, as the catalogue lays it out (R365); what failed is free, but for LOOP_LAT's
slowest slice and an adjustment out of range. -/
def Dev.wndFailed (d : Dev) : Dev :=
  let x := (d.free 32).1
  let d := (d.free 32).2
  let w := d.wnd
  let ks := setBits 4 w.arg
  let k := ks.getD (x % ks.length) 0
  let cause := fld 8 8 (1 + bits x 16 1)
  match w.routine with
  | 1 => d.set K.WND_FAIL (cause + (64 * k + bits x 8 6))
  | 2 => let r := d.loopLatMeasure (w.arg % 64)
    r.2.set K.WND_FAIL r.1.1
  | 3 => d.set K.WND_FAIL (if d.skewOut then 4 else 1 + x % 3)
  | 8 => d.set K.WND_FAIL k
  | _ => d.set K.WND_FAIL (cause + (4 * k + bits x 8 2))

/-- HALT: the routine ends; one that has a commit point and has not passed it found a failure (R364). -/
def microHalt (m : Memory) (d : Dev) (ecc : Nat) : Memory × Dev := microWord m d 8 ecc (fun _ =>
  let w := d.wnd
  if w.routine = 4 then ddrTrained m d
  else if w.routine = 6 then
    let p := bistDone m d
    (p.1, if p.2.wndBusy then p.2.wndFinish else p.2)
  else if bit (d.get K.WND_STATUS) 5 then
    let d := d.routineWrites
    (m, if w.routine = 1 then (d.wndExitList 2 0).getD d.wndFinish else d.wndFinish)
  else wndUnwind m d.wndFailed 4)

/-- TRAP, and every reserved SEQ. -/
def microTrap (m : Memory) (d : Dev) (ecc : Nat) : Memory × Dev := microWord m d 9 ecc (fun _ => microTrapped m d)

/-- WINDER_HANG: 1 ms without a SAFE point (R358). -/
def winderHang (m : Memory) (d : Dev) : Memory × Dev :=
  if d.get K.WND_STATE = 2 then raiseFault m d 28 0x0740 d.wndInfo (d.hangEvent 28) [] []
  else (m, d)

end Sys2Proof.Machine
end

