-- ==== Sys2Proof/Machine/Pins.lean ====
section
/-! DEFINITION. The signal balls (R374, R424, R435, R440, R446): what each carries, from the state; boundary scan drives and
captures them. -/

namespace Sys2Proof.Machine

/-- A ball's number: the pair of channel ch is 2 ch (DRV) and 2 ch + 1 (DEN); the others follow in the order of Ball. -/
def Ball.no : Ball → Nat
  | .drv ch => 2 * ch
  | .den ch => 2 * ch + 1
  | .cmpH ch => 512 + 2 * ch
  | .cmpL ch => 513 + 2 * ch
  | .laneTx l => 1024 + l
  | .trigIn l => 1040 + l
  | .trigOut l => 1048 + l
  | .tbus l => 1056 + l
  | .canary => 1064
  | .pwrWarnN => 1065
  | .resetN => 1066
  | .tdo => 1067
  | .spi p => 1068 + p
  | .pmb b => 1076 + b

/-- The balls. -/
def Ball.all : List Ball :=
  (List.range 256).map .drv ++ (List.range 256).map .den ++ (List.range 256).map .cmpH ++ (List.range 256).map .cmpL ++
  (List.range 16).map .laneTx ++ (List.range 8).map .trigIn ++ (List.range 8).map .trigOut ++ (List.range 8).map .tbus ++
  [.canary, .pwrWarnN, .resetN, .tdo] ++ (List.range 8).map .spi ++ (List.range 2).map .pmb

/-- Balls with an AC boundary cell (R424). -/
def Ball.ac : Ball → Bool
  | .drv _ | .den _ | .cmpH _ | .cmpL _ | .laneTx _ => true
  | _ => false

/-- Balls the block only reads. -/
def Ball.input : Ball → Bool
  | .cmpH _ | .cmpL _ | .trigIn _ | .pwrWarnN | .resetN => true
  | _ => false

def levelOf (b : Bool) : PinLevel := if b then .high else .low

/-- VPCH is in its range, as far as its monitor tells: below no threshold (R381 channel 2, R435). -/
def Dev.vpchIn (d : Dev) : Bool := Table.at d.pwr.railLow 0 2 == 0

/-- What the block itself puts on a ball: the channel outputs are not defined while VPCH is out of its range (R374, R435, R446);
with RESET_N low TRIG_OUT and CANARY are low and the rest is released (R440). The block never asserts TBUS. -/
def Dev.ownLevel (d : Dev) (b : Ball) : PinLevel :=
  match b with
  | .drv ch => if d.vpchIn then levelOf (Table.at d.chans {} ch).drv else .undefined
  | .den ch => if d.vpchIn then levelOf (Table.at d.chans {} ch).den else .undefined
  | .laneTx l => if d.laneSends l = .idle then .released else .driven
  | .trigOut l => levelOf (!d.pwr.resetLow && !(Table.at d.trigOut [] l).isEmpty)
  | .canary => levelOf (!d.pwr.resetLow && d.pwr.canary)
  | .tdo | .spi _ | .pmb _ => if d.pwr.resetLow then .released else .driven
  | _ => .released

/-- The level boundary scan holds on a ball: its cell's, once the cells are preloaded. -/
def Dev.cellLevel (d : Dev) (b : Ball) : PinLevel :=
  match d.jtag.cells[Config.cellOf b.no]? with
  | some x => levelOf x
  | none => .undefined

/-- What a ball carries (R424): EXTEST and CLAMP drive the outputs from their cells, HIGHZ releases them, and EXTEST_PULSE and
EXTEST_TRAIN toggle those with an AC cell; decoded only while RESET_N is low. -/
def Dev.pinLevel (d : Dev) (b : Ball) : PinLevel :=
  if !d.pwr.resetLow || b.input || b == .tdo then d.ownLevel b
  else match d.jtag.instr with
    | 3 | 6 => d.cellLevel b
    | 4 | 5 => if b.ac then .driven else d.cellLevel b
    | 7 => .released
    | _ => d.ownLevel b

/-- What a boundary cell captures from its ball (R424): an input's level where the state holds it; TBUS is low while asserted. -/
def Dev.pinReads (d : Dev) (b : Ball) : PinLevel :=
  match b with
  | .trigIn l => levelOf (bit d.trigIn l)
  | .tbus l => levelOf (!bit d.tbus l)
  | .pwrWarnN => levelOf (!d.pwr.pwrLow)
  | .resetN => levelOf (!d.pwr.resetLow)
  | .cmpH _ | .cmpL _ => .undefined
  | b => d.pinLevel b

/-- The TAP decodes an instruction (R424): BYPASS, IDCODE and SAMPLE/PRELOAD always, the other five while RESET_N is low, and the
private ones, which no command here sends, only while the running image carries UNLOCK. -/
def Dev.tapDecodes (d : Dev) (i : Nat) : Bool := decide (i < 3) || (if i < 8 then d.pwr.resetLow else d.unlock)

/-- An instruction reaches the TAP: 0 BYPASS, 1 IDCODE, 2 SAMPLE/PRELOAD, 3 EXTEST, 4 EXTEST_PULSE, 5 EXTEST_TRAIN,
6 CLAMP, 7 HIGHZ. One that is not decoded acts as BYPASS. SAMPLE/PRELOAD and the EXTESTs capture the balls. -/
def jtagInstr (d : Dev) (i : Nat) (cells : List Bool) : Dev :=
  let i := if d.tapDecodes i then i else 0
  let j := d.jtag
  { d with jtag :=
    { instr := i, cells := if i = 2 then cells else j.cells,
      dr := if i = 0 ∨ i = 6 ∨ i = 7 then 0 else if i = 1 then 0x22564B53 else j.dr,
      captured := if 2 ≤ i ∧ i ≤ 5 then Ball.all.map (fun b => (b, d.pinReads b)) else j.captured } }

end Sys2Proof.Machine
end

