-- ==== Sys2Proof/Machine/Boot.lean ====
section
/-! DEFINITION. Reset, boot and firmware images (R375, R391 to R396), the chip's commands (R282), clearing faults and the
Canary (R404, R407, R411, R414, R415), and boundary scan (R424). -/

namespace Sys2Proof.Machine

/-! Reset (R375). -/

/-- The device after a reset: everything at its default but what the pins and the card hold, and the model's own counter
and trace; the chip is in BOOT. `keep` are objects that survive. -/
def Dev.afterReset (f : Fuses) (d : Dev) (keep : Table Nat) : Dev :=
  let p : Power := { railLow := d.pwr.railLow, pwrLow := d.pwr.pwrLow, refLost := d.pwr.refLost, alert := d.pwr.alert, bootMode := d.pwr.bootMode }
  let e : Dev := { objs := keep, fresh := d.fresh, egress := d.egress, wire := d.wire, trigIn := d.trigIn, tbus := d.tbus, pwr := p, jtag := d.jtag }
  e.setAll [(K.CHIP_STATE, 0), (K.FW_VERSION, 0), (K.IMAGE_ROLLBACK, 0), (K.ROLLBACK_FUSE, f.rollback), (K.KEY_REVOKED, f.revoked)]

/-- The memories after a reset: the card's flash keeps its content. -/
def memReset (m : Memory) : Memory := m.filter (fun c => c.1 / 2 ^ 64 == 8)

/-- RESET_N_ASSERT. -/
def resetAssert (f : Fuses) (m : Memory) (d : Dev) : Memory × Dev :=
  let d := d.afterReset f []
  (memReset m, d.setPwr { d.pwr with resetLow := true })

/-- SOURCE of a boot path: PUSH but for the two flash paths (R391, R396). -/
def bootSource (mode : Nat) : Nat := if mode = 0 ∨ mode = 2 then 0 else 1

/-- BOOT_STATUS at the begin of a boot path; a reserved BOOT_MODE is handled as PUSH with LOCK_CAUSE FORMAT recorded. -/
def Dev.bootPath (d : Dev) (mode : Nat) : Dev :=
  (d.setPwr { d.pwr with bootMode := mode }).set K.BOOT_STATUS (fld 16 8 (if 3 ≤ mode then 2 else 0) + fld 8 8 (bootSource mode) + mode)

/-- RESET_N_RELEASE: BOOT_MODE is sampled; a JTAG instruction decoded only in reset acts as BYPASS from now on (R424). -/
def resetRelease (_f : Fuses) (m : Memory) (d : Dev) (mode : Nat) : Memory × Dev :=
  if d.pwr.resetLow then
    let d : Dev := if 3 ≤ d.jtag.instr then { d with jtag := { d.jtag with instr := 0, dr := 0 } } else d
    (m, (d.setPwr { d.pwr with resetLow := false }).bootPath (mode % 8))
  else (m, d)

/-- What REBOOT keeps: NODE_ID, the upstream port and its lanes, the fault log ring (whose first overwrite counts anew, R413). -/
def Dev.rebooted (f : Fuses) (d : Dev) : Dev :=
  let kept (k : Nat) : Bool := k == K.NODE_ID || k / 256 == 0x201 || (decide (0x220 ≤ k / 256) && decide (k / 256 ≤ 0x223))
  let e := d.afterReset f (d.objs.filter (fun p => kept p.1))
  let e : Dev := { e with ports := d.ports.filter (fun p => p.1 == 0), lanes := d.lanes.filter (fun p => decide (p.1 < 4)),
                          eyes := d.eyes.filter (fun p => decide (p.1 < 4)), ring := d.ring }
  (e.set K.RESET_CAUSE 2).bootPath d.pwr.bootMode

/-- BOOT_CMD REBOOT: answered, then everything but the eFuses and what `rebooted` keeps is reset. -/
def reboot (f : Fuses) (m : Memory) (d : Dev) (r : Req) : Memory × Dev :=
  match d.preWrite 0x700 1 1 1 with
  | some a => (m, d.refuse r 2 0x700 1 a)
  | none =>
    let st := d.get K.CHIP_STATE
    if st = 2 ∨ st = 1 ∨ st = 6 ∨ st = 7 then (memReset m, (d.respond r 2 0x700 1 []).rebooted f)
    else (m, d.refuse r 2 0x700 1 .state)

/-- BOOT_CMD COMMIT_ROLLBACK (R395). -/
def commitRollback (f : Fuses) (d : Dev) (r : Req) : Fuses × Dev :=
  match d.preWrite 0x700 1 1 2 with
  | some a => (f, d.refuse r 2 0x700 1 a)
  | none =>
    if d.get K.CHIP_STATE ≠ 2 then (f, d.refuse r 2 0x700 1 .state)
    else
      let v := d.get K.IMAGE_ROLLBACK
      if f.rollback < v then ({ f with rollback := v }, ((d.set K.ROLLBACK_FUSE v).event 304 2 0).respond r 2 0x700 1 [])
      else (f, d.respond r 2 0x700 1 [])

/-! Images (R393, R394). -/

/-- The 64 header bytes of an image at an address. -/
def imgHeader (m : Memory) (fresh base : Nat) : Nat := Memory.rdVal m fresh base 64

def imgBodyLen (h : Nat) : Nat := bits h 416 32
def imgBodyOff (h : Nat) : Nat := bits h 384 32
def imgKeys (h : Nat) : Nat := bits h 80 16

/-- Whole length of an image: header to signature. -/
def imgLen (h : Nat) : Nat := imgBodyOff h + imgBodyLen h + 96

/-- The wrapped body key of this unit in the key table. -/
def imgKey (m : Memory) (fresh base h : Nat) : Option (List Byte) :=
  ((List.range (imgKeys h)).find? (fun i => Memory.rdVal m fresh (base + 256 + 48 * i) 8 == Config.serial.toNat)).map
    (fun i => Memory.rdN m fresh (base + 256 + 48 * i + 8) 40)

/-- The decrypted body. -/
def imgBody (m : Memory) (fresh base h : Nat) : Option (List Byte) :=
  ((imgKey m fresh base h).bind Config.keyUnwrap).bind (fun k =>
    Config.gcmDecrypt k (bits h 288 96) (bits h 160 128) (Memory.rdN m fresh (base + imgBodyOff h) (imgBodyLen h)))

/-- The section table of a body: (KIND, OFFSET, LENGTH) up to the entry of KIND 0. -/
def imgSections : Nat → List Byte → List (Nat × Nat × Nat)
  | 0, _ => []
  | n + 1, l =>
    let e := ofBytes (l.take 16)
    if e % 256 = 0 ∨ l.length < 16 then [] else (e % 256, bits e 64 32, bits e 96 32) :: imgSections n (l.drop 16)

/-- Every kind once, nothing else, within the body, the stores with their lengths. -/
def imgSectionsOk (body : List Byte) (l : List (Nat × Nat × Nat)) : Bool :=
  l.length == 7 && (List.range 7).all (fun k => (l.filter (fun s => s.1 == k + 1)).length == 1) &&
  l.all (fun s => decide (s.2.1 + s.2.2 ≤ body.length) && (s.1 != 3 || s.2.2 == 65536) && (s.1 != 4 || s.2.2 == 49152))

/-- The checks of R394 on an image of `len` bytes, in order: the LOCK_CAUSE of the first that fails, 0 for none. -/
def imgCheck (f : Fuses) (m : Memory) (fresh base len : Nat) : Nat :=
  let h := imgHeader m fresh base
  let flags := bits h 48 8
  let bind := bits h 96 64
  if h % 2 ^ 32 ≠ 0x57464C54 ∨ bits h 480 32 ≠ 0x2564 ∨ len < 64 then 1
  else if bits h 32 8 ≠ 1 ∨ 2 ≤ flags ∨ (flags = 1 ∧ bind = 0) ∨ bits h 472 8 = 0 ∨ 2 ^ 26 < imgLen h ∨ len < imgLen h ∨
      imgBodyOff h % 64 ≠ 0 ∨ imgBodyOff h < 256 + 48 * imgKeys h ∨ imgKeys h = 0 ∨ 4096 < imgKeys h ∨ 64 < bits h 72 8 then 2
  else if (bits h 56 8 ≠ 0x21 ∧ bits h 56 8 ≠ 0xFF) ∨ (bind ≠ 0 ∧ bind ≠ Config.serial.toNat) then 3
  else
    let slot := bits h 64 8
    let pub := Memory.rdN m fresh (base + 64) 97
    let signedBytes := Memory.rdN m fresh base (imgBodyOff h + imgBodyLen h)
    let sig := Memory.rdN m fresh (base + imgBodyOff h + imgBodyLen h) 96
    if 4 ≤ slot ∨ bit f.revoked slot ∨ Config.sha384 pub ≠ Config.rootKeyHash slot then 4
    else if !Config.ecdsaVerifies pub signedBytes sig then 5
    else if bits h 72 8 < f.rollback then 6
    else if (imgKey m fresh base h).isNone then 7
    else match imgBody m fresh base h with
      | none => 8
      | some b => if imgSectionsOk b (imgSections 8 b) then 0 else 9

/-- What a boot leaves as it stands (R6, R309, R321): the objects that show the live links and NODE_ID, the kind of reset,
what fuses and card give, and after REBOOT the upstream port (R375). PRBS counts and eye results are no link state. -/
def keptAtBoot (rebooted : Bool) (key : Nat) : Bool :=
  (rebooted && key / 256 == 0x201) ||
  (decide (0x200 ≤ key / 256) && decide (key / 256 ≤ 0x22F) && (rowOf (key / 256) (key % 256)).any (fun r => r.acc == .ro) &&
    !(decide (0x220 ≤ key / 256) && decide (0x10 ≤ key % 256))) ||
  [K.RESET_CAUSE, K.ROLLBACK_FUSE, K.KEY_REVOKED, K.FLASH_JEDEC_ID].contains key

/-- A checked image is loaded: every object is at its default, FAULT_LOG empty unless the reset was a REBOOT (R6, R282, R407), the event BOOTED behind it; the Winder's stores and
the Collier firmware, which every cluster that is on takes (R212), FW_VERSION, IMAGE_ROLLBACK and BOOT_TIME (measured, so free) are of this image, and the chip is STOPPED
(R355, R397). A reserved BOOT_MODE's LOCK_CAUSE stays recorded (R391). -/
def imgLoad (m : Memory) (d : Dev) (base source : Nat) : Memory × Dev :=
  let h := imgHeader m d.fresh base
  let b := (imgBody m d.fresh base h).getD []
  let secs := imgSections 8 b
  let content (k : Nat) : List Byte := match secs.find? (fun s => s.1 == k) with
    | some s => (b.drop s.2.1).take s.2.2
    | none => []
  let m := Memory.wrN (Memory.wrN m (microAt 0) (content 3)) (microAt 65536) (content 4)
  let mode := d.get K.BOOT_STATUS % 8
  let d := d.event 304 1 0
  let again := d.get K.RESET_CAUSE == 2
  let d : Dev := { d with objs := d.objs.filter (fun p => keptAtBoot again p.1), fw := some (content 2), sigs := some (content 6), unlock := bit h 48, eyes := [],
                          ring := if again then d.ring else [], wrapped := again && d.wrapped }
  let m := (List.range 4).foldl (fun m k => if d.get (K.CLUSTER_STATE k) = 0 then m else loadFirmware m d k) m
  let d := d.setAll [(K.FW_VERSION, bits h 448 32), (K.IMAGE_ROLLBACK, bits h 72 8), (K.CHIP_STATE, 2),
    (K.BOOT_STATUS, fld 16 8 (if 3 ≤ mode then 2 else 0) + fld 8 8 source + mode)]
  (m, d.freeSet [(K.BOOT_TIME, 32)])

/-- The boot fails: LOCKED with its LOCK_CAUSE. -/
def Dev.bootLocked (d : Dev) (cause source : Nat) : Dev :=
  (d.set K.BOOT_STATUS (fld 16 8 cause + fld 8 8 source + d.get K.BOOT_STATUS % 8)).setChip 1

/-- FLASH_BOOT: the image at offset 0 of the boot flash. -/
def flashBoot (f : Fuses) (m : Memory) (d : Dev) : Memory × Dev :=
  if d.get K.CHIP_STATE = 0 ∧ (d.pwr.bootMode = 0 ∨ d.pwr.bootMode = 2) ∧ !d.pwr.resetLow then
    let cause := if d.get K.FLASH_JEDEC_ID = 0 then 1 else imgCheck f m d.fresh (flashAt 0) (2 ^ 26)
    if cause = 0 then imgLoad m d (flashAt 0) 0 else (m, d.bootLocked cause 0)
  else (m, d)

/-- The abort a failed image check gives a CLOSE (R392): VERSION for cause 2 of a header whose MAJOR is not 1, and for cause 6. -/
def imgAbort (header cause : Nat) : Abort :=
  if (cause = 2 ∧ bits header 32 8 ≠ 1) ∨ cause = 6 then .version else .range

/-- FLASH_PROGRAMMED: the flash reads back equal and the CLOSE is answered (R396). -/
def flashProgrammed (m : Memory) (d : Dev) : Memory × Dev :=
  match d.pwr.flash with
  | none => (m, d)
  | some (r, n) =>
    let m := Memory.wrN m (flashAt 0) (Memory.rdN m d.fresh (domAt (0x2701 * 256 + 1) 0) n)
    let d := ((d.setPwr { d.pwr with flash := none }).bump K.FLASH_WRITES).event 304 3 0
    (m, d.respond r 3 0x2701 1 [] 4)

/-! Chip commands (R280, R282). -/

/-- ACTIVE_SEQ and ACTIVE_FUNCS (R280). -/
def Dev.activeSeq (d : Dev) : Nat := maskOf d.liveSeqs
def Dev.activeFuncs (d : Dev) : Nat :=
  let f (b : Bool) (i : Nat) : Nat := if b then 2 ^ i else 0
  f (!d.liveSeqs.isEmpty) 1 + f ((List.range 16).any (fun h => d.get (K.HEW_STATE h) != 0)) 2 +
  f ((List.range 64).any (fun g => d.get (K.GRAPH_STATE g) == 2)) 3 + f ((List.range 16).any (fun c => d.get (K.TRAM_STATE c) == 2)) 4 +
  f ((List.range 16).any (fun u => d.get (K.ASY_STATE u) == 1 || d.get (K.ASY_STATE u) == 2)) 5 +
  f ((List.range 4).any (fun e => d.get (K.DWS_STATE e) == 2 || d.get (K.DWS_STATE e) == 3)) 6 +
  f ((List.range 4).any (fun k => d.get (K.TMU_STATE k) == 2)) 7 +
  f (d.get K.BIST_STATE == 2 || d.get K.BIST_STATE == 3) 8 + f d.wndBusy 9

/-- CHIP_CMD ENABLE, DISABLE, SERVICE_ENTER, SERVICE_EXIT. -/
def chipEnable (d : Dev) : Except Abort Dev := do
  need (d.get K.CHIP_STATE == 2) .state
  .ok (d.setChip 3)
def chipDisable (d : Dev) : Except Abort Dev := do
  need (d.get K.CHIP_STATE == 3 && d.activeFuncs == 0) .state
  .ok (d.setChip 2)
def serviceEnter (d : Dev) : Except Abort Dev := do
  need (d.get K.CHIP_STATE == 2) .state
  .ok (d.setChip 7)
def serviceExit (d : Dev) : Except Abort Dev := do
  need (d.get K.CHIP_STATE == 7 && d.get K.BIST_STATE != 2 && d.get K.BIST_STATE != 3) .state
  .ok (d.setChip 2)

/-! Faults, the Canary and notices. -/

/-- A write of FAULT_CLEAR (R404). A clear of a latched shed level brings SHED_LEVEL to 0; the domains shedding switched off
stay OFF (R384). -/
def faultClearCmd (m : Memory) (d : Dev) (r : Req) (v : Nat) (reads : List (Nat × Option Nat)) : Memory × Dev :=
  match d.preWrite 0x600 1 2 v with
  | some a => (m, d.refuse r 2 0x600 1 a)
  | none =>
    let old := d.get K.SHED_LEVEL
    let q := faultClear m d v reads
    let d := q.1.2
    match q.2 with
    | some a => (q.1.1, d.refuse r 2 0x600 1 a)
    | none =>
      let d := if 3 ≤ old ∧ d.get K.SHED_LEVEL = 0 then
          let d := d.event 296 2 (Config.infoShed 0 (d.get K.SHED_CAUSE)).toNat
          ((List.range 52).foldl (fun (d : Dev) dd => if d.get (K.PD_STATE dd) = 3 then d.set (K.PD_STATE dd) 0 else d) d).shedRelease
        else d
      (q.1.1, d.respond r 2 0x600 1 [])

/-- FLOG_CMD CLEAR. -/
def flogClear (d : Dev) : Except Abort Dev := .ok { d with ring := [], wrapped := false }

/-- CANARY_TOGGLE. -/
def canaryToggle (d : Dev) : Dev :=
  if d.get K.CANARY_STATE = 2 then d.setPwr { d.pwr with canary := !d.pwr.canary } else d

/-- WDT_EXPIRY: the class K fault in hardware; transactions accepted and not yet answered get no response (R415). -/
def wdtExpiry (m : Memory) (d : Dev) : Memory × Dev :=
  if d.pwr.hfDown then (m, d)
  else
    let p := d.pwr
    let d : Dev := { d with held := [] }
    let d := d.setPwr { p with hfDown := true, pdQueue := p.pdQueue.map (fun e => (e.1, none)), flash := none,
                               pmb := p.pmb.map (fun q => (q.1, q.2.map (fun o => { o with req := none }))) }
    raiseFault m d 37 0x0600 0 none [] []

/-- HF_RESTART_DONE (R415). The firmware is read again from Headframe memory, whose ECC outcome no command carries and which is
free: none, corrected (HF_MEM_CORR) or uncorrectable (HF_MEM_ECC) (R402; log entry 32). -/
def hfRestartDone (m : Memory) (d : Dev) : Memory × Dev :=
  if d.pwr.hfDown then
    let cause := d.get K.CANARY_STOP_CAUSE
    let d := (((d.setPwr { d.pwr with hfDown := false }).bump K.WDT_RESTARTS).canaryTry).event 316 3 cause
    let f := d.free 2
    if f.1 = 1 then raiseFault m f.2 39 0x0600 0 none [] []
    else if f.1 = 2 then raiseFault m f.2 38 0x0600 0 none [] []
    else (m, f.2)
  else (m, d)

/-- A NOTICE as a request: no INDEX or SUB, TAG 0, 32 bytes (R295). -/
def noticeWords (me : Nat) (n : Notice) : List Nat :=
  transWords (transHead 32 0 0 0 0 0 4 false me n.target) (toBytes 32 (noticeRaw n.event n.cause n.info n.seq n.stamp))

/-- NOTICE_SEND: the oldest notice whose port is ACTIVE with credit leaves, upstream to a TARGET below NODE_ID and
downstream to one above (R316, R411). -/
def noticeSend (d : Dev) : Dev :=
  let me := d.get K.NODE_ID
  let portFor (n : Notice) : Nat := if n.target < me then 0 else 1
  let ready (n : Notice) : Bool :=
    let p := portFor n
    n.target != me && d.canSend p 48 && d.mayGo p (noticeWords me n)
  if me = 0 then d
  else match d.notices.find? ready with
    | none => d
    | some n =>
      let p := portFor n
      let d : Dev := { d with notices := d.notices.erase n, egress := d.egress ++ [.notice p n.target n.event n.cause n.info n.seq n.stamp] }
      d.sendNow p 1 (noticeWords me n)

end Sys2Proof.Machine
end

