-- ==== Sys2Proof/Machine/Domains.lean ====
section
/-! DEFINITION. Domain transfers (R291 to R294): the contents that are read, and the loads of pattern images, Hewer
stores, graph images and firmware images with the checks made as bytes arrive and at CLOSE (R51, R135, R182, R207, R216,
R237, R392, R396, R407). -/

namespace Sys2Proof.Machine

/-- Total lengths an object allows (R293): fixed ones, and the limits of R51 and R396. -/
def domLenOk (key n : Nat) : Bool :=
  let i := key / 256
  let s := key % 256
  decide (1 ≤ n) && decide (n ≤ 2 ^ 32) &&
  (if 0x2100 ≤ i ∧ i ≤ 0x210F then n == (if s = 1 then 8192 else if s = 2 then 16384 else if s = 3 then 448 else 131072)
   else if 0x2300 ≤ i ∧ i ≤ 0x230F then n == 131072
   else if 0x2000 ≤ i ∧ i ≤ 0x203F then decide (80 ≤ n)
   else if 0x2700 ≤ i ∧ i ≤ 0x2701 then decide (n ≤ 67108864)
   else true)

/-- Checks 1 to 10 of R278 for a request of TYPE DICT_BLOCK; `opening`: it opens a transfer; `write`: of a write transfer. -/
def Dev.preBlock (d : Dev) (m : Memory) (idx sub : Nat) (opening write : Bool) : Option Abort :=
  if !d.indexThere idx then some .noObject
  else match d.rowAt m idx sub with
    | none => some .noSubindex
    | some row =>
      let st := d.get K.CHIP_STATE
      if st < 2 && (!reachableLocked idx || (write && decide (0x0600 ≤ idx) && decide (idx ≤ 0x06FF))) then some .locked
      else if opening && ((write && (row.acc == .ro || row.acc == .const)) || (!write && row.acc == .wo)) then some .access
      else if row.ty ≠ .domain then some .length
      else if write && st == 6 && !(decide (0x0600 ≤ idx) && decide (idx ≤ 0x07FF)) then some .fault
      else if opening && write && row.acc == .rws && !d.ownerStopped (idx * 256 + sub) then some .state
      else none

/-! Pattern images (R50 to R52). -/

/-- One entry of a section table: kind, PLACE, LENGTH, CRC, and where its data begins in the control part. -/
structure Section where
  kind : Nat
  place : Nat
  len : Nat
  crc : Nat
  off : Nat
  deriving DecidableEq, Repr

/-- The sections of a control part read at `base`. -/
def sectionsAt (m : Memory) (fresh base : Nat) : List Section :=
  let n := bits (Memory.rdVal m fresh base 64) 96 16
  ((List.range n).foldl (fun (p : List Section × Nat) i =>
    let e := Memory.rdVal m fresh (base + 64 + 16 * i) 16
    (p.1 ++ [⟨e % 256, bits e 32 32, bits e 64 32, bits e 96 32, p.2⟩], p.2 + bits e 64 32)) ([], 64 + 16 * n)).1

/-- The header's checks, in order (R51). -/
def patHeaderCheck (bytes : List Byte) (total : Nat) : Except Abort Unit := do
  let h := ofBytes bytes
  need (h % 2 ^ 32 == 0x49504C54 && bits h 480 32 == crc32 (bytes.take 60)) .range
  need ((bits h 32 8 == 1 || bits h 32 8 == 2) && bits h 48 16 == 0) .version
  need (bits h 64 32 == total) .length
  need (decide (1 ≤ bits h 96 16) && decide (bits h 96 16 ≤ 8) && decide (bits h 256 32 ≤ 4096)) .range

/-- The section table's checks, in order (R51). -/
def patTableCheck (d : Dev) (n h : Nat) (l : List Section) : Except Abort Unit := do
  let major := bits h 32 8
  let entries := bits h 224 32
  let dicts := bits h 256 32
  let count (k : Nat) : Nat := (l.filter (fun s => s.kind == k)).length
  let lenIs (k v : Nat) : Bool := l.all (fun s => s.kind != k || s.len == v)
  need (l.all (fun s => decide (1 ≤ s.kind) && decide (s.kind ≤ 4))) .range
  need (decide (count 1 ≤ 1) && decide (count 2 ≤ 1) && decide (count 4 ≤ 1)) .range
  need (count 1 == 1) .range
  need (count 4 == (if major = 1 then 0 else 1)) .range
  need (count 2 == (if dicts = 0 then 0 else 1)) .range
  need (lenIs 1 (32 * entries) && lenIs 4 (64 * entries) && lenIs 2 (64 * dicts)) .range
  need (64 + 16 * l.length + (l.map (·.len)).sum == bits h 64 32) .length
  let base := d.get (K.LODE_BASE n)
  let inLode := l.filter (fun s => s.kind == 2 || s.kind == 3)
  let last (s : Section) : Nat := s.place + ceilDiv s.len 16
  need (inLode.all (fun s => decide (last s ≤ d.get (K.LODE_LINES n)) && decide (base + last s ≤ 2097152))) .length
  need (decide (entries ≤ d.get (K.SEG_COUNT n))) .length
  let others := d.liveSeqs.filter (fun o => o != n)
  need (inLode.all (fun s => others.all (fun o =>
    let b := d.get (K.LODE_BASE o)
    decide (base + last s ≤ b) || decide (b + d.get (K.LODE_LINES o) ≤ base + s.place) || s.len == 0))) .state
  need (others.all (fun o =>
    let b := d.get (K.SEG_BASE o)
    let a := d.get (K.SEG_BASE n)
    decide (a + entries ≤ b) || decide (b + d.get (K.SEG_COUNT o) ≤ a) || entries == 0)) .state

/-- Bytes written into the Lode from byte offset `o` (R37); a bank that is off takes nothing, and a line written has check
bits that are right. -/
def lodePut (m : Memory) (d : Dev) (o : Nat) (l : List Byte) : Memory × Dev :=
  (l.zipIdx.foldl (fun m p => if d.domOn (26 + (o + p.2) / 4194304) then Memory.put m (lodeAt (o + p.2)) p.1 else m) m,
   { d with badLode := d.badLode.filter (fun b => !(decide (o / 16 ≤ b) && decide (16 * b < o + l.length))) })

/-- The bytes [lo, hi) of a control part that lie in a section go where the section goes (R51). -/
def patPlace (d0 : Dev) (n lo hi key : Nat) (p : Memory × Dev) (s : Section) : Memory × Dev :=
  let a := max lo s.off
  let b := min hi (s.off + s.len)
  if a < b then
    let bytes := Memory.rdN p.1 d0.fresh (stageAt key a) (b - a)
    if s.kind = 1 then (Memory.wrN p.1 (poolAt (32 * d0.get (K.SEG_BASE n) + (a - s.off))) bytes, p.2)
    else if s.kind = 4 then p
    else
      let pad := if b = s.off + s.len then List.replicate (roundUp s.len 16 - s.len) 0 else []
      lodePut p.1 p.2 (16 * (d0.get (K.LODE_BASE n) + s.place) + (a - s.off)) (bytes ++ pad)
  else p

/-- Where the bytes [lo, hi) of a section go belongs to no live sequencer but n: neither its pool entries (R57) nor its
partition (R51). -/
def patFree (d : Dev) (n lo hi : Nat) (s : Section) : Bool :=
  let a := max lo s.off
  let b := min hi (s.off + s.len)
  let apart (x y base len : Nat) : Bool := decide (y ≤ base) || decide (base + len ≤ x)
  decide (b ≤ a) || (d.liveSeqs.filter (fun o => o != n)).all (fun o =>
    if s.kind = 1 then
      (let e := d.get (K.SEG_BASE n)
       apart (e + (a - s.off) / 32) (e + ceilDiv (b - s.off) 32) (d.get (K.SEG_BASE o)) (d.get (K.SEG_COUNT o)))
    else if s.kind = 4 then true
    else
      let e := d.get (K.LODE_BASE n) + s.place
      apart (e + (a - s.off) / 16) (e + ceilDiv (b - s.off) 16) (d.get (K.LODE_BASE o)) (d.get (K.LODE_LINES o)))

/-- What arriving bytes [lo, hi) of a PATTERN_IMAGE do: the checks they complete, then the sections' data (R51). -/
def patArrive (m : Memory) (d : Dev) (n total lo hi : Nat) : Except Abort (Memory × Dev) := do
  let key := K.PATTERN_IMAGE n
  let base := stageAt key 0
  if lo < 64 ∧ 64 ≤ hi then patHeaderCheck (Memory.rdN m d.fresh base 64) total
  let h := Memory.rdVal m d.fresh base 64
  let te := 64 + 16 * bits h 96 16
  if hi < te ∨ hi < 64 then .ok (m, d)
  else
    let l := sectionsAt m d.fresh base
    if lo < te then patTableCheck d n h l
    need (l.all (patFree d n lo hi)) .state
    let d := if lo < te then
        ({ d with domLen := Table.del d.domLen key } : Dev).setAll
          [(K.IMAGE_STATUS n, bits h 32 8 * 65536 + bits h 40 8 * 256 + 1), (K.IMAGE_ID n, 0), (K.DICT_OFFSET n, 0), (K.DICT_COUNT n, 0)]
      else d
    .ok (l.foldl (patPlace d n lo hi key) (m, d))

/-- CLOSE of a PATTERN_IMAGE: the sections' CRCs, then VALID (R51). -/
def patClose (m : Memory) (d : Dev) (n total : Nat) : Memory × Dev × Option Abort :=
  let key := K.PATTERN_IMAGE n
  let base := stageAt key 0
  let h := Memory.rdVal m d.fresh base 64
  let l := sectionsAt m d.fresh base
  if l.all (fun s => s.crc == crc32 (Memory.rdN m d.fresh (base + s.off) s.len)) then
    let bytes := Memory.rdN m d.fresh base total
    let m := Memory.wrN (Memory.drop m (domAt key 0) (2 ^ 33)) (domAt key 0) bytes
    let place := match l.find? (fun s => s.kind == 2) with | some s => s.place | none => 0
    let d : Dev := { d with domLen := Table.put d.domLen key total }
    (m, (d.setAll [(K.IMAGE_STATUS n, bits h 32 8 * 65536 + bits h 40 8 * 256 + 2), (K.IMAGE_ID n, bits h 320 64),
      (K.DICT_OFFSET n, place), (K.DICT_COUNT n, bits h 256 32 % 65536)]), none)
  else (m, d.setF (K.IMAGE_STATUS n) 0 4 3, some .range)

/-! CLOSE of the other loads. -/

/-- What a transfer staged becomes the object's content. -/
def domCommit (m : Memory) (d : Dev) (key n : Nat) : Memory × Dev :=
  (Memory.wrN (Memory.drop m (domAt key 0) (2 ^ 33)) (domAt key 0) (Memory.rdN m d.fresh (stageAt key 0) n),
   { d with domLen := Table.put d.domLen key n })

/-- The graph's parameters, which belong to its image, return to their defaults (R238). -/
def Dev.paramsGone (d : Dev) (g : Nat) : Dev :=
  { d with objs := d.objs.filter (fun w => !(decide (0x400000 + 16384 * g ≤ w.1) && decide (w.1 < 0x400000 + 16384 * (g + 1)))) }

/-- CLOSE of a GRAPH_IMAGE (R216): PARAM_COUNT stands beside the image's length. -/
def graphClose (m : Memory) (d : Dev) (g n : Nat) : Memory × Dev × Option Abort :=
  let key := K.GRAPH_IMAGE g
  let p := domCommit m d key n
  match graphImageCheck p.1 p.2 g n with
  | .ok _ =>
    let f := graphField p.1 p.2 g
    let d : Dev := { p.2 with domLen := Table.put p.2.domLen (0x2500FF + 256 * g) (f 352 32) }
    (p.1, (d.paramsGone g).setAll [(K.GRAPH_STATUS g, f 32 8 * 65536 + f 40 8 * 256 + 2), (K.GRAPH_ID g, f 192 64)], none)
  | .error a =>
    (Memory.drop p.1 (domAt key 0) (2 ^ 33),
     ({ d with domLen := Table.del (Table.del d.domLen key) (0x2500FF + 256 * g) } : Dev).setAll [(K.GRAPH_STATUS g, 3), (K.GRAPH_ID g, 0)], some a)

/-- CLOSE of FW_IMAGE in BOOT or LOCKED (R392, R394). -/
def fwClose (f : Fuses) (m : Memory) (d : Dev) (key n : Nat) : Memory × Dev × Option Abort :=
  let cause := imgCheck f m d.fresh (stageAt key 0) n
  if cause = 0 then (let p := imgLoad m d (stageAt key 0) 1; (p.1, p.2, none))
  else (m, d.bootLocked cause 1, some (imgAbort (imgHeader m d.fresh (stageAt key 0)) cause))

/-- CLOSE of a write transfer that carried all its bytes: what it does, its refusal, and whether the answer waits for the
flash (R396). -/
def writeClose (f : Fuses) (m : Memory) (d : Dev) (r : Req) (x : Xfer) : Memory × Dev × Option Abort × Bool :=
  let i := x.key / 256
  if 0x2000 ≤ i ∧ i ≤ 0x203F then (let p := patClose m d (i - 0x2000) x.total; (p.1, p.2.1, p.2.2, false))
  else if 0x2500 ≤ i ∧ i ≤ 0x253F then (let p := graphClose m d (i - 0x2500) x.total; (p.1, p.2.1, p.2.2, false))
  else if i = 0x2700 then (let p := fwClose f m d x.key x.total; (p.1, p.2.1, p.2.2, false))
  else if i = 0x2701 then
    (let cause := imgCheck f m d.fresh (stageAt x.key 0) x.total
     if cause = 0 then
       (let p := domCommit m d x.key x.total
        (p.1, p.2.setPwr { p.2.pwr with flash := some (r, x.total) }, none, true))
     else (m, d, some (imgAbort (imgHeader m d.fresh (stageAt x.key 0)) cause), false))
  else (let p := domCommit m d x.key x.total; (p.1, p.2, none, false))

/-! Contents that are read. -/

/-- Bytes of the capture space of unit u (R192): those evicted lie in the spill region. -/
def capAt (d : Dev) (u o : Nat) : Nat :=
  if o < (d.asy u).evicted ∨ (d.asy u).skip.any (fun p => decide (p.1 ≤ o) && decide (o < p.1 + p.2)) then
    ddrAt (d.get (K.SPILL_BASE u) + o)
  else assayAt u o

/-- The whole items a stream's queue holds, oldest first, as bytes (R237). -/
def streamItems : Nat → List (Nat × Bool) → List (List Byte)
  | 0, _ => []
  | k + 1, l => match firstPacket l with
    | none => []
    | some p => (p.flatMap (fun w => toBytes 8 w.1)) :: streamItems k (l.drop p.length)

/-- The items that fit in a length, whole and in order. -/
def itemsWithin : Nat → List (List Byte) → List (List Byte)
  | _, [] => []
  | n, x :: l => if x.length ≤ n then x :: itemsWithin (n - x.length) l else []

/-- What an OPEN_READ of `want` bytes is granted and will carry (R173, R182, R207, R237, R293, R407); the refusal where
the read is shorter than the oldest item. The bytes are taken as they stand at the opening, since those within the
granted length are final. -/
def readContent (m : Memory) (d : Dev) (key want : Nat) : Except Abort (List Byte) :=
  let i := key / 256
  let s := key % 256
  let whole (n : Nat) : List Byte := Memory.rdN m d.fresh (domAt key 0) (min want n)
  if i = 0x0603 then .ok ((d.ring.flatMap (toBytes 32)).take want)
  else if 0x2100 ≤ i ∧ i ≤ 0x210F then .ok (whole (if s = 1 then 8192 else if s = 2 then 16384 else if s = 3 then 448 else 131072))
  else if 0x2300 ≤ i ∧ i ≤ 0x230F then
    (if s = 1 then .ok ((List.range (min want (d.get (K.CAP_WR (i - 0x2300))))).map (fun (o : Nat) => Memory.rd m d.fresh (capAt d (i - 0x2300) o)))
     else .ok (whole 131072))
  else if 0x2200 ≤ i ∧ i ≤ 0x220F then
    (let x := i - 0x2200
     let size := 1024 * d.get (K.SUMP_KIB x)
     let w := d.get (K.SUMP_WR x)
     let base := d.get (K.SUMP_BASE x)
     if d.get (K.SUMP_MODE x) = 0 then .ok (Memory.rdN m d.fresh (ddrAt base) (min want (min w size)))
     else
       let rd := d.get (K.SUMP_RD x)
       .ok ((List.range (min want (w - rd))).map (fun (o : Nat) => Memory.rd m d.fresh (ddrAt (base + (rd + o) % size)))))
  else if 0x2600 ≤ i ∧ i ≤ 0x261F then
    (if d.get (K.STREAM_STATE (i - 0x2600)) ≠ 1 then .ok []
     else
       let items := streamItems 1048576 (d.tarn (d.get (K.STREAM_QUEUE (i - 0x2600)))).held
       let l := itemsWithin want items
       if l.isEmpty ∧ !items.isEmpty then .error .length else .ok l.flatten)
  else .ok (whole (Table.at d.domLen 0 key))

/-- CLOSE of a read: the items a stream handed out leave its queue (R293). -/
def Dev.readClosed (d : Dev) (m : Memory) (x : Xfer) : Dev :=
  let i := x.key / 256
  if 0x2600 ≤ i ∧ i ≤ 0x261F ∧ d.get (K.STREAM_STATE (i - 0x2600)) = 1 then
    let q := d.get (K.STREAM_QUEUE (i - 0x2600))
    let words := (Memory.rdN m d.fresh (stageAt x.key 0) x.total).length / 8
    let items := (((d.tarn q).held.take words).filter (·.2)).length
    (d.qTake q words).bumpBy (K.STREAM_ITEMS (i - 0x2600)) items
  else d

/-! The phases (R292, R293). -/

/-- A request of TYPE DICT_BLOCK: discarded if it was broadcast (R290); else served with its memory. -/
def block (m : Memory) (d : Dev) (r : Req) (act : Memory × Dev) : Memory × Dev :=
  if r.bcast then (m, d.bump K.BCAST_DISCARDED) else act

/-- A refusal of a phase. -/
def blockRefuse (m : Memory) (d : Dev) (r : Req) (idx sub phase : Nat) (a : Abort) : Memory × Dev := (m, d.refuse r 3 idx sub a phase)

/-- An object's own states for a load to open (R396). -/
def Dev.loadState (d : Dev) (key : Nat) : Bool :=
  let st := d.get K.CHIP_STATE
  if key / 256 = 0x2700 then decide (st < 2) else if key / 256 = 0x2701 then st == 1 || st == 2 else true

/-- The object and the node have room for one more transfer (R293). -/
def Dev.xferRoom (d : Dev) (key : Nat) : Bool :=
  (d.xferOf key).isNone && decide (d.xfers.length < 8) && !(key / 256 == 0x2701 && d.pwr.flash.isSome)

/-- A transfer opens. -/
def Dev.xferOpened (d : Dev) (x : Xfer) : Dev :=
  let l := d.xfers ++ [x]
  ({ d with xfers := l, endedBy := Table.del d.endedBy x.key } : Dev).set K.OPEN_BLOCKS l.length

/-- OPEN_WRITE. -/
def openWrite (m : Memory) (d : Dev) (r : Req) (idx sub total : Nat) : Memory × Dev :=
  let key := idx * 256 + sub
  match d.preBlock m idx sub true true with
  | some a => blockRefuse m d r idx sub 1 a
  | none =>
    if !d.loadState key then blockRefuse m d r idx sub 1 .state
    else if !d.xferRoom key then blockRefuse m d r idx sub 1 .busy
    else if !domLenOk key total then blockRefuse m d r idx sub 1 .length
    else
      let d := d.xferOpened ⟨key, true, total, 0⟩
      let d := if 0x2500 ≤ idx ∧ idx ≤ 0x253F then d.set (K.GRAPH_STATUS (idx - 0x2500)) 1 else d
      (Memory.drop m (stageAt key 0) (2 ^ 33), d.respond r 3 idx sub [] 1)

/-- OPEN_READ: what it will carry is fixed now. -/
def openRead (m : Memory) (d : Dev) (r : Req) (idx sub want : Nat) : Memory × Dev :=
  let key := idx * 256 + sub
  match d.preBlock m idx sub true false with
  | some a => blockRefuse m d r idx sub 2 a
  | none =>
    if !d.xferRoom key then blockRefuse m d r idx sub 2 .busy
    else if want = 0 ∨ 2 ^ 32 < want then blockRefuse m d r idx sub 2 .length
    else match readContent m d key want with
      | .error a => blockRefuse m d r idx sub 2 a
      | .ok l =>
        (Memory.wrN (Memory.drop m (stageAt key 0) (2 ^ 33)) (stageAt key 0) l,
         ({ d.xferOpened ⟨key, false, l.length, 0⟩ with fresh := d.fresh + 1 } : Dev).respond r 3 idx sub (toBytes 8 l.length) 2)

/-- A request for a transfer that is not open: TIMEOUT once after a timeout, FAULT after the chip entered FAULT, else
STATE (R293). -/
def blockNone (m : Memory) (d : Dev) (r : Req) (idx sub phase : Nat) : Memory × Dev :=
  let key := idx * 256 + sub
  match Table.find d.endedBy key with
  | some 0x0E => blockRefuse m { d with endedBy := Table.del d.endedBy key } r idx sub phase .timeout
  | some 0x0B => blockRefuse m d r idx sub phase .fault
  | _ => blockRefuse m d r idx sub phase .state

/-- A refusal that cancels the transfer. -/
def blockCancel (m : Memory) (d : Dev) (r : Req) (idx sub phase : Nat) (x : Xfer) (a : Abort) : Memory × Dev :=
  let p := xferCancel m d x
  (Memory.drop p.1 (stageAt x.key 0) (2 ^ 33), p.2.refuse r 3 idx sub a phase)

/-- The bytes carried so far. -/
def Dev.xferMoved (d : Dev) (x : Xfer) (n : Nat) : Dev :=
  { d with xfers := d.xfers.map (fun y => if y.key = x.key then { y with done := y.done + n } else y) }

/-- DATA: a segment at an offset; of a write with its bytes, of a read with its length. -/
def blockData (m : Memory) (d : Dev) (r : Req) (idx sub offset len : Nat) (payload : List Byte) : Memory × Dev :=
  let key := idx * 256 + sub
  match d.preBlock m idx sub false false with
  | some a => blockRefuse m d r idx sub 3 a
  | none =>
    match d.xferOf key with
    | none => blockNone m d r idx sub 3
    | some x =>
      let n := if x.write then payload.length else len
      if offset ≠ x.done then blockCancel m d r idx sub 3 x .range
      else if n = 0 ∨ 8192 < n ∨ x.total < offset + n then blockCancel m d r idx sub 3 x .length
      else if x.write then
        (let m1 := Memory.wrN m (stageAt key offset) payload
         let go := if 0x2000 ≤ idx ∧ idx ≤ 0x203F then patArrive m1 d (idx - 0x2000) x.total offset (offset + n) else .ok (m1, d)
         match go with
         | .error a => blockCancel m1 d r idx sub 3 x a
         | .ok p => (p.1, (p.2.xferMoved x n).respond r 3 idx sub [] 3))
      else (m, (d.xferMoved x n).respond r 3 idx sub (Memory.rdN m d.fresh (stageAt key offset) n) 3)

/-- CLOSE. -/
def blockClose (f : Fuses) (m : Memory) (d : Dev) (r : Req) (idx sub : Nat) : Memory × Dev :=
  let key := idx * 256 + sub
  match d.preBlock m idx sub false false with
  | some a => blockRefuse m d r idx sub 4 a
  | none =>
    match d.xferOf key with
    | none => blockNone m d r idx sub 4
    | some x =>
      if x.write then
        if x.done < x.total then blockCancel m d r idx sub 4 x .length
        else
          let p := writeClose f m (d.xferDone key) r x
          let m := Memory.drop p.1 (stageAt key 0) (2 ^ 33)
          match p.2.2.1 with
          | some a => (m, p.2.1.refuse r 3 idx sub a 4)
          | none => (m, if p.2.2.2 then p.2.1 else p.2.1.respond r 3 idx sub [] 4)
      else (Memory.drop m (stageAt key 0) (2 ^ 33), ((d.xferDone key).readClosed m x).respond r 3 idx sub [] 4)

/-- CANCEL. -/
def blockCancelled (m : Memory) (d : Dev) (r : Req) (idx sub : Nat) : Memory × Dev :=
  let key := idx * 256 + sub
  match d.preBlock m idx sub false false with
  | some a => blockRefuse m d r idx sub 5 a
  | none =>
    match d.xferOf key with
    | none => blockNone m d r idx sub 5
    | some x =>
      let p := xferCancel m d x
      (Memory.drop p.1 (stageAt key 0) (2 ^ 33), p.2.respond r 3 idx sub [] 5)

/-- BLOCK_TIMEOUT: no request for 1 s. -/
def blockTimeout (m : Memory) (d : Dev) (idx sub : Nat) : Memory × Dev :=
  let key := idx * 256 + sub
  match d.xferOf key with
  | none => (m, d)
  | some x =>
    let p := xferCancel m d x
    (Memory.drop p.1 (stageAt key 0) (2 ^ 33),
     ({ p.2 with endedBy := Table.put p.2.endedBy key 0x0E } : Dev).bump K.BLOCK_TIMEOUTS)

/-! BULK (R322, R323). -/

/-- Largest segment on a port: 65,536 bytes with BULK_LARGE. -/
def Dev.bulkMax (d : Dev) (p : Nat) : Nat := if bit (d.get (portKey p 0x08)) 0 then 65536 else 8192

/-- The checks of a BULK request of n bytes at an address, in order. -/
def bulkCheck (m : Memory) (d : Dev) (r : Req) (a n : Nat) (write posted : Bool) : Except Abort Unit := do
  need (decide (2 ≤ d.get K.CHIP_STATE)) .locked
  need (!(posted && d.portMajor r.port == 1)) .version
  need (decide (1 ≤ n) && decide (n ≤ d.bulkMax r.port)) .length
  need (!(write && d.get K.CHIP_STATE == 6)) .fault
  need (d.get K.DDR_STATE == 3) .state
  need (decide (a + n ≤ d.get K.CAPACITY)) .range
  need (!write || d.liveSeqs.all (fun s =>
    let b := d.get (K.STREAM_BASE s)
    imageField m d s 128 64 == 0 || decide (a + n ≤ b) || decide (b + imageField m d s 128 64 ≤ a))) .state

/-- BULK_WRITE. -/
def bulkWrite (m : Memory) (d : Dev) (r : Req) (a : Nat) (posted : Bool) (l : List Byte) : Memory × Dev :=
  if r.bcast then (m, d.bump K.BCAST_DISCARDED)
  else match bulkCheck m d r a l.length true posted with
    | .ok _ =>
      let p := ddrWrite m d 3 a l
      (p.1, if posted then p.2 else p.2.respond r 6 0 0 [])
    | .error e =>
      if posted then
        (m, ((d.refuse { r with bcast := true } 6 0 0 e).bump (portKey r.port 0x13)).event (236 + laneBase r.port) 7 0)
      else (m, d.refuse r 6 0 0 e)

/-- BULK_READ. -/
def bulkRead (m : Memory) (d : Dev) (r : Req) (a n : Nat) : Memory × Dev :=
  if r.bcast then (m, d.bump K.BCAST_DISCARDED)
  else match bulkCheck m d r a n false false with
    | .ok _ =>
      let p := ddrReadBy m d 3 a n (d.ddrBad a n)
      (p.1, ({ p.2 with fresh := p.2.fresh + 1 } : Dev).respond r 6 0 0 (Memory.rdN m p.2.fresh (ddrAt a) n))
    | .error e => (m, d.refuse r 6 0 0 e)

end Sys2Proof.Machine
end

