-- ==== Sys2Proof/Machine/Objects.lean ====
section
/-! DEFINITION. Reading and writing objects (R273 to R286): the objects whose value is computed when it is read, the
commands that a write of a command object gives, and the own rules of objects that may be written. -/

namespace Sys2Proof.Machine

/-! Commands whose checks and effect stand in two places. -/

/-- As `serveM`; a refusal by the command's own checks, or by the chip's state or shed level, leaves what `note` writes (R54,
R200: figures reported whether or not the arm succeeds). -/
def serveN (m : Memory) (d : Dev) (r : Req) (key len v : Nat) (note : Dev → Dev)
    (act : Memory → Dev → Except Abort (Memory × Dev)) : Memory × Dev :=
  match d.preWrite (key / 256) (key % 256) len v with
  | some a => (m, (if a = .fault ∨ a = .shed then note d else d).refuse r 2 (key / 256) (key % 256) a)
  | none =>
    match act m d with
    | .error a => (m, (note d).refuse r 2 (key / 256) (key % 256) a)
    | .ok p => (p.1, p.2.respond r 2 (key / 256) (key % 256) [])

/-- ASY_CMD ARM (R201, R421, R422). -/
def asyArmCmd (d : Dev) (u : Nat) : Except Abort Dev := do
  need (!(d.loading [K.MASK_TEMPLATE u])) .busy
  d.gate [47 + u / 8] (some u)
  asyArmChecks d u
  .ok (asyArmed ((d.set (K.REC_BYTES u) (asyR d u)).set (K.CAP_WR u) 0) u)

/-- REC_BYTES is reported whether or not an arm succeeds (R200). -/
def Dev.asyNote (d : Dev) (u : Nat) : Dev := d.set (K.REC_BYTES u) (asyR d u)

/-- ASY_CMD DISARM (R183, R197). DISARM takes an ABORTED unit to STOPPED, as R183 lists it, though R403 lets an instance
with a latched kind leave ABORTED only by a clear; the fault stays latched (log entry 51). -/
def asyDisarm (m : Memory) (d : Dev) (u : Nat) : Except Abort (Memory × Dev) := do
  need (d.get (K.ASY_STATE u) != 0) .state
  .ok (asyEnd m d u 0)

/-- DWS_CMD START and ABORT (R210, R211). -/
def dwsStartCmd (m : Memory) (d : Dev) (e : Nat) : Except Abort Dev := do
  d.gate [49] none
  dwsStartChecks m d e
  .ok (d.dwsStarted e)
def dwsAbortCmd (m : Memory) (d : Dev) (e : Nat) : Except Abort (Memory × Dev) := do
  need (d.dwsActive e) .state
  .ok (dwsAborted m d e 1)

/-- TMU_CMD START (R10, R128, R421, R422). -/
def tmuStartCmd (d : Dev) (k : Nat) : Except Abort Dev := do
  d.gate [49] none
  need (d.domOn 49) .state
  d.tmuStart k

/-- TSET_SEAL (R124). -/
def tsetSealCmd (d : Dev) (n mask : Nat) : Except Abort Dev := do
  d.sealCheck n mask
  .ok (d.seal n mask)

/-- SUMP_CMD BIND and UNBIND (R175). -/
def sumpBind (d : Dev) (x : Nat) : Except Abort Dev := do
  d.sumpBindChecks x
  .ok (d.sumpBound x)
def sumpUnbind (d : Dev) (x : Nat) : Except Abort Dev := do
  need (d.get (K.SUMP_STATE x) != 0) .state
  need (!(d.qLogged (d.get (K.SUMP_QUEUE x)))) .state
  .ok (d.set (K.SUMP_STATE x) 0)

/-! Reading. -/

/-- The live slices of a seam in ascending sequencer number (R9, R126): sequencer and lowest fill. -/
def Dev.seamSlices (d : Dev) (s : Nat) : List (Nat × Nat) :=
  (d.liveSeqs.filterMap (fun n => ((Table.at d.slices [] n).find? (fun x => x.seam == s)).map (fun x => (n, x.low)))).take 4

/-- Four bytes, one for each slice of a seam, from `f`; `none'` where there is no slice. -/
def perSlice (l : List (Nat × Nat)) (f : Nat × Nat → Nat) (none' : Nat) : Nat :=
  (List.range 4).foldl (fun a i => a + 256 ^ i * (match l[i]? with | some x => f x | none => none')) 0

/-- Quotas of the RUNNING graphs (R226). -/
def Dev.flowsReserved (d : Dev) : Nat := (d.runGraphs.map (fun g => d.get (K.FLOW_QUOTA g))).sum

/-- Bytes of the release store held for an ordered class (R227). -/
def Dev.classHeld (d : Dev) (k : Nat) : Nat :=
  ((d.ovm.graphs.filter (fun p => d.get (K.GRAPH_CLASS p.1) == k)).map (fun p => p.2.storeBytes)).sum

/-- Kinds latched on an instance whose cause persists (R405); a rail's STATUS_WORD is not read for it. -/
def Dev.presentOn (d : Dev) (idx : Nat) : Nat :=
  maskOf ((setBits 64 (d.latchedOn idx)).filter (fun fk => d.persists idx fk (!d.faultyRails.isEmpty)))

/-- An object whose figure the commands do not say, read as its own count and a free value: PARTNER_PPM of a lane that has
locked (R331), and LODE_ECC_CORR of a sequencer that has read directory or descriptor lines since it was cleared (R39). -/
def Dev.measured (d : Dev) (key : Nat) : Bool :=
  let i := key / 256
  (decide (0x0220 ≤ i) && decide (i ≤ 0x022F) && key % 256 == 7 && (Table.at d.lanes {} (i - 0x0220)).linked) ||
  (decide (0x1200 ≤ i) && decide (i ≤ 0x123F) && key % 256 == 0x28 && d.dirRead.contains (i - 0x1200))

/-- A lane's counters brought up to date before an object of the lane is read or cleared. -/
def Dev.upToDate (d : Dev) (key : Nat) : Dev :=
  if 0x0220 ≤ key / 256 ∧ key / 256 ≤ 0x022F then d.laneMeasure (key / 256 - 0x0220) else d

/-- The value of an object when it is read: computed where it shows other state, else as stored. -/
def Dev.value (d : Dev) (key : Nat) : Nat :=
  let i := key / 256
  let s := key % 256
  let f (base : Nat) : Nat := i - base
  if 0x1200 ≤ i ∧ i ≤ 0x123F ∧ s = 0x09 then maskOf ((d.sitesOf (f 0x1200)).filter (fun x => decide (x < 64)))
  else if 0x1200 ≤ i ∧ i ≤ 0x123F ∧ s = 0x0A then maskOf (((d.sitesOf (f 0x1200)).filter (fun x => decide (64 ≤ x))).map (· - 64))
  else if 0x1700 ≤ i ∧ i ≤ 0x170F ∧ s = 0x02 then perSlice (d.seamSlices (f 0x1700)) (fun x => 128 + x.1) 0
  else if 0x1700 ≤ i ∧ i ≤ 0x170F ∧ s = 0x03 then maskOf ((List.range 16).filter (fun (c : Nat) => d.inNoSite (16 * f 0x1700 + c)))
  else if 0x1700 ≤ i ∧ i ≤ 0x170F ∧ s = 0x04 then perSlice (d.seamSlices (f 0x1700)) (fun x => x.2) 0xFF
  else if i = 0x1800 ∧ 0x28 ≤ s ∧ s ≤ 0x2F then putBits (d.get key) 0 1 (b2n (d.get K.UNSURE_CAUSE != 0))
  else if 0x0B00 ≤ i ∧ i ≤ 0x0BFF ∧ s = 0x04 then d.qStatus (f 0x0B00)
  else if 0x0B00 ≤ i ∧ i ≤ 0x0BFF ∧ s = 0x05 then (d.tarn (f 0x0B00)).count
  else if 0x0B00 ≤ i ∧ i ≤ 0x0BFF ∧ s = 0x06 then (d.tarn (f 0x0B00)).packets
  else if 0x0B00 ≤ i ∧ i ≤ 0x0BFF ∧ s = 0x07 then d.qSpace (f 0x0B00)
  else if 0x0B00 ≤ i ∧ i ≤ 0x0BFF ∧ s = 0x0C then d.qBinding (f 0x0B00)
  else if (i = 0x0401 ∨ i = 0x0403 ∨ i = 0x0404) ∧ s = 0x03 then d.tbNow (f 0x0401)
  else if key = K.TB1_TICKS then d.tb1
  else if key = K.TB1_NOW then d.tbNow 1
  else if 0x0C01 ≤ i ∧ i ≤ 0x0C04 ∧ s = 0x04 then d.cmemUsed (f 0x0C01)
  else if 0x0C01 ≤ i ∧ i ≤ 0x0C04 ∧ 0x14 ≤ s ∧ s ≤ 0x17 then d.readyOn (4 * f 0x0C01 + (s - 0x14))
  else if 0x0C80 ≤ i ∧ i ≤ 0x0CBF ∧ s = 0x02 then (d.classUsed (f 0x0C80)).length
  else if 0x0C80 ≤ i ∧ i ≤ 0x0CBF ∧ s = 0x05 then d.classHeld (f 0x0C80)
  else if key = K.STORE_USED then d.storeUsed
  else if key = K.FLOWS_FREE then 16384 - d.flowsReserved
  else if 0x0C40 ≤ i ∧ i ≤ 0x0C7F ∧ s = 0x17 then (d.graph (f 0x0C40)).flows.length
  else if key = K.ACTIVE_SEQ then d.activeSeq
  else if key = K.ACTIVE_FUNCS then d.activeFuncs
  else if key = K.FAULT_LATCHED then d.latchedOn (d.get K.FAULT_SELECT)
  else if key = K.FAULT_PRESENT then d.presentOn (d.get K.FAULT_SELECT)
  else if key = K.LATCHED_INSTANCES then (d.latched.filter (fun p => p.2 != 0)).length
  else if 0x1500 ≤ i ∧ i ≤ 0x150F ∧ s = 0x03 then putBits (d.get key) 0 1 (b2n (decide (0 < asyEvictable d (f 0x1500))))
  else d.get key

/-- Length of an object's value in bytes; ORDER_CODE has 16 (R296). -/
def valueLen (key : Nat) : Nat :=
  match rowOf (key / 256) (key % 256) with
  | some r => r.ty.len.getD 16
  | none => 0

/-- A DICT_READ's effect on state: STORE_FULL may be raised again once STORE_PEAK has been read (R233). -/
def Dev.readEffect (d : Dev) (key : Nat) : Dev :=
  if key = K.STORE_PEAK then { d with ovm := { d.ovm with fullEv := false } } else d

/-- A DICT_READ of a graph-defined parameter (R238): a value kernels report is free at each read. -/
def paramRead (m : Memory) (d : Dev) (r : Req) (idx sub : Nat) : Dev :=
  let row := d.rowAt m idx sub
  match d.rowRead row idx, row with
  | some a, _ => d.refuse r 1 idx sub a
  | none, none => d.refuse r 1 idx sub .noSubindex
  | none, some row =>
    let n := row.ty.len.getD 0
    if row.acc = .ro then
      (let a := d.free 64
       let b := a.2.free 64
       b.2.respond r 1 idx sub (toBytes n (a.1 + 2 ^ 64 * b.1)))
    else d.respond r 1 idx sub (toBytes n ((Table.find d.objs (idx * 256 + sub)).getD (row.dflt 0 0)))

/-- DICT_READ (R276, R278, R289, R290). -/
def dictRead (m : Memory) (d : Dev) (r : Req) (idx sub : Nat) : Dev :=
  let key := idx * 256 + sub
  if r.bcast then d.bump K.BCAST_DISCARDED
  else if 0x4000 ≤ idx ∧ idx ≤ 0x4FFF ∧ d.indexThere idx then paramRead m d r idx sub
  else match d.preRead idx sub with
    | some a => d.refuse r 1 idx sub a
    | none =>
      if 0x0B00 ≤ idx ∧ idx ≤ 0x0BFF ∧ sub = 0x10 then
        match qPop d (idx - 0x0B00) with
        | .error a => d.refuse r 1 idx sub a
        | .ok p => p.1.respond r 1 idx sub (toBytes 8 p.2)
      else if d.measured key then (d.free 64).2.respond r 1 idx sub (toBytes (valueLen key) (d.get key + (d.free 64).1))
      else
        let d := d.upToDate key
        (d.readEffect key).respond r 1 idx sub (toBytes (valueLen key) (d.value key))

/-! Writing: command objects. -/

/-- What a DICT_WRITE of a command object does, given in the order of the index map. None: the object is no command. -/
def seqObjCmd (m : Memory) (d : Dev) (n v : Nat) : Except Abort (Memory × Dev) :=
  match v with
  | 1 => seqArm m d n
  | 2 => seqDisarm m d n
  | 3 => (seqStart d n).map (m, ·)
  | 4 => (seqPause d n).map (m, ·)
  | 5 => (seqResume d n).map (m, ·)
  | 6 => seqStopCmd m d n
  | _ => (seqJump d n).map (m, ·)

def timeObjCmd (m : Memory) (d : Dev) (i s v : Nat) : Option (Except Abort (Memory × Dev)) :=
  if (i = 0x0401 ∨ i = 0x0403 ∨ i = 0x0404) ∧ s = 1 then
    some ((if v = 1 then tbInit d (i - 0x0401) else tbStop d (i - 0x0401)).map (m, ·))
  else if 0x0440 ≤ i ∧ i ≤ 0x045F ∧ s = 1 then some ((if v = 1 then almArm d (i - 0x0440) else almDisarm d (i - 0x0440)).map (m, ·))
  else if i * 256 + s = K.TS_MARK then
    some ((tsMark { d with fresh := d.fresh + 1 } v (d.free 64).1).map (m, ·))
  else if i * 256 + s = K.TSQ_POP then some ((tsqPop d v).map (m, ·))
  else if i * 256 + s = K.SYNC_CMD then some ((if v = 1 then armEpoch d else cancelEpoch d).map (m, ·))
  else none

def chipObjCmd (m : Memory) (d : Dev) (i s v : Nat) : Option (Except Abort (Memory × Dev)) :=
  if i * 256 + s = K.CHIP_CMD then
    some ((if v = 1 then chipEnable d else if v = 2 then chipDisable d else if v = 3 then serviceEnter d else serviceExit d).map (m, ·))
  else if i * 256 + s = K.FLOG_CMD then some ((flogClear d).map (m, ·))
  else if 0x0500 ≤ i ∧ i ≤ 0x0533 ∧ s = 1 then some (pdOff m d (i - 0x0500))
  else if i * 256 + s = K.ADC_CMD then some ((adcCmd d v).map (m, ·))
  else if 0x0580 ≤ i ∧ i ≤ 0x058F ∧ s = 0x11 then some ((ssqRun d (i - 0x0580)).map (m, ·))
  else if 0x0D10 ≤ i ∧ i ≤ 0x0D1F ∧ s = 1 then some ((wlRun d (i - 0x0D10)).map (m, ·))
  else if i * 256 + s = K.WND_CMD then some (if v = 1 then (wndRun d).map (m, ·) else wndAbort m d)
  else if i * 256 + s = K.BIST_CMD then some (if v = 1 then (bistStart d).map (m, ·) else bistAbort m d)
  else none

def linkObjCmd (m : Memory) (d : Dev) (r : Req) (i s v : Nat) : Option (Except Abort (Memory × Dev)) :=
  let p := if i < 0x0210 then i - 0x0201 else i - 0x020E
  if (0x0201 ≤ i ∧ i ≤ 0x0202 ∨ 0x0210 ≤ i ∧ i ≤ 0x0213) ∧ s = 1 then
    some ((if v = 1 then portEnable d p else if v = 2 then portDisable d r p else portRetrain d p).map (m, ·))
  else if 0x0220 ≤ i ∧ i ≤ 0x022F ∧ s = 1 then
    (let l := i - 0x0220
     some ((if v = 1 then loopEnter d l else if v = 2 then loopExit d l else if v = 3 then eyeStart d l
       else if v = 4 then eyeAbort d l else injectCmd d l).map (m, ·)))
  else none

def fabricObjCmd (m : Memory) (d : Dev) (i s v : Nat) : Option (Except Abort (Memory × Dev)) :=
  if i * 256 + s = K.DDR_CMD then
    some (if v = 1 then (ddrInit d).map (m, ·) else if v = 2 then srEnter m d else if v = 3 then (srExit d).map (m, ·)
      else ddrRelease m d)
  else if 0x0A00 ≤ i ∧ i ≤ 0x0A0F ∧ s = 1 then
    (let c := i - 0x0A00
     some (if v = 1 then (tramStart d c).map (m, ·) else if v = 2 then tramRestart m d c else (tramAbortCmd d c).map (m, ·)))
  else if 0x0B00 ≤ i ∧ i ≤ 0x0BFF ∧ s = 1 then
    (let q := i - 0x0B00
     some ((if v = 1 then qEnable d q else if v = 2 then qDisable d q else qFlush d q).map (m, ·)))
  else if 0x0B00 ≤ i ∧ i ≤ 0x0BFF ∧ s = 0x11 then some ((qPush d (i - 0x0B00) v false).map (m, ·))
  else if 0x0B00 ≤ i ∧ i ≤ 0x0BFF ∧ s = 0x12 then some ((qPush d (i - 0x0B00) v true).map (m, ·))
  else if 0x0C01 ≤ i ∧ i ≤ 0x0C04 ∧ s = 1 then
    some ((if v = 1 then clusterOffline d (i - 0x0C01) else clusterOnline d (i - 0x0C01)).map (m, ·))
  else if 0x0C40 ≤ i ∧ i ≤ 0x0C7F ∧ s = 1 then
    (let g := i - 0x0C40
     some ((if v = 1 then graphStart m d g else if v = 2 then graphStop d g else graphDrain d g).map (m, ·)))
  else if 0x2200 ≤ i ∧ i ≤ 0x220F ∧ s = 6 then
    some ((if v = 1 then sumpBind d (i - 0x2200) else sumpUnbind d (i - 0x2200)).map (m, ·))
  else if 0x2600 ≤ i ∧ i ≤ 0x261F ∧ s = 3 then
    some ((if v = 1 then streamBind d (i - 0x2600) else streamUnbind d (i - 0x2600)).map (m, ·))
  else none

def testObjCmd (m : Memory) (d : Dev) (i s v : Nat) : Option (Except Abort (Memory × Dev)) :=
  if 0x1200 ≤ i ∧ i ≤ 0x123F ∧ s = 1 then some (seqObjCmd m d (i - 0x1200) v)
  else if 0x1200 ≤ i ∧ i ≤ 0x123F ∧ s = 0x50 then some ((tsetSealCmd d (i - 0x1200) v).map (m, ·))
  else if 0x1400 ≤ i ∧ i ≤ 0x147F ∧ s = 0x0D then some (siteCommand m d (i - 0x1400) v)
  else if 0x1500 ≤ i ∧ i ≤ 0x150F ∧ s = 1 then
    (let u := i - 0x1500
     some (if v = 1 then (asyArmCmd d u).map (m, ·) else if v = 2 then asyDisarm m d u else (asyForce d u).map (m, ·)))
  else if 0x1600 ≤ i ∧ i ≤ 0x1603 ∧ s = 1 then
    some (if v = 1 then (dwsStartCmd m d (i - 0x1600)).map (m, ·) else dwsAbortCmd m d (i - 0x1600))
  else if 0x1604 ≤ i ∧ i ≤ 0x1607 ∧ s = 1 then
    some ((if v = 1 then tmuStartCmd d (i - 0x1604) else d.tmuAbort (i - 0x1604)).map (m, ·))
  else none

/-! Writing: values with rules of their own. -/

/-- A write that R42 makes: the image of sequencer n is EMPTY. -/
def Dev.imageGone (d : Dev) (n : Nat) : Dev :=
  ({ d with domLen := Table.del d.domLen (K.PATTERN_IMAGE n) } : Dev).setAll
    [(K.IMAGE_STATUS n, 0), (K.IMAGE_ID n, 0), (K.DICT_OFFSET n, 0), (K.DICT_COUNT n, 0)]

/-- Reactions a kind may be given (R398, R400, R402). -/
def reactOk (fk v : Nat) : Bool :=
  let cls := faultClass fk
  let target := decide (fk ≤ 12) || (decide (14 ≤ fk) && decide (fk ≤ 17)) || fk == 19 || (decide (21 ≤ fk) && decide (fk ≤ 23))
  decide (faultReactDefault fk ≤ v) && decide (v ≤ 4) && (v != 3 || target) && (v != 2 || cls == 1) &&
    (cls != 0 || decide (v ≤ 1)) && (cls != 3 || v == 4)

/-- The shadow timing set an object belongs to: the owning sequencers and the set (R110, R111). -/
def Dev.shadowOf (d : Dev) (i s : Nat) : Option (List Nat × Nat) :=
  if 0x1200 ≤ i ∧ i ≤ 0x123F ∧ 0x60 ≤ s ∧ s ≤ 0x7F then some ([i - 0x1200], s - 0x60)
  else if 0x1000 ≤ i ∧ i ≤ 0x10FF ∧ 0x40 ≤ s ∧ s ≤ 0x9F then some (d.ownersOf (i - 0x1000), s % 32)
  else none

/-- A write of a value to an object that is no command (R285, R286): refused by the object's own rule, or stored with what
follows from it. -/
def writeValue (d : Dev) (key v : Nat) : Except Abort Dev := do
  let i := key / 256
  let s := key % 256
  match d.shadowOf i s with
  | some (ns, t) =>
    need (ns.all (fun n => !(bit (d.get (K.TSET_SEAL n)) t))) .sealed
    need (ns.all (fun n => !(d.claimed n t))) .busy
    .ok (d.set key v)
  | none =>
    if 0x1200 ≤ i ∧ i ≤ 0x123F ∧ (s = 0x20 ∨ s = 0x21 ∨ s = 0x07 ∨ s = 0x08) then do
      need (!(d.loading [K.PATTERN_IMAGE (i - 0x1200)])) .busy
      .ok (if s = 0x08 then d.set key v else (d.set key v).imageGone (i - 0x1200))
    else if 0x1500 ≤ i ∧ i ≤ 0x150F ∧ 0x0C ≤ s ∧ s ≤ 0x0E then do
      need (d.get (K.ASY_STATE (i - 0x1500)) != 1 && d.get (K.ASY_STATE (i - 0x1500)) != 2) .state
      .ok (d.set key v)
    else if 0x2200 ≤ i ∧ i ≤ 0x220F ∧ s = 9 then d.sumpRd (i - 0x2200) v
    else if 0x0B00 ≤ i ∧ i ≤ 0x0BFF ∧ s = 8 then .ok (qWeir d (i - 0x0B00) v)
    else if i = 0x0900 then ddrWriteObj d key v
    else if key = K.HOST_WIN_BYTES then do
      need (!d.hostInUse) .state
      .ok (d.set key v)
    else if 0x0220 ≤ i ∧ i ≤ 0x022F then do
      need (laneSettingOk d key) .state
      .ok (d.set key v)
    else if (i = 0x0401 ∨ i = 0x0403 ∨ i = 0x0404) ∧ s = 8 then rateWrite d (i - 0x0401) v
    else if 0x0550 ≤ i ∧ i ≤ 0x056F ∧ s = 3 then railMv d (i - 0x0550) v
    else if 0x0D00 ≤ i ∧ i ≤ 0x0D07 ∧ s = 3 then spiXfer { d with fresh := d.fresh + 1 } (i - 0x0D00) v (d.free 48).1
    else if key = K.FAULT_SELECT then do
      need (d.indexThere v) .range
      .ok (d.set key v)
    else if 0x1200 ≤ i ∧ i ≤ 0x123F ∧ s = 0x18 then do
      need (v == 0 || (List.range 64).all (fun n => n == i - 0x1200 || d.get (K.BOND_GROUP n) != v)) .range   -- R93, log entry 44
      .ok (d.set key v)
    else if 0x1400 ≤ i ∧ i ≤ 0x147F ∧ s = 1 then do
      need (decide (64 ≤ v) || d.get (K.SEQ_STATE v) == 0) .state                                            -- R88
      .ok (d.set key v)
    else if 0x1400 ≤ i ∧ i ≤ 0x147F ∧ 2 ≤ s ∧ s ≤ 5 then
      .ok ((d.set key v).strayOff ((setBits 64 (d.get key)).map (64 * (s - 2) + ·)))                          -- R13
    else if 0x1100 ≤ i ∧ i ≤ 0x1107 ∧ s = 1 then speTarget d (i - 0x1100) v
    else if key = K.SYNC_ROLE then
      .ok ((d.set key v).setUnsure (putBit (d.get K.UNSURE_CAUSE) 0 (v == 1 || v == 2)))
    else if i = 0x0601 then do
      need (reactOk s v) .range
      .ok (d.set key v)
    else if 0x0620 ≤ i ∧ i ≤ 0x0622 then do
      need (!(bits v 14 2 == 1 && (v % 64 == 63 || (v % 64 == d.get K.NODE_ID && d.get K.NODE_ID != 0)))) .range
      .ok (d.set key v)
    else .ok (d.set key v)

/-- A write to an RWC object (R277): bits written 1 are cleared; a counter is cleared by any value but 0. Q_PEAK then takes
the fill at the end of the clock (R242); LODE_ECC_CORR counts from 0 again. -/
def Dev.writeClear (d : Dev) (key v : Nat) (isBits : Bool) : Dev :=
  if isBits then d.set key (d.get key - (d.get key &&& v))
  else if v = 0 then d
  else if 0x0B00 ≤ key / 256 ∧ key / 256 ≤ 0x0BFF ∧ key % 256 = 0x09 then d.set key (d.tarn (key / 256 - 0x0B00)).count
  else if 0x1200 ≤ key / 256 ∧ key / 256 ≤ 0x123F ∧ key % 256 = 0x28 then
    ({ d with dirRead := d.dirRead.filter (· != key / 256 - 0x1200) } : Dev).set key 0
  else d.set key 0

/-- A DICT_WRITE of an object once the checks of R278 are passed. -/
def writeObj (m : Memory) (d : Dev) (r : Req) (key v : Nat) : Except Abort (Memory × Dev) :=
  let i := key / 256
  let s := key % 256
  match rowOf i s with
  | none => .error .noSubindex
  | some row =>
    if row.acc = .rwc then .ok (m, (d.upToDate key).writeClear key v (match row.ty with | .bits _ => true | _ => false))
    else match testObjCmd m d i s v with
      | some x => x
      | none => match fabricObjCmd m d i s v with
        | some x => x
        | none => match linkObjCmd m d r i s v with
          | some x => x
          | none => match chipObjCmd m d i s v with
            | some x => x
            | none => match timeObjCmd m d i s v with
              | some x => x
              | none => (writeValue d key v).map (m, ·)

/-- Figures an arm reports though it is refused (R54, R200). -/
def armNote (m : Memory) (d : Dev) (key v : Nat) : Dev :=
  let i := key / 256
  if 0x1200 ≤ i ∧ i ≤ 0x123F ∧ key % 256 = 1 ∧ v = 1 then d.budgetNote m (i - 0x1200)
  else if 0x1500 ≤ i ∧ i ≤ 0x150F ∧ key % 256 = 1 ∧ v = 1 then d.asyNote (i - 0x1500)
  else d

/-- A DICT_WRITE of a graph-defined parameter (R238). -/
def paramWrite (m : Memory) (d : Dev) (r : Req) (idx sub len v : Nat) : Dev :=
  match d.rowWrite (d.rowAt m idx sub) idx sub len v with
  | some a => d.refuse r 2 idx sub a
  | none => (d.set (idx * 256 + sub) v).respond r 2 idx sub []

/-- What the STATUS_WORD reads of a clear made by a plain DICT_WRITE give: free values. -/
def Dev.freeReads (d : Dev) : List (Nat × Option Nat) × Dev :=
  d.faultyRails.foldl (fun p r =>
    let b := p.2.freeB
    let w := b.2.free 16
    (p.1 ++ [(r, if b.1 then some w.1 else none)], w.2)) ([], d)

/-- DICT_WRITE (R276 to R278, R290). A write of a command object is that command; those that answer in their own time or
reach the fuses do so. -/
def dictWrite (f : Fuses) (m : Memory) (d : Dev) (r : Req) (idx sub len v : Nat) : Fuses × Memory × Dev :=
  let key := idx * 256 + sub
  if idx = 0x0700 ∧ sub = 1 ∧ len = 1 ∧ v = 2 then (let p := commitRollback f d r; (p.1, m, p.2))
  else if idx = 0x0700 ∧ sub = 1 ∧ len = 1 ∧ v = 1 then (f, reboot f m d r)
  else if 0x4000 ≤ idx ∧ idx ≤ 0x4FFF ∧ d.indexThere idx then (f, m, paramWrite m d r idx sub len v)
  else if 0x0500 ≤ idx ∧ idx ≤ 0x0533 ∧ sub = 1 ∧ len = 1 ∧ v = 1 then (f, m, pdOn d r (idx - 0x0500))
  else if 0x0550 ≤ idx ∧ idx ≤ 0x056F ∧ sub = 2 ∧ len = 1 ∧ 1 ≤ v ∧ v ≤ 3 then (f, m, railCmd d r (idx - 0x0550) v)
  else if key = K.FAULT_CLEAR ∧ len = 2 then (f, faultClearCmd m d.freeReads.2 r v d.freeReads.1)
  else (f, serveN m d r key len v (fun d => armNote m d key v) (fun m d => writeObj m d r key v))

end Sys2Proof.Machine
end

