-- ==== Sys2Proof/Machine/Operands.lean ====
section
/-! DEFINITION. The operand forms of the commands: the instance a command names must exist; a command of software comes
as a DICT_WRITE of its command object (R276), an event of hardware happens to its instance. -/

namespace Sys2Proof.Machine

/-- Instance `n` of a function with `count` instances exists (R10). -/
def inst (n count : Nat) : Bool := decide (n < count)

/-- A write that must follow one of its instance still waiting to take effect (R12): of a domain whose ON waits, any but a
further ON, which joins the queue of ramps itself; of a rail with a command waiting on its master, any but a further
RAIL_CMD, which joins the master's queue itself. -/
def Dev.behind (d : Dev) (c : Instr) : Bool :=
  let ons (dd : Nat) : Bool := d.pwr.pdQueue.any (fun e => e.1 == dd && e.2.isSome)
  let rail (r : Nat) : Bool := d.pwr.pmb.any (fun q => q.2.any (fun o => o.rail == r && o.req.isSome))
  match c with
  | .pdOff _ dd => ons dd
  | .dictWrite _ idx sub _ v =>
    (decide (0x0500 ≤ idx) && decide (idx ≤ 0x0533) && !(sub == 1 && v == 1) && ons (idx - 0x0500)) ||
    (decide (0x0550 ≤ idx) && decide (idx ≤ 0x056F) && sub != 2 && rail (idx - 0x0550))
  | _ => false

/-- A request is taken (R289): refused with BUSY where its port has 32 outstanding; held behind a request of its port that
waits to take effect, or behind the write it must follow (R12); else served. One that was held is served in its turn. -/
def taken (s : State) (r : Req) (c : Instr) (type idx sub : Nat) (run : State → Host.Outcome State Fault Refusal) (phase : Nat := 0) :
    Host.Outcome State Fault Refusal :=
  if s.dev.pwr.resetLow then .next s
  else if s.dev.turn then run { s with dev := { s.dev with turn := false } }
  else if 32 ≤ s.dev.outstanding r.port then .next { s with dev := s.dev.refuse r type idx sub .busy phase }
  else if s.dev.outstanding r.port ≠ 0 ∨ s.dev.behind c then
    .next { s with dev := { s.dev with held := s.dev.held ++ [(r.port, c)] } }
  else run s

/-- The oldest held request whose turn has come: none of its port waits or was held before it. -/
def Dev.takeHeld (d : Dev) : Option (Instr × Dev) :=
  if d.pwr.resetLow || d.pwr.hfDown then none
  else
    match (List.range d.held.length).find? (fun i => match d.held[i]? with
      | some e => d.waitsOn e.1 == 0 && !(d.behind e.2) && (d.held.take i).all (fun x => x.1 != e.1)
      | none => false) with
    | none => none
    | some i => (d.held[i]?).map (fun e => (e.2, { d with held := d.held.eraseIdx i, turn := true }))

/-- A command of software that is a DICT_WRITE of `len` bytes of value `v` to an object, kept as `c` if it is held; `ok`: its
instance exists. -/
def sendAs (s : State) (r : Req) (c : Instr) (ok : Bool) (key len v : Nat) (act : Dev → Except Abort Dev) :
    Host.Outcome State Fault Refusal :=
  taken s r c 2 (key / 256) (key % 256) (fun s =>
    onDev s (fun _ d => if ok then d.serve r key len v act else d.refuse r 2 (key / 256) (key % 256) .noObject))

/-- A command software sends as a DICT_WRITE that says all of it. -/
def send (s : State) (r : Req) (ok : Bool) (key len v : Nat) (act : Dev → Except Abort Dev) : Host.Outcome State Fault Refusal :=
  sendAs s r (.dictWrite r (key / 256) (key % 256) len v) ok key len v act

/-- As `send`, for an effect that reaches a memory. -/
def sendM (s : State) (r : Req) (ok : Bool) (key len v : Nat) (act : Memory → Dev → Except Abort (Memory × Dev)) :
    Host.Outcome State Fault Refusal :=
  taken s r (.dictWrite r (key / 256) (key % 256) len v) 2 (key / 256) (key % 256) (fun s =>
    onMemDev s (fun m d => if ok then serveM m d r key len v act else (m, d.refuse r 2 (key / 256) (key % 256) .noObject)))

/-- An event of an instance; one that does not exist has none. -/
def happen (s : State) (ok : Bool) (f : Dev → Dev) : Host.Outcome State Fault Refusal :=
  onDev s (fun _ d => if ok then f d else d)

/-- An event that reads the memories. -/
def happenDev (s : State) (ok : Bool) (f : Memory → Dev → Dev) : Host.Outcome State Fault Refusal :=
  onDev s (fun m d => if ok then f m d else d)

/-- An event that may change the memories. -/
def happenM (s : State) (ok : Bool) (f : Memory → Dev → Memory × Dev) : Host.Outcome State Fault Refusal :=
  onMemDev s (fun m d => if ok then f m d else (m, d))

/-- A command that reads the fuses and may change the rest, while RESET_N is high. -/
def onLoad (s : State) (f : Fuses → Memory → Dev → Memory × Dev) : Host.Outcome State Fault Refusal :=
  .next (if s.dev.pwr.resetLow then s else { s with mem := (f s.fuses s.mem s.dev).1, dev := (f s.fuses s.mem s.dev).2 })

/-- A command that may change everything but the waiting commands. -/
def onAll (s : State) (f : Fuses → Memory → Dev → Fuses × Memory × Dev) : Host.Outcome State Fault Refusal :=
  .next (if s.dev.pwr.resetLow then s
    else { s with fuses := (f s.fuses s.mem s.dev).1, mem := (f s.fuses s.mem s.dev).2.1, dev := (f s.fuses s.mem s.dev).2.2 })

/-- TMU_TIMEOUT (R128): the run ends ABORTED; an engine that holds the TMU goes on (R209). -/
def Dev.tmuTimedOut (d : Dev) (k : Nat) : Dev :=
  if d.get (K.TMU_STATE k) = 2 then
    let d := d.tmuEnd k 5
    match (List.range 4).find? (fun e => (d.tmu k).holder == 3 + e) with
    | some e => d.dwsTmuNext e
    | none => d
  else d

/-- EVICTION (R183, R192, R193): bytes read from the on-chip buffer with a corrected error count ASSAY_ECC_CORR; with an
uncorrectable one they stay and ASSAY_MEM is raised. -/
def asyEviction (m : Memory) (d : Dev) (u n ecc : Nat) : Memory × Dev :=
  if asyEvictable d u = 0 then (m, d)
  else if ecc = 2 then raiseFault m d 12 (0x1500 + u) 0 none [0x1500 + u] []
  else
    let p := asyEvict m d u n
    if ecc = 1 then raiseFault p.1 p.2 13 (0x1500 + u) 0 none [] [] else p

end Sys2Proof.Machine
end

