-- ==== Sys2Proof/Machine/CaptureCommands.lean ====
section
/-! DEFINITION. Assay units, Dowser engines, the fail log and Sump regions (R165 to R211): the meaning of each command, over the named operations. -/

namespace Sys2Proof.Machine

/-- ASY_ARM (R183): ASY_CMD ARM checks the unit, fixes R and empties the pre-trigger ring. -/
def execAsyArm (r : Req) (u : Nat) (s : State) : Host.Outcome State Fault Refusal :=
  taken s r (.dictWrite r (0x1500 + u) 1 1 1) 2 (0x1500 + u) 1 (fun s => onMemDev s
    (fun m d => if inst u 16 then serveN m d r (K.ASY_CMD u) 1 1 (fun d => d.asyNote u) (fun m d => (asyArmCmd d u).map (m, ·)) else (m, d.refuse r 2 (0x1500 + u) 1 .noObject)))

/-- ASY_DISARM (R197): ASY_CMD DISARM closes any record being captured with CUT and enters STOPPED. -/
def execAsyDisarm (r : Req) (u : Nat) (s : State) : Host.Outcome State Fault Refusal :=
  sendM s r (inst u 16) (K.ASY_CMD u) 1 2 (fun m d => asyDisarm m d u)

/-- FORCE (R187): ASY_CMD FORCE triggers at the next sample that retires. -/
def execForce (r : Req) (u : Nat) (s : State) : Host.Outcome State Fault Refusal :=
  send s r (inst u 16) (K.ASY_CMD u) 1 3 (fun d => asyForce d u)

/-- REARM_END (R186): The re-arm interval of 1,024 sample clocks expires, and the unit is armed again with an empty
ring. -/
def execRearmEnd (u : Nat) (s : State) : Host.Outcome State Fault Refusal :=
  happen s (inst u 16) (fun d => asyRearmEnd d u)

/-- EVICTION (R192): The spill engine writes final capture bytes to the DDR4 spill region, oldest first. -/
def execEviction (u bytes ecc : Nat) (s : State) : Host.Outcome State Fault Refusal :=
  happenM s (inst u 16) (fun m d => asyEviction m d u bytes ecc)

/-- DWS_START (R210): DWS_CMD START claims the timing set, copies it to the shadow copy and seals the first step. -/
def execDwsStart (r : Req) (d : Nat) (s : State) : Host.Outcome State Fault Refusal :=
  sendM s r (inst d 4) (K.DWS_CMD d) 1 1 (fun m x => (dwsStartCmd m x d).map (m, ·))

/-- DWS_ABORT (R210): DWS_CMD ABORT ends the search, seals the START values and writes CUT records. -/
def execDwsAbort (r : Req) (d : Nat) (s : State) : Host.Outcome State Fault Refusal :=
  sendM s r (inst d 4) (K.DWS_CMD d) 1 2 (fun m x => dwsAbortCmd m x d)

/-- DWS_STEP_SEAL (R204): After a measured pass retires, the engine seals the next step, or the final values together
with a JUMP. -/
def execDwsStepSeal (d : Nat) (s : State) : Host.Outcome State Fault Refusal :=
  happenM s (inst d 4) (fun m x => dwsStep m x d)

/-- STAGING_DELIVER (R170): A staging buffer delivers a waiting record into its queue when the queue has room, one
every 3.2 ns. -/
def execStagingDeliver (k : Nat) (s : State) : Host.Outcome State Fault Refusal :=
  happen s (inst k 4) (fun d => d.deliver k)

/-- START_END_ADMIT (R171): A START or END record waiting in the home block is admitted at the first staging slot that
frees. -/
def execStartEndAdmit (k : Nat) (s : State) : Host.Outcome State Fault Refusal :=
  happen s (inst k 4) (fun d => d.admitWaiting k)

/-- SUMP_BIND (R175): SUMP_CMD BIND binds a Sump region to its queue and starts draining. -/
def execSumpBind (r : Req) (x : Nat) (s : State) : Host.Outcome State Fault Refusal :=
  send s r (inst x 16) (K.SUMP_CMD x) 1 1 (fun d => sumpBind d x)

/-- SUMP_UNBIND (R175): SUMP_CMD UNBIND stops a region's drain and keeps its content readable. -/
def execSumpUnbind (r : Req) (x : Nat) (s : State) : Host.Outcome State Fault Refusal :=
  send s r (inst x 16) (K.SUMP_CMD x) 1 2 (fun d => sumpUnbind d x)

/-- SUMP_DRAIN (R174): A whole packet that fits is taken from the queue and written into the region through the FL
port. -/
def execSumpDrain (x : Nat) (s : State) : Host.Outcome State Fault Refusal :=
  happenM s (inst x 16) (fun m d => sumpDrainOnce m d x)

/-- SUMP_RD_WRITE (R174): Advances the consumption pointer of a RING region, freeing space. -/
def execSumpRdWrite (r : Req) (x value : Nat) (s : State) : Host.Outcome State Fault Refusal :=
  send s r (inst x 16) (K.SUMP_RD x) 8 value (fun d => d.sumpRd x value)

end Sys2Proof.Machine
end

