-- ==== Sys2Proof/Machine/ChipCommands.lean ====
section
/-! DEFINITION. The chip, reset, boot, faults, self-test and boundary scan (R282, R375, R391 to R396, R404 to R424): the meaning of each command, over the named operations. -/

namespace Sys2Proof.Machine

/-- CHIP_ENABLE (R282): CHIP_CMD ENABLE moves the chip from STOPPED to READY. -/
def execChipEnable (r : Req) (s : State) : Host.Outcome State Fault Refusal :=
  send s r (true) (K.CHIP_CMD) 1 1 (fun d => chipEnable d)

/-- CHIP_DISABLE (R282): CHIP_CMD DISABLE moves the chip from READY to STOPPED when ACTIVE_FUNCS is 0. -/
def execChipDisable (r : Req) (s : State) : Host.Outcome State Fault Refusal :=
  send s r (true) (K.CHIP_CMD) 1 2 (fun d => chipDisable d)

/-- SERVICE_ENTER (R282): CHIP_CMD SERVICE_ENTER moves the chip from STOPPED to SERVICE. -/
def execServiceEnter (r : Req) (s : State) : Host.Outcome State Fault Refusal :=
  send s r (true) (K.CHIP_CMD) 1 3 (fun d => serviceEnter d)

/-- SERVICE_EXIT (R282): CHIP_CMD SERVICE_EXIT moves the chip from SERVICE to STOPPED when no self-test is running. -/
def execServiceExit (r : Req) (s : State) : Host.Outcome State Fault Refusal :=
  send s r (true) (K.CHIP_CMD) 1 4 (fun d => serviceExit d)

/-- RESET_N_ASSERT (R375): RESET_N going low resets everything except the eFuses and puts the channel outputs into
their safe state. -/
def execResetNAssert (s : State) : Host.Outcome State Fault Refusal :=
  onReset s resetAssert

/-- RESET_N_RELEASE (R375): The rising edge of RESET_N samples BOOT_MODE, and the chip enters BOOT on the selected
boot path. -/
def execResetNRelease (bootMode : Nat) (s : State) : Host.Outcome State Fault Refusal :=
  onReset s (fun f m d => resetRelease f m d bootMode)

/-- REBOOT (R375): BOOT_CMD REBOOT resets the chip except the eFuses, NODE_ID, the upstream link and the fault log,
then boots again. -/
def execReboot (r : Req) (s : State) : Host.Outcome State Fault Refusal :=
  taken s r (.dictWrite r 0x0700 1 1 1) 2 0x0700 1 (fun s => onLoad s (fun f m d => reboot f m d r))

/-- COMMIT_ROLLBACK (R395): BOOT_CMD COMMIT_ROLLBACK blows eFuse bits until ROLLBACK_FUSE equals the running image's
ROLLBACK. -/
def execCommitRollback (r : Req) (s : State) : Host.Outcome State Fault Refusal :=
  taken s r (.dictWrite r 0x0700 1 1 2) 2 0x0700 1 (fun s => onFuses s (fun f d => commitRollback f d r))

/-- FLASH_BOOT (R394): The image read from the boot flash is checked and loaded, and the chip becomes STOPPED or
LOCKED. -/
def execFlashBoot (s : State) : Host.Outcome State Fault Refusal :=
  onLoad s flashBoot

/-- FLASH_PROGRAMMED (R396): Erasing and programming the boot flash from FLASH_IMAGE completes, the flash reads back
equal, and the CLOSE is answered. -/
def execFlashProgrammed (s : State) : Host.Outcome State Fault Refusal :=
  onMemDev s flashProgrammed

/-- FAULT_CLEAR (R404): Judges persistence for every kind latched on an instance, or on all instances, and unlatches
them all or refuses with CAUSE_PRESENT. -/
def execFaultClear (r : Req) (value : Nat) (reads : List (Nat × Option Nat)) (s : State) : Host.Outcome State Fault Refusal :=
  taken s r (.faultClear r value reads) 2 0x0600 1 (fun s => onMemDev s (fun m d => faultClearCmd m d r value reads))

/-- FLOG_CLEAR (R405): FLOG_CMD CLEAR empties the fault log ring. -/
def execFlogClear (r : Req) (s : State) : Host.Outcome State Fault Refusal :=
  send s r (true) (K.FLOG_CMD) 1 1 (fun d => flogClear d)

/-- CANARY_TOGGLE (R414): Each half period of the Canary expires, and the CANARY output toggles. -/
def execCanaryToggle (s : State) : Host.Outcome State Fault Refusal :=
  onDev s (fun _ d => canaryToggle d)

/-- WDT_EXPIRY (R415): The Headframe watchdog expires without a refresh: the Canary stops, HF_WATCHDOG is raised and
the firmware restarts. -/
def execWdtExpiry (s : State) : Host.Outcome State Fault Refusal :=
  onMemDev s wdtExpiry

/-- HF_RESTART_DONE (R415): The Headframe firmware restart completes; the chip is FAULT and WDT_RESTARTS increments.
-/
def execHfRestartDone (s : State) : Host.Outcome State Fault Refusal :=
  onMemDev s hfRestartDone

/-- BIST_START (R419): BIST_CMD START checks the target and starts BIST_RUN on it. -/
def execBistStart (r : Req) (s : State) : Host.Outcome State Fault Refusal :=
  send s r (true) (K.BIST_CMD) 1 1 (fun d => bistStart d)

/-- BIST_ABORT (R418): BIST_CMD ABORT unwinds the test, and the verdict is ABORTED. -/
def execBistAbort (r : Req) (s : State) : Host.Outcome State Fault Refusal :=
  sendM s r (true) (K.BIST_CMD) 1 2 (fun m d => bistAbort m d)

/-- BYPASS (R424): The JTAG BYPASS instruction is executed. -/
def execBypass (s : State) : Host.Outcome State Fault Refusal :=
  onPins s (fun d => jtagInstr d 0 [])

/-- IDCODE (R424): The JTAG IDCODE instruction returns 0x2256_4B53. -/
def execIdcode (s : State) : Host.Outcome State Fault Refusal :=
  onPins s (fun d => jtagInstr d 1 [])

/-- SAMPLE_PRELOAD (R424): The JTAG SAMPLE/PRELOAD instruction is executed. -/
def execSamplePreload (cells : List Bool) (s : State) : Host.Outcome State Fault Refusal :=
  onPins s (fun d => jtagInstr d 2 cells)

/-- EXTEST (R424): The JTAG EXTEST instruction is executed, only while RESET_N is low. -/
def execExtest (s : State) : Host.Outcome State Fault Refusal :=
  onPins s (fun d => jtagInstr d 3 [])

/-- EXTEST_PULSE (R424): The JTAG EXTEST_PULSE instruction is executed on the AC boundary cells. -/
def execExtestPulse (s : State) : Host.Outcome State Fault Refusal :=
  onPins s (fun d => jtagInstr d 4 [])

/-- EXTEST_TRAIN (R424): The JTAG EXTEST_TRAIN instruction is executed on the AC boundary cells. -/
def execExtestTrain (s : State) : Host.Outcome State Fault Refusal :=
  onPins s (fun d => jtagInstr d 5 [])

/-- CLAMP (R424): The JTAG CLAMP instruction is executed. -/
def execClamp (s : State) : Host.Outcome State Fault Refusal :=
  onPins s (fun d => jtagInstr d 6 [])

/-- HIGHZ (R424): The JTAG HIGHZ instruction is executed. -/
def execHighz (s : State) : Host.Outcome State Fault Refusal :=
  onPins s (fun d => jtagInstr d 7 [])

end Sys2Proof.Machine
end

