-- ==== Sys2Proof/Machine/FabricCommands.lean ====
section
/-! DEFINITION. Tarn queues, Tram channels and the DDR4 controller (R239 to R272): the meaning of each command, over the named operations. -/

namespace Sys2Proof.Machine

/-- Q_ENABLE (R244): Q_CMD ENABLE allocates storage from the pool and empties both banks. -/
def execQEnable (r : Req) (q : Nat) (s : State) : Host.Outcome State Fault Refusal :=
  send s r (inst q 256) (K.Q_CMD q) 1 1 (fun d => qEnable d q)

/-- Q_DISABLE (R244): Q_CMD DISABLE releases the queue's storage. -/
def execQDisable (r : Req) (q : Nat) (s : State) : Host.Outcome State Fault Refusal :=
  send s r (inst q 256) (K.Q_CMD q) 1 2 (fun d => qDisable d q)

/-- Q_FLUSH (R244): Q_CMD FLUSH discards every word of the queue. -/
def execQFlush (r : Req) (q : Nat) (s : State) : Host.Outcome State Fault Refusal :=
  send s r (inst q 256) (K.Q_CMD q) 1 3 (fun d => qFlush d q)

/-- Q_POP (R245): A read of Q_POP removes and returns the oldest word, or on an empty queue sets UNDERRUN. -/
def execQPop (r : Req) (q : Nat) (s : State) : Host.Outcome State Fault Refusal :=
  taken s r (.dictRead r (0x0B00 + q) 0x10) 1 (0x0B00 + q) 0x10 (fun s => onDev s
    (fun m d => if inst q 256 then dictRead m d r (0x0B00 + q) 0x10 else d.refuse r 1 (0x0B00 + q) 0x10 .noObject))

/-- Q_PUSH (R245): Writes one word without an end mark. -/
def execQPush (r : Req) (q value : Nat) (s : State) : Host.Outcome State Fault Refusal :=
  send s r (inst q 256) (K.Q_PUSH q) 8 value (fun d => qPush d q value false)

/-- Q_PUSH_END (R245): Writes one word with an end mark. -/
def execQPushEnd (r : Req) (q value : Nat) (s : State) : Host.Outcome State Fault Refusal :=
  send s r (inst q 256) (K.Q_PUSH_END q) 8 value (fun d => qPush d q value true)

/-- Q_WEIR_WRITE (R247): Sets the Weir level; a level at or below the present fill counts as a crossing. -/
def execQWeirWrite (r : Req) (q value : Nat) (s : State) : Host.Outcome State Fault Refusal :=
  send s r (inst q 256) (K.Q_WEIR q) 4 value (fun d => .ok (qWeir d q value))

/-- TRAM_START (R255): TRAM_CMD START fetches the descriptor at CHAIN_HEAD. -/
def execTramStart (r : Req) (c : Nat) (s : State) : Host.Outcome State Fault Refusal :=
  send s r (inst c 16) (K.TRAM_CMD c) 1 1 (fun d => tramStart d c)

/-- TRAM_RESTART (R256): TRAM_CMD RESTART re-reads the end-marked tail descriptor and continues if END is now 0. -/
def execTramRestart (r : Req) (c : Nat) (s : State) : Host.Outcome State Fault Refusal :=
  sendM s r (inst c 16) (K.TRAM_CMD c) 1 2 (fun m d => tramRestart m d c)

/-- TRAM_ABORT (R255): TRAM_CMD ABORT lets the element in flight complete, then the channel stops. -/
def execTramAbort (r : Req) (c : Nat) (s : State) : Host.Outcome State Fault Refusal :=
  send s r (inst c 16) (K.TRAM_CMD c) 1 3 (fun d => tramAbortCmd d c)

/-- DESC_FETCH (R253): A fetched descriptor is checked and its elements begin to move, or the channel aborts with
TRAM_ERROR. -/
def execDescFetch (c : Nat) (s : State) : Host.Outcome State Fault Refusal :=
  happenM s (inst c 16) (fun m d => descFetch m d c)

/-- DESC_COMPLETE (R255): A descriptor's writes have all taken effect; the next descriptor is fetched, or the channel
enters DONE. -/
def execDescComplete (c : Nat) (eccAt : Option Nat) (host : List Byte) (hostAbort : Bool) (s : State) : Host.Outcome State Fault Refusal :=
  happenM s (inst c 16) (fun m d => descComplete m d c eccAt host hostAbort)

/-- DDR_INIT (R264): DDR_CMD INIT starts DDR_TRAIN on every channel in CHAN_MASK. -/
def execDdrInit (r : Req) (s : State) : Host.Outcome State Fault Refusal :=
  send s r (true) (K.DDR_CMD) 1 1 (fun d => ddrInit d)

/-- SR_ENTER (R265): DDR_CMD SR_ENTER drains queued writes and places the DRAM in self-refresh. -/
def execSrEnter (r : Req) (s : State) : Host.Outcome State Fault Refusal :=
  sendM s r (true) (K.DDR_CMD) 1 2 (fun m d => srEnter m d)

/-- SR_EXIT (R264): DDR_CMD SR_EXIT leaves self-refresh and returns the controller to READY. -/
def execSrExit (r : Req) (s : State) : Host.Outcome State Fault Refusal :=
  send s r (true) (K.DDR_CMD) 1 3 (fun d => srExit d)

/-- RELEASE (R264): DDR_CMD RELEASE leaves the devices in reset, and the controller becomes UNTRAINED. -/
def execRelease (r : Req) (s : State) : Host.Outcome State Fault Refusal :=
  sendM s r (true) (K.DDR_CMD) 1 4 (fun m d => ddrRelease m d)

/-- BURST_ADMIT (R267): A burst waiting at a port is admitted to its channel's read or write queue under the admission
order. -/
def execBurstAdmit (c port : Nat) (s : State) : Host.Outcome State Fault Refusal :=
  happenM s (inst c 8) (fun m d => burstAdmit m d c port)

/-- BURST_ISSUE (R267): A queued burst is issued to the DRAM under the read, drain and panic rules. -/
def execBurstIssue (c ecc : Nat) (s : State) : Host.Outcome State Fault Refusal :=
  happenM s (inst c 8) (fun m d => burstIssue m d c ecc)

/-- PORT_AGE_EXPIRY (R267): An AS, TR or CO burst waits for its AGE and becomes urgent. -/
def execPortAgeExpiry (c port : Nat) (s : State) : Host.Outcome State Fault Refusal :=
  happen s (inst c 8) (fun d => portAge d c port)

/-- TREFI_TICK (R269): Each tREFI adds one refresh owed to a rank; at +8 the refresh becomes urgent. -/
def execTrefiTick (c rank : Nat) (s : State) : Host.Outcome State Fault Refusal :=
  happen s (inst c 8 && inst rank 2) (fun d => trefiTick d c rank)

/-- REF_ISSUE (R269): An all-bank REF is issued to a rank, pulled in or urgent, and REF_DEBT decreases. -/
def execRefIssue (c rank : Nat) (s : State) : Host.Outcome State Fault Refusal :=
  happen s (inst c 8 && inst rank 2) (fun d => refIssue d c rank)

/-- SCRUB_INTERVAL_EXPIRY (R270): SCRUB_INTERVAL expires, and the next burst is scrubbed. -/
def execScrubIntervalExpiry (c ecc : Nat) (s : State) : Host.Outcome State Fault Refusal :=
  happenM s (inst c 8) (fun m d => scrubExpiry m d c ecc)

/-- ALERT_N (R272): An ALERT_n assertion replays commands; after three failed replays DDR_ALERT makes the controller
FAILED. -/
def execAlertN (c : Nat) (replays : Nat) (recovered : Bool) (s : State) : Host.Outcome State Fault Refusal :=
  happenM s (inst c 8) (fun m d => alertN m d c replays recovered)

end Sys2Proof.Machine
end

