-- ==== Sys2Proof/Machine/HewerCommands.lean ====
section
/-! DEFINITION. Hewer instructions (R137 to R151): the meaning of each command, over the named operations. -/

namespace Sys2Proof.Machine

/-- NOP (R140): The Hewer instruction has no effect other than emitting an operation if EMIT is 1. -/
def execNop (h : Nat) (s : State) : Host.Outcome State Fault Refusal :=
  happenM s (inst h 16) (fun m d => hewNop m d h)

/-- HALT (R140): Hewer execution ends, F15 is set, and a HALT marker is queued. -/
def execHalt (h : Nat) (s : State) : Host.Outcome State Fault Refusal :=
  happenM s (inst h 16) (fun m d => hewHalt m d h)

/-- JMP (R140): The Hewer continues at T. -/
def execJmp (h : Nat) (s : State) : Host.Outcome State Fault Refusal :=
  happenM s (inst h 16) (fun m d => hewJmp m d h)

/-- JFS (R140): The Hewer jumps to T if flag RA is set. -/
def execJfs (h : Nat) (s : State) : Host.Outcome State Fault Refusal :=
  happenM s (inst h 16) (fun m d => hewJfs m d h)

/-- JFC (R140): The Hewer jumps to T if flag RA is clear. -/
def execJfc (h : Nat) (s : State) : Host.Outcome State Fault Refusal :=
  happenM s (inst h 16) (fun m d => hewJfc m d h)

/-- LOOP (R140): The Hewer decrements counter RA and jumps to T while the result is not 0. -/
def execLoop (h : Nat) (s : State) : Host.Outcome State Fault Refusal :=
  happenM s (inst h 16) (fun m d => hewLoop m d h)

/-- CALL (R140): The Hewer pushes the return address and jumps to T; with 4 entries already on the stack it raises
HEW_PROGRAM. -/
def execCall (h : Nat) (s : State) : Host.Outcome State Fault Refusal :=
  happenM s (inst h 16) (fun m d => hewCall m d h)

/-- RET (R140): The Hewer continues at the popped address; with an empty stack it raises HEW_PROGRAM. -/
def execRet (h : Nat) (s : State) : Host.Outcome State Fault Refusal :=
  happenM s (inst h 16) (fun m d => hewRet m d h)

/-- LDI (R140): The Hewer loads an immediate into register RA. -/
def execLdi (h : Nat) (s : State) : Host.Outcome State Fault Refusal :=
  happenM s (inst h 16) (fun m d => hewLdi m d h)

/-- LDBL (R140): The Hewer loads the low 32 bits of a background register or the LFSR. -/
def execLdbl (h : Nat) (s : State) : Host.Outcome State Fault Refusal :=
  happenM s (inst h 16) (fun m d => hewLdbl m d h)

/-- LDBH (R140): The Hewer loads the high 32 bits of a background register or the LFSR. -/
def execLdbh (h : Nat) (s : State) : Host.Outcome State Fault Refusal :=
  happenM s (inst h 16) (fun m d => hewLdbh m d h)

/-- ADDI (R140): The Hewer adds a signed immediate to RA modulo 2^24. -/
def execAddi (h : Nat) (s : State) : Host.Outcome State Fault Refusal :=
  happenM s (inst h 16) (fun m d => hewAddi m d h)

/-- MOV (R140): The Hewer copies register RB to RA. -/
def execMov (h : Nat) (s : State) : Host.Outcome State Fault Refusal :=
  happenM s (inst h 16) (fun m d => hewMov m d h)

/-- SWAPBG (R140): The Hewer exchanges BG0 and BG1. -/
def execSwapbg (h : Nat) (s : State) : Host.Outcome State Fault Refusal :=
  happenM s (inst h 16) (fun m d => hewSwapbg m d h)

/-- NOTBG (R140): The Hewer inverts the selected background register, or both. -/
def execNotbg (h : Nat) (s : State) : Host.Outcome State Fault Refusal :=
  happenM s (inst h 16) (fun m d => hewNotbg m d h)

/-- SETF (R140): The Hewer sets flag RA. -/
def execSetf (h : Nat) (s : State) : Host.Outcome State Fault Refusal :=
  happenM s (inst h 16) (fun m d => hewSetf m d h)

/-- CLRF (R140): The Hewer clears flag RA. -/
def execClrf (h : Nat) (s : State) : Host.Outcome State Fault Refusal :=
  happenM s (inst h 16) (fun m d => hewClrf m d h)

/-- JRZ (R140): The Hewer jumps to T if register RA is 0. -/
def execJrz (h : Nat) (s : State) : Host.Outcome State Fault Refusal :=
  happenM s (inst h 16) (fun m d => hewJrz m d h)

/-- JRNZ (R140): The Hewer jumps to T if register RA is not 0. -/
def execJrnz (h : Nat) (s : State) : Host.Outcome State Fault Refusal :=
  happenM s (inst h 16) (fun m d => hewJrnz m d h)

/-- JLT (R140): The Hewer jumps to T if RA is less than RB, unsigned. -/
def execJlt (h : Nat) (s : State) : Host.Outcome State Fault Refusal :=
  happenM s (inst h 16) (fun m d => hewJlt m d h)

/-- SWXY (R140): The Hewer exchanges X and Y, and XMAX and YMAX. -/
def execSwxy (h : Nat) (s : State) : Host.Outcome State Fault Refusal :=
  happenM s (inst h 16) (fun m d => hewSwxy m d h)

/-- WSEG (R136): The Hewer queues a marker and waits in PAUSED for a HEW_CTL CONTINUE. -/
def execWseg (h : Nat) (s : State) : Host.Outcome State Fault Refusal :=
  happenM s (inst h 16) (fun m d => hewWseg m d h)

end Sys2Proof.Machine
end

