-- ==== Sys2Proof/Machine/LinkCommands.lean ====
section
/-! DEFINITION. Ports and lanes (R300 to R335): the meaning of each command, over the named operations. -/

namespace Sys2Proof.Machine

/-- PORT_ENABLE (R305): PORT_CMD ENABLE powers the lanes and enters DETECT. -/
def execPortEnable (r : Req) (p : Nat) (s : State) : Host.Outcome State Fault Refusal :=
  send s r (inst p 6) (portKey p 1) 1 1 (fun d => portEnable d p)

/-- PORT_DISABLE (R305): PORT_CMD DISABLE idles the lanes and discards the replay buffer. -/
def execPortDisable (r : Req) (p : Nat) (s : State) : Host.Outcome State Fault Refusal :=
  send s r (inst p 6) (portKey p 1) 1 2 (fun d => portDisable d r p)

/-- PORT_RETRAIN (R305): PORT_CMD RETRAIN returns an ACTIVE port to TRAIN, keeping the replay buffer. -/
def execPortRetrain (r : Req) (p : Nat) (s : State) : Host.Outcome State Fault Refusal :=
  send s r (inst p 6) (portKey p 1) 1 3 (fun d => portRetrain d p)

/-- RECEIVER_DETECT (R307): Receiver detection repeats every 100 µs in DETECT, and a detected receiver moves the port
to TRAIN. -/
def execReceiverDetect (p : Nat) (lanes : Nat) (s : State) : Host.Outcome State Fault Refusal :=
  happen s (inst p 6) (fun d => receiverDetect d p lanes)

/-- TRAINING_FRAME (R308): A received training word answers tap requests, and RX_READY at both ends moves the port to
LOCK. -/
def execTrainingFrame (lane word : Nat) (s : State) : Host.Outcome State Fault Refusal :=
  happen s (inst lane 16) (fun d => trainingFrame d lane word)

/-- STAGE_TIMEOUT (R307): A bring-up stage exceeds STAGE_TIMEOUT, and the port goes to BACKOFF, or to EXCHANGE from
LOCK with a lane locked. -/
def execStageTimeout (p : Nat) (s : State) : Host.Outcome State Fault Refusal :=
  happen s (inst p 6) (fun d => stageTimeout d p)

/-- BACKOFF_EXPIRY (R305): The backoff interval elapses, the port returns to DETECT, and the interval doubles. -/
def execBackoffExpiry (p : Nat) (s : State) : Host.Outcome State Fault Refusal :=
  happen s (inst p 6) (fun d => backoffExpiry d p)

/-- CAPABILITIES_FRAME (R311): A received capabilities frame settles the version and features, or fails EXCHANGE. -/
def execCapabilitiesFrame (p : Nat) (c : Caps) (s : State) : Host.Outcome State Fault Refusal :=
  happen s (inst p 6) (fun d => capabilities d p c)

/-- BLOCK_LOCK_LOST (R317): A lane loses block lock; a Gwynter port narrows, and a Gallery port goes to BACKOFF. -/
def execBlockLockLost (lane : Nat) (s : State) : Host.Outcome State Fault Refusal :=
  happenM s (inst lane 16) (fun m d => blockLockLost m d lane)

/-- WIDTH_REQ (R317): A received WIDTH_REQ stops sequenced sending and is answered with the intersected lane mask. -/
def execWidthReq (p mask : Nat) (s : State) : Host.Outcome State Fault Refusal :=
  happenM s (inst p 6) (fun m d => widthReq m d p mask)

/-- WIDTH_ACK (R317): A received WIDTH_ACK fixes the narrowed width, and unacknowledged frames are resent. -/
def execWidthAck (p mask : Nat) (s : State) : Host.Outcome State Fault Refusal :=
  happenM s (inst p 6) (fun m d => widthAck m d p mask)

/-- STABILITY_HOLD_END (R318): A retrained STANDBY lane stays locked for 1 ms, and a rejoin is requested. -/
def execStabilityHoldEnd (lane : Nat) (s : State) : Host.Outcome State Fault Refusal :=
  happen s (inst lane 16) (fun d => stabilityHoldEnd d lane)

/-- REJOIN_REQ (R318): A received REJOIN_REQ is answered with REJOIN_ACK. -/
def execRejoinReq (p mask : Nat) (s : State) : Host.Outcome State Fault Refusal :=
  happen s (inst p 6) (fun d => rejoinReq d p mask)

/-- REJOIN_ACK (R318): A received REJOIN_ACK widens the port at the next frame boundary. -/
def execRejoinAck (p mask : Nat) (s : State) : Host.Outcome State Fault Refusal :=
  happen s (inst p 6) (fun d => rejoinAck d p mask)

/-- LOOP_ENTER (R333): LANE_CMD LOOP_ENTER puts a lane into PRBS loopback and clears its PRBS counters. -/
def execLoopEnter (r : Req) (lane : Nat) (s : State) : Host.Outcome State Fault Refusal :=
  send s r (inst lane 16) (K.LANE_CMD lane) 1 1 (fun d => loopEnter d lane)

/-- LOOP_EXIT (R333): LANE_CMD LOOP_EXIT returns a lane to DETECT or DISABLED. -/
def execLoopExit (r : Req) (lane : Nat) (s : State) : Host.Outcome State Fault Refusal :=
  send s r (inst lane 16) (K.LANE_CMD lane) 1 2 (fun d => loopExit d lane)

/-- EYE_START (R332): LANE_CMD EYE_START begins an eye scan. -/
def execEyeStart (r : Req) (lane : Nat) (s : State) : Host.Outcome State Fault Refusal :=
  send s r (inst lane 16) (K.LANE_CMD lane) 1 3 (fun d => eyeStart d lane)

/-- EYE_ABORT (R332): LANE_CMD EYE_ABORT ends an eye scan. -/
def execEyeAbort (r : Req) (lane : Nat) (s : State) : Host.Outcome State Fault Refusal :=
  send s r (inst lane 16) (K.LANE_CMD lane) 1 4 (fun d => eyeAbort d lane)

/-- INJECT (R334): LANE_CMD INJECT inverts one transmitted PRBS bit. -/
def execInject (r : Req) (lane : Nat) (s : State) : Host.Outcome State Fault Refusal :=
  send s r (inst lane 16) (K.LANE_CMD lane) 1 5 (fun d => injectCmd d lane)

/-- EYE_POINT_DONE (R332): An eye scan point completes its dwell, and the scan steps outward or ends in DONE. -/
def execEyePointDone (lane mismatches : Nat) (s : State) : Host.Outcome State Fault Refusal :=
  happen s (inst lane 16) (fun d => eyePointDone d lane mismatches)

/-- PERIODIC_INJECT (R334): INJ_PERIOD bits pass, and one bit is inverted. -/
def execPeriodicInject (lane : Nat) (s : State) : Host.Outcome State Fault Refusal :=
  happen s (inst lane 16) (fun d => periodicInject d lane)

/-- LANE_LOCK (R318): A lane's receiver gains block lock and deskew, moving the port on from LOCK to EXCHANGE or a
retraining lane to STANDBY. -/
def execLaneLock (lane : Nat) (s : State) : Host.Outcome State Fault Refusal :=
  happen s (inst lane 16) (fun d => laneLock d lane)

/-- PRBS_CHECKER_LOCK (R334): In LOOP the PRBS checker locks after 128 consecutive correct bits, or resynchronises
when more than 512 bits of a 1,024-bit window are in error. -/
def execPrbsCheckerLock (lane : Nat) (locked : Bool) (s : State) : Host.Outcome State Fault Refusal :=
  happen s (inst lane 16) (fun d => prbsLock d lane locked)

end Sys2Proof.Machine
end

