-- ==== Sys2Proof/Machine/OvermanCommands.lean ====
section
/-! DEFINITION. Clusters, graphs and streams (R212 to R238): the meaning of each command, over the named operations. -/

namespace Sys2Proof.Machine

/-- CLUSTER_OFFLINE (R214): CLUSTER_CMD OFFLINE removes a cluster from dispatch unless a RUNNING graph's mask includes
it. -/
def execClusterOffline (r : Req) (k : Nat) (s : State) : Host.Outcome State Fault Refusal :=
  send s r (inst k 4) (K.CLUSTER_CMD k) 1 1 (fun d => clusterOffline d k)

/-- CLUSTER_ONLINE (R214): CLUSTER_CMD ONLINE lets a cluster's Colliers join dispatch and stealing. -/
def execClusterOnline (r : Req) (k : Nat) (s : State) : Host.Outcome State Fault Refusal :=
  send s r (inst k 4) (K.CLUSTER_CMD k) 1 2 (fun d => clusterOnline d k)

/-- GRAPH_START (R226): GRAPH_CMD START checks a graph, binds its inputs and reserves its resources. -/
def execGraphStart (r : Req) (g : Nat) (s : State) : Host.Outcome State Fault Refusal :=
  sendM s r (inst g 64) (K.GRAPH_CMD g) 1 1 (fun m d => (graphStart m d g).map (m, ·))

/-- GRAPH_STOP (R225): GRAPH_CMD STOP discards the graph's work, unbinds its inputs and releases its reservations. -/
def execGraphStop (r : Req) (g : Nat) (s : State) : Host.Outcome State Fault Refusal :=
  send s r (inst g 64) (K.GRAPH_CMD g) 1 2 (fun d => graphStop d g)

/-- GRAPH_DRAIN (R225): GRAPH_CMD DRAIN stops new instances; the graph becomes DONE when the last open instance is
released. -/
def execGraphDrain (r : Req) (g : Nat) (s : State) : Host.Outcome State Fault Refusal :=
  send s r (inst g 64) (K.GRAPH_CMD g) 1 3 (fun d => graphDrain d g)

/-- INPUT_RECORD (R218): A record or packet taken from a graph input queue joins a parcel of its flow's instance, with
admission to the ordered class. -/
def execInputRecord (g k : Nat) (s : State) : Host.Outcome State Fault Refusal :=
  happen s (inst g 64 && inst k 4) (fun d => d.inputRecord g k)

/-- PARCEL_WAIT_EXPIRY (R218): PARCEL_WAIT after a parcel's first record expires, and the parcel closes. -/
def execParcelWaitExpiry (g inst : Nat) (s : State) : Host.Outcome State Fault Refusal :=
  happen s (decide (g < 64)) (fun d => d.parcelWait g inst)

/-- OPERATION_DISPATCH (R231): A free Collier takes the oldest eligible operation, urgent first, or steals one. -/
def execOperationDispatch (c : Nat) (s : State) : Host.Outcome State Fault Refusal :=
  happen s (inst c 16) (fun d => d.dispatch c)

/-- OPERATION_COMPLETE (R228): An operation ends and emits its items; a complete head instance is released. -/
def execOperationComplete (c ecc : Nat) (trap : Bool) (kernel : List (List Nat)) (s : State) : Host.Outcome State Fault Refusal :=
  happenM s (inst c 16) (fun m d => opComplete m d c ecc trap kernel)

/-- ITEM_WRITE (R228): An item is written to an output queue once back-pressure allows. -/
def execItemWrite (g : Nat) (s : State) : Host.Outcome State Fault Refusal :=
  happen s (inst g 64) (fun d => d.itemWrite g)

/-- OP_TIMEOUT (R234): An operation runs longer than OP_TIMEOUT, and its graph aborts. -/
def execOpTimeout (c : Nat) (s : State) : Host.Outcome State Fault Refusal :=
  happenM s (inst c 16) (fun m d => opTimeout m d c)

/-- AGE_PROMOTION (R232): A normal operation that has been ready for AGE_LIMIT is promoted to urgent. -/
def execAgePromotion (op : Nat) (s : State) : Host.Outcome State Fault Refusal :=
  onDev s (fun _ d => d.agePromote op)

/-- STREAM_BIND (R237): STREAM_CMD BIND binds a result stream to a Tarn queue. -/
def execStreamBind (r : Req) (x : Nat) (s : State) : Host.Outcome State Fault Refusal :=
  send s r (inst x 32) (K.STREAM_CMD x) 1 1 (fun d => streamBind d x)

/-- STREAM_UNBIND (R237): STREAM_CMD UNBIND releases a result stream. -/
def execStreamUnbind (r : Req) (x : Nat) (s : State) : Host.Outcome State Fault Refusal :=
  send s r (inst x 32) (K.STREAM_CMD x) 1 2 (fun d => streamUnbind d x)

end Sys2Proof.Machine
end

