-- ==== Sys2Proof/Machine/PowerCommands.lean ====
section
/-! DEFINITION. Power domains, shedding, rails, supply sequences, SPI and clocks (R376 to R390): the meaning of each command, over the named operations. -/

namespace Sys2Proof.Machine

/-- PD_ON (R378): PD_CMD ON queues a power domain for a limited-inrush ramp, including PLL lock where the domain has
one. -/
def execPdOn (r : Req) (d : Nat) (s : State) : Host.Outcome State Fault Refusal :=
  taken s r (.dictWrite r (0x0500 + d) 1 1 1) 2 (0x0500 + d) 1 (fun s =>
    onDev s (fun _ x => if inst d 52 then pdOn x r d else x.refuse r 2 (0x0500 + d) 1 .noObject))

/-- PD_OFF (R379): PD_CMD OFF switches a domain off unless it is in use, which loses the domain's hardware state. -/
def execPdOff (r : Req) (d : Nat) (s : State) : Host.Outcome State Fault Refusal :=
  sendM s r (inst d 52) (K.PD_CMD d) 1 2 (fun m x => pdOff m x d)

/-- DOMAIN_RAMP_DONE (R378): A ramping domain reaches regulation and PLL lock, becomes ON, and its ON is acknowledged.
-/
def execDomainRampDone (d : Nat) (s : State) : Host.Outcome State Fault Refusal :=
  happenM s (inst d 52) (fun m x => domainRampDone m x d)

/-- DOMAIN_RAMP (R378): A domain not ON within PD_RAMP_LIMIT returns to OFF and raises the DOMAIN_RAMP fault. -/
def execDomainRamp (d : Nat) (s : State) : Host.Outcome State Fault Refusal :=
  happenM s (inst d 52) (fun m x => domainRamp m x d)

/-- RAIL_CROSSING (R380): A comparator monitor reports that a rail has crossed one of the SHED_THR levels. -/
def execRailCrossing (rail level : Nat) (below : Bool) (s : State) : Host.Outcome State Fault Refusal :=
  happen s (inst rail 8 && inst level 5) (fun d => railCrossing d rail level below)

/-- PWR_WARN_N_CHANGE (R383): The PWR_WARN_N input changes, which starts or ends a demand for PWN_LEVEL. -/
def execPwrWarnNChange (low : Bool) (s : State) : Host.Outcome State Fault Refusal :=
  onDev s (fun _ d => pwrWarn d low)

/-- SHED_LEVEL_RISE (R383): A demand that has lasted SHED_FILTER raises SHED_LEVEL at once, and every level's hardware
actions apply. -/
def execShedLevelRise (s : State) : Host.Outcome State Fault Refusal :=
  onMemDev s shedRise

/-- SHED_LEVEL_FALL (R383): After the demand has stayed below for 1 ms, SHED_LEVEL 1 or 2 falls, and SHED_OFF domains
are switched back on. -/
def execShedLevelFall (s : State) : Host.Outcome State Fault Refusal :=
  onDev s (fun _ d => shedFall d)

/-- ADC_CMD (R381): Requests one conversion of each selected monitor ADC channel. -/
def execAdcCmd (r : Req) (mask : Nat) (s : State) : Host.Outcome State Fault Refusal :=
  send s r (true) (K.ADC_CMD) 2 mask (fun d => adcCmd d mask)

/-- ADC_CONVERTED (R381): A 1 µs conversion completes, and its code is stored in ADC_VALUEk. -/
def execAdcConverted (code : Nat) (s : State) : Host.Outcome State Fault Refusal :=
  onDev s (fun _ d => adcConverted d code)

/-- RAIL_ON (R387): RAIL_CMD ON switches a PMBus rail on. -/
def execRailOn (r : Req) (rail : Nat) (s : State) : Host.Outcome State Fault Refusal :=
  taken s r (.dictWrite r (0x0550 + rail) 2 1 1) 2 (0x0550 + rail) 2 (fun s =>
    onDev s (fun _ d => if inst rail 32 then railCmd d r rail 1 else d.refuse r 2 (0x0550 + rail) 2 .noObject))

/-- RAIL_OFF (R387): RAIL_CMD OFF switches a PMBus rail off. -/
def execRailOff (r : Req) (rail : Nat) (s : State) : Host.Outcome State Fault Refusal :=
  taken s r (.dictWrite r (0x0550 + rail) 2 1 2) 2 (0x0550 + rail) 2 (fun s =>
    onDev s (fun _ d => if inst rail 32 then railCmd d r rail 2 else d.refuse r 2 (0x0550 + rail) 2 .noObject))

/-- RAIL_READ (R387): RAIL_CMD READ reads VOUT, IOUT and STATUS_WORD of a rail. -/
def execRailRead (r : Req) (rail : Nat) (s : State) : Host.Outcome State Fault Refusal :=
  taken s r (.dictWrite r (0x0550 + rail) 2 1 3) 2 (0x0550 + rail) 2 (fun s =>
    onDev s (fun _ d => if inst rail 32 then railCmd d r rail 3 else d.refuse r 2 (0x0550 + rail) 2 .noObject))

/-- RAIL_MV_WRITE (R387): A RAIL_MV write is sent as VOUT_COMMAND at once if the rail is ON, and otherwise at its next
ON. -/
def execRailMvWrite (r : Req) (rail mv : Nat) (s : State) : Host.Outcome State Fault Refusal :=
  send s r (inst rail 32) (K.RAIL_MV rail) 2 mv (fun d => railMv d rail mv)

/-- PMBUS_TRANSACTION_DONE (R387): A PMBus transaction completes; one not acknowledged is retried, and after 3 tries
it raises PMBUS_NACK. -/
def execPmbusTransactionDone (m : Nat) (acked linear16 : Bool) (vout iout status : Nat) (s : State) : Host.Outcome State Fault Refusal :=
  happenM s (inst m 2) (fun mem d => pmbDone mem d m acked linear16 vout iout status)

/-- PMB_ALERT (R387): An SMBALERT assertion makes the master read STATUS_WORD of every enabled rail and fault those
that are not 0. -/
def execPmbAlert (m : Nat) (s : State) : Host.Outcome State Fault Refusal :=
  happen s (inst m 2) (fun d => pmbAlert d m)

/-- SSQ_RUN (R388): SSQ_CMD RUN starts a DUT supply sequence at step 0. -/
def execSsqRun (r : Req) (q : Nat) (s : State) : Host.Outcome State Fault Refusal :=
  send s r (inst q 16) (K.SSQ_CMD q) 1 1 (fun d => ssqRun d q)

/-- SSQ_STEP_DONE (R388): A supply sequence step completes and the next step begins; END or the last step ends the run
in DONE. -/
def execSsqStepDone (q : Nat) (s : State) : Host.Outcome State Fault Refusal :=
  happen s (inst q 16) (fun d => ssqStepDone d q)

/-- WAIT_US_EXPIRY (R388): The delay of a WAIT_US step expires. -/
def execWaitUsExpiry (q : Nat) (s : State) : Host.Outcome State Fault Refusal :=
  happen s (inst q 16) (fun d => waitUsExpiry d q)

/-- WAIT_BELOW_POLL (R388): Every 100 µs a WAIT_BELOW step reads READ_VOUT and ends once the value is below ARG; after
100 ms the run is ABORTED with DUT_SUPPLY. -/
def execWaitBelowPoll (q mv : Nat) (expired : Bool) (s : State) : Host.Outcome State Fault Refusal :=
  happenM s (inst q 16) (fun m d => waitBelowPoll m d q mv expired)

/-- SPI_XFER (R390): A write of SPI_XFER performs one SPI transfer on the port. -/
def execSpiXfer (r : Req) (p value rx : Nat) (s : State) : Host.Outcome State Fault Refusal :=
  sendAs s r (.spiXfer r p value rx) (inst p 8) (K.SPI_XFER p) 8 value (fun d => spiXfer d p value rx)

/-- WL_RUN (R390): WL_CMD RUN, or a TRIG_IN edge with TRIG_EN, starts a SPI write list. -/
def execWlRun (r : Req) (w : Nat) (s : State) : Host.Outcome State Fault Refusal :=
  send s r (inst w 16) (K.WL_CMD w) 1 1 (fun d => wlRun d w)

/-- WL_ENTRY_DONE (R390): A write list entry and its GAP complete, and the next entry is sent; LEN 0 ends the list in
DONE. -/
def execWlEntryDone (w rx : Nat) (s : State) : Host.Outcome State Fault Refusal :=
  happen s (inst w 16) (fun d => wlEntryDone d w rx)

/-- REFCLK_LOST (R376): A REFCLK stopped for 8 periods, or loss of lock of the core or always-on PLL, raises the class
K fault and stops TB1. -/
def execRefclkLost (s : State) : Host.Outcome State Fault Refusal :=
  onMemDev s refclkLost

/-- PLL_UNLOCK (R108): A shaft PLL loses lock, and every sequencer using the shaft is aborted. -/
def execPllUnlock (k : Nat) (s : State) : Host.Outcome State Fault Refusal :=
  happenM s (inst k 4) (fun m d => pllUnlock m d k)

/-- PLL_LOCK (R107): A shaft or always-on PLL reaches lock, and PLL_STATE becomes LOCKED. -/
def execPllLock (k : Nat) (s : State) : Host.Outcome State Fault Refusal :=
  happen s (inst k 5) (fun d => pllLock d k)

end Sys2Proof.Machine
end

