-- ==== Sys2Proof/Machine/SequencerCommands.lean ====
section
/-! DEFINITION. Sequencers, vector positions, sites, triggers, the decompressor and refill (R21 to R101, R157 to R163): the meaning of each command, over the named operations. -/

namespace Sys2Proof.Machine

/-- SEQ_ARM (R101): SEQ_CMD ARM runs the arm checks, fixes RL, admits the budget, reserves resources and prefetches.
-/
def execSeqArm (r : Req) (n : Nat) (s : State) : Host.Outcome State Fault Refusal :=
  taken s r (.dictWrite r (0x1200 + n) 1 1 1) 2 (0x1200 + n) 1 (fun s => onMemDev s
    (fun m d => if inst n 64 then serveN m d r (K.SEQ_CMD n) 1 1 (fun d => d.budgetNote m n) (fun m d => seqArm m d n) else (m, d.refuse r 2 (0x1200 + n) 1 .noObject)))

/-- SEQ_DISARM (R72): SEQ_CMD DISARM releases an ARMED sequencer's reservations. -/
def execSeqDisarm (r : Req) (n : Nat) (s : State) : Host.Outcome State Fault Refusal :=
  sendM s r (inst n 64) (K.SEQ_CMD n) 1 2 (fun m d => seqDisarm m d n)

/-- SEQ_START (R74): SEQ_CMD START fixes the start instant on TB1 from START_AT. -/
def execSeqStart (r : Req) (n : Nat) (s : State) : Host.Outcome State Fault Refusal :=
  send s r (inst n 64) (K.SEQ_CMD n) 1 3 (fun d => seqStart d n)

/-- SEQ_PAUSE (R75): SEQ_CMD PAUSE makes issue stop at the end of the next eligible iteration, followed by a drain. -/
def execSeqPause (r : Req) (n : Nat) (s : State) : Host.Outcome State Fault Refusal :=
  send s r (inst n 64) (K.SEQ_CMD n) 1 4 (fun d => seqPause d n)

/-- SEQ_RESUME (R75): SEQ_CMD RESUME fixes a resume instant, at which issue continues with the committed successor. -/
def execSeqResume (r : Req) (n : Nat) (s : State) : Host.Outcome State Fault Refusal :=
  send s r (inst n 64) (K.SEQ_CMD n) 1 5 (fun d => seqResume d n)

/-- SEQ_STOP (R76): SEQ_CMD STOP ends issue at the next granule boundary, parks the channels and drains. -/
def execSeqStop (r : Req) (n : Nat) (s : State) : Host.Outcome State Fault Refusal :=
  sendM s r (inst n 64) (K.SEQ_CMD n) 1 6 (fun m d => seqStopCmd m d n)

/-- SEQ_JUMP (R84): SEQ_CMD JUMP makes a host jump request that arrives at the next granule boundary. -/
def execSeqJump (r : Req) (n : Nat) (s : State) : Host.Outcome State Fault Refusal :=
  send s r (inst n 64) (K.SEQ_CMD n) 1 7 (fun d => seqJump d n)

/-- START_INSTANT (R73): At the start or resume tick the sequencer issues VP 0, clears its state and makes its enabled
sites ACTIVE. -/
def execStartInstant (n : Nat) (s : State) : Host.Outcome State Fault Refusal :=
  happenM s (inst n 64) (fun m d => startTick m d n)

/-- TRIG_IN_EDGE (R84): A rising or falling edge on a TRIG_IN line reaches the ball, as a start, jump, trigger or
write-list source. -/
def execTrigInEdge (line : Nat) (rising : Bool) (s : State) : Host.Outcome State Fault Refusal :=
  happen s (inst line 8) (fun d => d.trigEdge line rising)

/-- JUMP_REQUEST_ARRIVAL (R84): A jump request arrives at its granule boundary and becomes pending, or is merged, or
on a fast-resolve segment starts a dead time. -/
def execJumpRequestArrival (n : Nat) (s : State) : Host.Outcome State Fault Refusal :=
  happenM s (inst n 64) (fun m d => jumpArrival m d n)

/-- VP_ISSUE (R21): The period generators start a vector, and its codes are driven, timed and strobed on every gang
channel. -/
def execVpIssue (n : Nat) (samples : List Sample) (s : State) : Host.Outcome State Fault Refusal :=
  happenM s (inst n 64) (fun m d => vpIssued m d n samples)

/-- HOLD_END (R80): A dead time of 32 VP, an exhaustion hold or a fence hold of RL VP expires, and issue continues
with the successor. -/
def execHoldEnd (n : Nat) (s : State) : Host.Outcome State Fault Refusal :=
  happenM s (inst n 64) (fun m d => holdEnd m d n)

/-- VP_RETIRE (R158): The result of the VP issued RL VP earlier retires: it is squashed or accounted per site, records
are made, and policies apply. -/
def execVpRetire (n : Nat) (late : List Nat) (s : State) : Host.Outcome State Fault Refusal :=
  happenM s (inst n 64) (fun m d => vpRetire m d n late)

/-- SITE_PARK (R91): SITE_CMD PARK parks the site at the next granule boundary and starts its SUPPLY_SEQ. -/
def execSitePark (r : Req) (m : Nat) (s : State) : Host.Outcome State Fault Refusal :=
  sendM s r (inst m 128) (K.SITE_CMD m) 1 1 (fun mem d => siteCommand mem d m 1)

/-- SITE_MASK (R91): SITE_CMD MASK makes an ACTIVE site MASKED at the next granule boundary. -/
def execSiteMask (r : Req) (m : Nat) (s : State) : Host.Outcome State Fault Refusal :=
  sendM s r (inst m 128) (K.SITE_CMD m) 1 2 (fun mem d => siteCommand mem d m 2)

/-- TRIG_OUT_END (R99): The width of a TRIG_OUT pulse expires, and the line falls unless a later pulse holds it. -/
def execTrigOutEnd (line : Nat) (s : State) : Host.Outcome State Fault Refusal :=
  happen s (inst line 8) (fun d => d.trigOutEnd line)

/-- LIT (R31): The decompressor expands a literal block of 512 code bits. -/
def execLit (n seam ecc : Nat) (s : State) : Host.Outcome State Fault Refusal :=
  happenDev s (inst n 64 && inst seam 16) (fun m d => expand m d n seam 0 ecc)

/-- REP (R31): The decompressor repeats the previous block of the slice. -/
def execRep (n seam ecc : Nat) (s : State) : Host.Outcome State Fault Refusal :=
  happenDev s (inst n 64 && inst seam 16) (fun m d => expand m d n seam 1 ecc)

/-- DICT (R36): The decompressor fetches dictionary entry INDEX from the Lode and expands it. -/
def execDict (n seam ecc : Nat) (s : State) : Host.Outcome State Fault Refusal :=
  happenDev s (inst n 64 && inst seam 16) (fun m d => expand m d n seam 2 ecc)

/-- DELTA (R31): The decompressor replaces the codes of the masked positions and keeps the previous block's other
codes. -/
def execDelta (n seam ecc : Nat) (s : State) : Host.Outcome State Fault Refusal :=
  happenDev s (inst n 64 && inst seam 16) (fun m d => expand m d n seam 3 ecc)

/-- SCAN (R31): The decompressor selects code pair members per bit for the masked positions. -/
def execScan (n seam ecc : Nat) (s : State) : Host.Outcome State Fault Refusal :=
  happenDev s (inst n 64 && inst seam 16) (fun m d => expand m d n seam 4 ecc)

/-- RUN (R31): The decompressor repeats the previous block for N granules. -/
def execRun (n seam ecc : Nat) (s : State) : Host.Outcome State Fault Refusal :=
  happenDev s (inst n 64 && inst seam 16) (fun m d => expand m d n seam 5 ecc)

/-- REFILL_LINES (R48): DDR4 lines arrive in a refill window, raising its fill, and panic is released at PANIC + 64.
-/
def execRefillLines (n w ecc : Nat) (s : State) : Host.Outcome State Fault Refusal :=
  happenM s (inst n 64 && inst w 16) (fun m d => refill m d n w ecc)

/-- TBUS_EDGE (R184): An open-drain TBUS line changes level at its ball, giving an Assay trigger event or level
change. -/
def execTbusEdge (line : Nat) (asserted : Bool) (s : State) : Host.Outcome State Fault Refusal :=
  happen s (inst line 8) (fun d => d.tbusEdge line asserted)

end Sys2Proof.Machine
end

