-- ==== Sys2Proof/Machine/TimeCommands.lean ====
section
/-! DEFINITION. Time bases, time frames, marks and alarms (R336 to R352): the meaning of each command, over the named operations. -/

namespace Sys2Proof.Machine

/-- TB_INIT (R341): TB_CMD INIT sets a time base to INIT_VALUE, or arms it for stepping by the link. -/
def execTbInit (r : Req) (b : Nat) (s : State) : Host.Outcome State Fault Refusal :=
  send s r (decide (b = 0 ∨ b = 2 ∨ b = 3)) (K.TB_CMD b) 1 1 (fun d => tbInit d b)

/-- TB_STOP (R341): TB_CMD STOP ends exchanges for a time base; it keeps counting at the present RATE. -/
def execTbStop (r : Req) (b : Nat) (s : State) : Host.Outcome State Fault Refusal :=
  send s r (decide (b = 0 ∨ b = 2 ∨ b = 3)) (K.TB_CMD b) 1 2 (fun d => tbStop d b)

/-- RATE_WRITE (R341): Sets a time base's rate adjustment from the next Wellhead clock. -/
def execRateWrite (r : Req) (b value : Nat) (s : State) : Host.Outcome State Fault Refusal :=
  send s r (decide (b = 0 ∨ b = 2 ∨ b = 3)) (K.RATE b) 8 value (fun d => rateWrite d b value)

/-- SYNC (R342): A received SYNC is stamped t2 in each base of its domain and forwarded with a residence record. -/
def execSync (m : TimeMsg) (s : State) : Host.Outcome State Fault Refusal :=
  onDev s (fun _ d => sync d m)

/-- FOLLOW_UP (R342): A received FOLLOW_UP gives t1 and c1, may send a DELAY_REQ, completes an exchange and runs the
servo. -/
def execFollowUp (m : TimeMsg) (s : State) : Host.Outcome State Fault Refusal :=
  onDev s (fun _ d => followUp d m)

/-- DELAY_REQ (R346): A DELAY_REQ from downstream is forwarded towards the master with a residence record. -/
def execDelayReq (m : TimeMsg) (s : State) : Host.Outcome State Fault Refusal :=
  onDev s (fun _ d => delayReq d m)

/-- DELAY_RESP (R344): A received DELAY_RESP gives t4 and c2, updates the mean path delay, and on the first exchange
steps the base. -/
def execDelayResp (m : TimeMsg) (s : State) : Host.Outcome State Fault Refusal :=
  onDev s (fun _ d => delayResp d m)

/-- MARK (R349): A received MARK is stamped and recorded in RX_MARK. -/
def execMark (port : Nat) (fr : Frame) (raw eg : Int) (s : State) : Host.Outcome State Fault Refusal :=
  happen s (inst port 2) (fun d => mark d ⟨port, fr, raw, eg⟩)

/-- TS_MARK (R349): Sends a MARK on a port and queues its egress stamp. -/
def execTsMark (r : Req) (value : Nat) (eg : Int) (s : State) : Host.Outcome State Fault Refusal :=
  sendAs s r (.tsMark r value eg) (true) (K.TS_MARK) 4 value (fun d => tsMark d value eg)

/-- TSQ_POP (R349): Removes the oldest entry of the timestamp queue. -/
def execTsqPop (r : Req) (value : Nat) (s : State) : Host.Outcome State Fault Refusal :=
  send s r (true) (K.TSQ_POP) 1 value (fun d => tsqPop d value)

/-- ALM_ARM (R351): ALM_CMD ARM arms an alarm slot for its first match time. -/
def execAlmArm (r : Req) (x : Nat) (s : State) : Host.Outcome State Fault Refusal :=
  send s r (inst x 32) (K.ALM_CMD x) 1 1 (fun d => almArm d x)

/-- ALM_DISARM (R351): ALM_CMD DISARM returns an alarm slot to STOPPED. -/
def execAlmDisarm (r : Req) (x : Nat) (s : State) : Host.Outcome State Fault Refusal :=
  send s r (inst x 32) (K.ALM_CMD x) 1 2 (fun d => almDisarm d x)

/-- ALARM_FIRING (R351): The base reaches a match time, the slot fires, and it takes its actions and sets the
sequencer flags. -/
def execAlarmFiring (x : Nat) (s : State) : Host.Outcome State Fault Refusal :=
  happen s (inst x 32) (fun d => alarmFiring d x)

end Sys2Proof.Machine
end

