-- ==== Sys2Proof/Machine/TimingCommands.lean ====
section
/-! DEFINITION. Timing sets, spares, TMUs, epochs and bonding frames (R94 to R98, R112 to R133, R325): the meaning of each command, over the named operations. -/

namespace Sys2Proof.Machine

/-- TSET_SEAL (R124): Seals shadow timing sets for the next hand-over, or hands them over at once while the sequencer
is stopped. -/
def execTsetSeal (r : Req) (n mask : Nat) (s : State) : Host.Outcome State Fault Refusal :=
  send s r (inst n 64) (K.TSET_SEAL n) 4 mask (fun d => tsetSealCmd d n mask)

/-- SPE_TARGET_WRITE (R133): Maps or unmaps a spare channel engine; the signal path switches at the next start of the
owning sequencer. -/
def execSpeTargetWrite (r : Req) (k value : Nat) (s : State) : Host.Outcome State Fault Refusal :=
  send s r (inst k 8) (K.SPE_TARGET k) 1 value (fun d => speTarget d k value)

/-- TMU_START (R128): TMU_CMD START begins a measurement run. -/
def execTmuStart (r : Req) (k : Nat) (s : State) : Host.Outcome State Fault Refusal :=
  send s r (inst k 4) (K.TMU_CMD k) 1 1 (fun d => tmuStartCmd d k)

/-- TMU_ABORT (R127): TMU_CMD ABORT ends a measurement run. -/
def execTmuAbort (r : Req) (k : Nat) (s : State) : Host.Outcome State Fault Refusal :=
  send s r (inst k 4) (K.TMU_CMD k) 1 2 (fun d => d.tmuAbort k)

/-- TMU_SAMPLE (R128): A stop event after a start event completes one interval; after TMU_SAMPLES samples the run is
DONE. -/
def execTmuSample (k interval : Nat) (s : State) : Host.Outcome State Fault Refusal :=
  happen s (inst k 4) (fun d => d.tmuSampled k interval)

/-- TMU_TIMEOUT (R128): TMU_TIMEOUT elapses first, and the run ends ABORTED with figures over the samples taken. -/
def execTmuTimeout (k : Nat) (s : State) : Host.Outcome State Fault Refusal :=
  happen s (inst k 4) (fun d => d.tmuTimedOut k)

/-- ARM_EPOCH (R130): SYNC_CMD ARM_EPOCH sets SYNC_STATE EPOCH_ARMED. -/
def execArmEpoch (r : Req) (s : State) : Host.Outcome State Fault Refusal :=
  send s r (true) (K.SYNC_CMD) 1 1 (fun d => armEpoch d)

/-- CANCEL_EPOCH (R129): SYNC_CMD CANCEL_EPOCH withdraws an armed epoch. -/
def execCancelEpoch (r : Req) (s : State) : Host.Outcome State Fault Refusal :=
  send s r (true) (K.SYNC_CMD) 1 2 (fun d => cancelEpoch d)

/-- SYNC_IN_EPOCH (R130): SYNC_IN is sampled high after being low: in EPOCH_ARMED it zeroes TB1 and aligns the
generators, and otherwise the pulse is counted as ignored. -/
def execSyncInEpoch (s : State) : Host.Outcome State Fault Refusal :=
  onDev s (fun _ d => syncInEpoch d)

/-- GAL_TIMED (R325): A GAL_TIMED frame is delivered exactly 128 ns after sending, carrying bond values, stop notices,
skew markers or epoch counts, and is relayed onward. -/
def execGalTimed (p hops : Nat) (fr : Frame) (f : GalTimed) (s : State) : Host.Outcome State Fault Refusal :=
  happenM s (inst p 4) (fun m d => galTimed m d p hops fr f)

/-- GAL_SEQ (R325): A GAL_SEQ frame delivers member states, membership, a start instant or a second stop notice, and
is relayed onward. -/
def execGalSeq (p : Nat) (r : Relayed) (f : GalSeq) (s : State) : Host.Outcome State Fault Refusal :=
  happenM s (inst p 4) (fun m d => galSeq m d p r.hops r.frame f)

end Sys2Proof.Machine
end

