-- ==== Sys2Proof/Machine/Transact.lean ====
section
/-! DEFINITION. Transactions and frames (R287 to R295, R312 to R324): the meaning of each command, over the named operations. -/

namespace Sys2Proof.Machine

/-- DICT_READ (R289): A read request for one object is checked and answered with the object's value. -/
def execDictRead (r : Req) (index sub : Nat) (s : State) : Host.Outcome State Fault Refusal :=
  taken s r (.dictRead r index sub) 1 index sub (fun s => onDev s (fun m d => dictRead m d r index sub))

/-- DICT_WRITE (R278): A write request to an object that has no row of its own is checked in order and applied, or
refused with an abort. -/
def execDictWrite (r : Req) (index sub len value : Nat) (s : State) : Host.Outcome State Fault Refusal :=
  taken s r (.dictWrite r index sub len value) 2 index sub (fun s => onAll s (fun f m d => dictWrite f m d r index sub len value))

/-- OPEN_WRITE (R293): Opens a write transfer to a DOMAIN object with a given total length. -/
def execOpenWrite (r : Req) (index sub total : Nat) (s : State) : Host.Outcome State Fault Refusal :=
  taken s r (.openWrite r index sub total) 3 index sub (fun s => onMemDev s (fun m d => block m d r (openWrite m d r index sub total))) 1

/-- OPEN_READ (R293): Opens a read transfer of a DOMAIN object and grants the smaller of the requested and available
length. -/
def execOpenRead (r : Req) (index sub len : Nat) (s : State) : Host.Outcome State Fault Refusal :=
  taken s r (.openRead r index sub len) 3 index sub (fun s => onMemDev s (fun m d => block m d r (openRead m d r index sub len))) 2

/-- DATA (R293): Carries one segment of an open transfer at the next offset; a write segment is stored and checked, a
read segment is returned. -/
def execData (r : Req) (index sub offset len : Nat) (payload : List Byte) (s : State) : Host.Outcome State Fault Refusal :=
  taken s r (.data r index sub offset len payload) 3 index sub
    (fun s => onMemDev s (fun m d => block m d r (blockData m d r index sub offset len payload))) 3

/-- CLOSE (R293): Ends a transfer; a write takes effect here with the object's end-of-load checks, and a read removes
the items it handed out. -/
def execClose (r : Req) (index sub : Nat) (s : State) : Host.Outcome State Fault Refusal :=
  taken s r (.close r index sub) 3 index sub (fun s => onLoad s (fun f m d => block m d r (blockClose f m d r index sub))) 4

/-- CANCEL (R292): Abandons an open transfer, leaving the object as its chapter states for an incomplete load. -/
def execCancel (r : Req) (index sub : Nat) (s : State) : Host.Outcome State Fault Refusal :=
  taken s r (.cancel r index sub) 3 index sub (fun s => onMemDev s (fun m d => block m d r (blockCancelled m d r index sub))) 5

/-- BLOCK_TIMEOUT (R293): A transfer that has received no request for 1 s is cancelled and counted in BLOCK_TIMEOUTS.
-/
def execBlockTimeout (index sub : Nat) (s : State) : Host.Outcome State Fault Refusal :=
  onMemDev s (fun m d => blockTimeout m d index sub)

/-- BULK_WRITE (R323): A BULK WRITE from the adapter writes a segment into DDR4 after the state, range and stream-
protection checks. -/
def execBulkWrite (r : Req) (addr : Nat) (posted : Bool) (payload : List Byte) (s : State) : Host.Outcome State Fault Refusal :=
  taken s { r with bcast := r.bcast || posted } (.bulkWrite r addr posted payload) 6 0 0
    (fun s => onMemDev s (fun m d => bulkWrite m d r addr posted payload))

/-- BULK_READ (R323): A BULK READ from the adapter returns READ_LEN bytes of DDR4. -/
def execBulkRead (r : Req) (addr len : Nat) (s : State) : Host.Outcome State Fault Refusal :=
  taken s r (.bulkRead r addr len) 6 0 0 (fun s => onMemDev s (fun m d => bulkRead m d r addr len))

/-- ENUM_CLEAR (R321): Every node sets NODE_ID to 0 and forwards the request downstream. -/
def execEnumClear (r : Req) (s : State) : Host.Outcome State Fault Refusal :=
  taken s r (.enumClear r) 7 0 0 (fun s => happen s (inst r.port 2) (fun d => enumClear d r))

/-- ENUM_ASSIGN (R321): An unassigned node takes NEXT_ID, responds with its identity and forwards NEXT_ID + 1; an
assigned node forwards the request unchanged. -/
def execEnumAssign (r : Req) (nextId : Nat) (s : State) : Host.Outcome State Fault Refusal :=
  taken s r (.enumAssign r nextId) 7 0 0 (fun s => happen s (inst r.port 2) (fun d => enumAssign d r nextId))

/-- TRANS_FRAME_RECEIVED (R320): A sequenced frame carrying a transaction is accepted in order, then taken, forwarded
or discarded according to DST; a faulty request that was held is refused in its turn (R289). -/
def execTransFrameReceived (port : Nat) (f : Frame) (s : State) : Host.Outcome State Fault Refusal :=
  if s.dev.turn then .next { s with dev := ({ s.dev with turn := false } : Dev).frameRefused port f }
  else happen s (inst port 6) (fun d => transFrame d port f)

/-- FRAME_FORWARD (R320): A frame to be forwarded leaves on the onward port, cut-through or store-and-forward, and is
discarded if that port is not ACTIVE. -/
def execFrameForward (port : Nat) (s : State) : Host.Outcome State Fault Refusal :=
  happen s (inst port 6) (fun d => frameForward d port)

/-- ACK_ONLY (R315): A received acknowledgement frees acknowledged frames from the replay buffer; a received NAK makes
the sender resend every frame after ACK. -/
def execAckOnly (port : Nat) (f : Frame) (s : State) : Host.Outcome State Fault Refusal :=
  happenM s (inst port 6) (fun m d => ctrlFrame m d port f)

/-- REPLAY_TIMEOUT (R315): When the oldest unacknowledged frame has waited 20 µs, every frame after ACK is resent; the
eighth consecutive resend starts a RETRAIN. -/
def execReplayTimeout (port : Nat) (s : State) : Host.Outcome State Fault Refusal :=
  happen s (inst port 6) (fun d => replayTimeout d port)

/-- PAUSE_ON (R316): At link version 1.x, a received PAUSE_ON stops new non-response TRANS frames. -/
def execPauseOn (port : Nat) (s : State) : Host.Outcome State Fault Refusal :=
  happen s (inst port 6) (fun d => pause d port true)

/-- PAUSE_OFF (R316): At link version 1.x, a received PAUSE_OFF lets TRANS frames resume. -/
def execPauseOff (port : Nat) (s : State) : Host.Outcome State Fault Refusal :=
  happen s (inst port 6) (fun d => pause d port false)

/-- NOTICE_SEND (R411): A NOTICE waiting in the notice buffer is sent towards its target once the port is ACTIVE, has
credit and NODE_ID is not 0. -/
def execNoticeSend (s : State) : Host.Outcome State Fault Refusal :=
  onDev s (fun _ d => noticeSend d)

end Sys2Proof.Machine
end

