-- ==== Sys2Proof/Machine/WinderCommands.lean ====
section
/-! DEFINITION. The Winder (R355 to R372): the meaning of each command, over the named operations. -/

namespace Sys2Proof.Machine

/-- WND_RUN (R364): WND_CMD RUN starts the foreground routine named by WND_ROUTINE after its preconditions pass. -/
def execWndRun (r : Req) (s : State) : Host.Outcome State Fault Refusal :=
  send s r (true) (K.WND_CMD) 1 1 (fun d => wndRun d)

/-- WND_ABORT (R360): WND_CMD ABORT registers an interrupt request that the routine takes at its next SAFE point. -/
def execWndAbort (r : Req) (s : State) : Host.Outcome State Fault Refusal :=
  sendM s r (true) (K.WND_CMD) 1 2 (fun m d => wndAbort m d)

/-- SAFE_POINT (R360): At a SAFE point the Winder runs a pending SHED_SEQ pass, takes a pending interrupt, runs other
service passes, then resumes. -/
def execSafePoint (s : State) : Host.Outcome State Fault Refusal :=
  onMemDev s safePoint

/-- WINDER_HANG (R358): 1 ms passes without a SAFE point, and the class K fault WINDER_HANG is raised. -/
def execWinderHang (s : State) : Host.Outcome State Fault Refusal :=
  onMemDev s winderHang

/-- THERM_TRACK_DUE (R363): THERM_PERIOD expires, and a THERM_TRACK pass becomes pending. -/
def execThermTrackDue (s : State) : Host.Outcome State Fault Refusal :=
  onDev s (fun _ d => thermTrackDue d)

/-- THERM_TRACK (R371): A service pass reads the shaft sensors and moves each THERM_ADJ one step towards its target.
-/
def execThermTrack (temps : List Nat) (s : State) : Host.Outcome State Fault Refusal :=
  onDev s (fun _ d => thermTrack d temps)

/-- LANE_ADAPT (R308): A service pass adapts one lane's receiver and requests changes to the partner's transmit FIR.
-/
def execLaneAdapt (lane preReq postReq presetReq : Nat) (s : State) : Host.Outcome State Fault Refusal :=
  happen s (inst lane 16) (fun d => laneAdapt d lane preReq postReq presetReq)

/-- SHED_SEQ (R384): A service pass takes the Winder actions of a new shed level: domain switch-offs and the supply
ramp-down. -/
def execShedSeq (s : State) : Host.Outcome State Fault Refusal :=
  onMemDev s shedSeqDue

/-- MICRO_NEXT (R356): The micro-word executes its nano-word and continues at the next address. -/
def execMicroNext (ecc : Nat) (s : State) : Host.Outcome State Fault Refusal :=
  onMemDev s (fun m d => microNext m d ecc)

/-- MICRO_JMP (R356): The micro-word continues at its target. -/
def execMicroJmp (ecc : Nat) (s : State) : Host.Outcome State Fault Refusal :=
  onMemDev s (fun m d => microJmp m d ecc)

/-- MICRO_JCC (R356): The micro-word continues at its target if the selected condition holds. -/
def execMicroJcc (ecc : Nat) (s : State) : Host.Outcome State Fault Refusal :=
  onMemDev s (fun m d => microJcc m d ecc)

/-- MICRO_CALL (R357): The micro-word pushes the return address and jumps; with 8 entries already on the stack it acts
as TRAP. -/
def execMicroCall (ecc : Nat) (s : State) : Host.Outcome State Fault Refusal :=
  onMemDev s (fun m d => microCall m d ecc)

/-- MICRO_RET (R357): The micro-word continues at the popped address; with an empty stack it acts as TRAP. -/
def execMicroRet (ecc : Nat) (s : State) : Host.Outcome State Fault Refusal :=
  onMemDev s (fun m d => microRet m d ecc)

/-- MICRO_SAFE (R358): The micro-word marks a SAFE point, or the commit point, and sets the reported STEP. -/
def execMicroSafe (ecc : Nat) (s : State) : Host.Outcome State Fault Refusal :=
  onMemDev s (fun m d => microSafe m d ecc)

/-- MICRO_WAITE (R356): The micro-word waits for a wait source up to a limit, acting as a SAFE point every 50 µs. -/
def execMicroWaite (ecc : Nat) (done : Bool) (s : State) : Host.Outcome State Fault Refusal :=
  onMemDev s (fun m d => microWaite m d ecc done)

/-- MICRO_LOOP (R356): The micro-word decrements the loop counter and branches while it is not 0. -/
def execMicroLoop (ecc : Nat) (s : State) : Host.Outcome State Fault Refusal :=
  onMemDev s (fun m d => microLoop m d ecc)

/-- MICRO_HALT (R364): The routine ends; after its checks it enters DONE, or FAILED before the commit point. -/
def execMicroHalt (ecc : Nat) (s : State) : Host.Outcome State Fault Refusal :=
  onMemDev s (fun m d => microHalt m d ecc)

/-- MICRO_TRAP (R362): A trap unwinds the routine before the commit point, and halts it with WINDER_TRAP after the
commit point. -/
def execMicroTrap (ecc : Nat) (s : State) : Host.Outcome State Fault Refusal :=
  onMemDev s (fun m d => microTrap m d ecc)

end Sys2Proof.Machine
end

