-- ==== Sys2Proof/Machine/Dispatch.lean ====
section
/-! DEFINITION. Dispatch: one arm per command, each a direct call of its meaning. -/

namespace Sys2Proof.Machine

def exec (i : Instr) (s : State) : Host.Outcome State Fault Refusal :=
  match i with
  | .dictRead r index sub => Sys2Proof.Machine.execDictRead r index sub s
  | .dictWrite r index sub len value => Sys2Proof.Machine.execDictWrite r index sub len value s
  | .openWrite r index sub total => Sys2Proof.Machine.execOpenWrite r index sub total s
  | .openRead r index sub len => Sys2Proof.Machine.execOpenRead r index sub len s
  | .data r index sub offset len payload => Sys2Proof.Machine.execData r index sub offset len payload s
  | .close r index sub => Sys2Proof.Machine.execClose r index sub s
  | .cancel r index sub => Sys2Proof.Machine.execCancel r index sub s
  | .blockTimeout index sub => Sys2Proof.Machine.execBlockTimeout index sub s
  | .bulkWrite r addr posted payload => Sys2Proof.Machine.execBulkWrite r addr posted payload s
  | .bulkRead r addr len => Sys2Proof.Machine.execBulkRead r addr len s
  | .enumClear r => Sys2Proof.Machine.execEnumClear r s
  | .enumAssign r nextId => Sys2Proof.Machine.execEnumAssign r nextId s
  | .transFrameReceived port f => Sys2Proof.Machine.execTransFrameReceived port f s
  | .frameForward port => Sys2Proof.Machine.execFrameForward port s
  | .ackOnly port f => Sys2Proof.Machine.execAckOnly port f s
  | .replayTimeout port => Sys2Proof.Machine.execReplayTimeout port s
  | .pauseOn port => Sys2Proof.Machine.execPauseOn port s
  | .pauseOff port => Sys2Proof.Machine.execPauseOff port s
  | .noticeSend => Sys2Proof.Machine.execNoticeSend s
  | .chipEnable r => Sys2Proof.Machine.execChipEnable r s
  | .chipDisable r => Sys2Proof.Machine.execChipDisable r s
  | .serviceEnter r => Sys2Proof.Machine.execServiceEnter r s
  | .serviceExit r => Sys2Proof.Machine.execServiceExit r s
  | .resetNAssert => Sys2Proof.Machine.execResetNAssert s
  | .resetNRelease bootMode => Sys2Proof.Machine.execResetNRelease bootMode s
  | .reboot r => Sys2Proof.Machine.execReboot r s
  | .commitRollback r => Sys2Proof.Machine.execCommitRollback r s
  | .flashBoot => Sys2Proof.Machine.execFlashBoot s
  | .flashProgrammed => Sys2Proof.Machine.execFlashProgrammed s
  | .pdOn r d => Sys2Proof.Machine.execPdOn r d s
  | .pdOff r d => Sys2Proof.Machine.execPdOff r d s
  | .domainRampDone d => Sys2Proof.Machine.execDomainRampDone d s
  | .domainRamp d => Sys2Proof.Machine.execDomainRamp d s
  | .railCrossing rail level below => Sys2Proof.Machine.execRailCrossing rail level below s
  | .pwrWarnNChange low => Sys2Proof.Machine.execPwrWarnNChange low s
  | .shedLevelRise => Sys2Proof.Machine.execShedLevelRise s
  | .shedLevelFall => Sys2Proof.Machine.execShedLevelFall s
  | .adcCmd r mask => Sys2Proof.Machine.execAdcCmd r mask s
  | .adcConverted code => Sys2Proof.Machine.execAdcConverted code s
  | .railOn r rail => Sys2Proof.Machine.execRailOn r rail s
  | .railOff r rail => Sys2Proof.Machine.execRailOff r rail s
  | .railRead r rail => Sys2Proof.Machine.execRailRead r rail s
  | .railMvWrite r rail mv => Sys2Proof.Machine.execRailMvWrite r rail mv s
  | .pmbusTransactionDone m acked linear16 vout iout status => Sys2Proof.Machine.execPmbusTransactionDone m acked linear16 vout iout status s
  | .pmbAlert m => Sys2Proof.Machine.execPmbAlert m s
  | .ssqRun r q => Sys2Proof.Machine.execSsqRun r q s
  | .ssqStepDone q => Sys2Proof.Machine.execSsqStepDone q s
  | .waitUsExpiry q => Sys2Proof.Machine.execWaitUsExpiry q s
  | .waitBelowPoll q mv expired => Sys2Proof.Machine.execWaitBelowPoll q mv expired s
  | .spiXfer r p value rx => Sys2Proof.Machine.execSpiXfer r p value rx s
  | .wlRun r w => Sys2Proof.Machine.execWlRun r w s
  | .wlEntryDone w rx => Sys2Proof.Machine.execWlEntryDone w rx s
  | .refclkLost => Sys2Proof.Machine.execRefclkLost s
  | .pllUnlock k => Sys2Proof.Machine.execPllUnlock k s
  | .pllLock k => Sys2Proof.Machine.execPllLock k s
  | .faultClear r value reads => Sys2Proof.Machine.execFaultClear r value reads s
  | .flogClear r => Sys2Proof.Machine.execFlogClear r s
  | .canaryToggle => Sys2Proof.Machine.execCanaryToggle s
  | .wdtExpiry => Sys2Proof.Machine.execWdtExpiry s
  | .hfRestartDone => Sys2Proof.Machine.execHfRestartDone s
  | .wndRun r => Sys2Proof.Machine.execWndRun r s
  | .wndAbort r => Sys2Proof.Machine.execWndAbort r s
  | .safePoint => Sys2Proof.Machine.execSafePoint s
  | .winderHang => Sys2Proof.Machine.execWinderHang s
  | .thermTrackDue => Sys2Proof.Machine.execThermTrackDue s
  | .thermTrack temps => Sys2Proof.Machine.execThermTrack temps s
  | .laneAdapt lane preReq postReq presetReq => Sys2Proof.Machine.execLaneAdapt lane preReq postReq presetReq s
  | .shedSeq => Sys2Proof.Machine.execShedSeq s
  | .microNext ecc => Sys2Proof.Machine.execMicroNext ecc s
  | .microJmp ecc => Sys2Proof.Machine.execMicroJmp ecc s
  | .microJcc ecc => Sys2Proof.Machine.execMicroJcc ecc s
  | .microCall ecc => Sys2Proof.Machine.execMicroCall ecc s
  | .microRet ecc => Sys2Proof.Machine.execMicroRet ecc s
  | .microSafe ecc => Sys2Proof.Machine.execMicroSafe ecc s
  | .microWaite ecc done => Sys2Proof.Machine.execMicroWaite ecc done s
  | .microLoop ecc => Sys2Proof.Machine.execMicroLoop ecc s
  | .microHalt ecc => Sys2Proof.Machine.execMicroHalt ecc s
  | .microTrap ecc => Sys2Proof.Machine.execMicroTrap ecc s
  | .seqArm r n => Sys2Proof.Machine.execSeqArm r n s
  | .seqDisarm r n => Sys2Proof.Machine.execSeqDisarm r n s
  | .seqStart r n => Sys2Proof.Machine.execSeqStart r n s
  | .seqPause r n => Sys2Proof.Machine.execSeqPause r n s
  | .seqResume r n => Sys2Proof.Machine.execSeqResume r n s
  | .seqStop r n => Sys2Proof.Machine.execSeqStop r n s
  | .seqJump r n => Sys2Proof.Machine.execSeqJump r n s
  | .startInstant n => Sys2Proof.Machine.execStartInstant n s
  | .trigInEdge line rising => Sys2Proof.Machine.execTrigInEdge line rising s
  | .jumpRequestArrival n => Sys2Proof.Machine.execJumpRequestArrival n s
  | .vpIssue n samples => Sys2Proof.Machine.execVpIssue n samples s
  | .holdEnd n => Sys2Proof.Machine.execHoldEnd n s
  | .vpRetire n late => Sys2Proof.Machine.execVpRetire n late s
  | .sitePark r m => Sys2Proof.Machine.execSitePark r m s
  | .siteMask r m => Sys2Proof.Machine.execSiteMask r m s
  | .trigOutEnd line => Sys2Proof.Machine.execTrigOutEnd line s
  | .lit n seam ecc => Sys2Proof.Machine.execLit n seam ecc s
  | .rep n seam ecc => Sys2Proof.Machine.execRep n seam ecc s
  | .dict n seam ecc => Sys2Proof.Machine.execDict n seam ecc s
  | .delta n seam ecc => Sys2Proof.Machine.execDelta n seam ecc s
  | .scan n seam ecc => Sys2Proof.Machine.execScan n seam ecc s
  | .run n seam ecc => Sys2Proof.Machine.execRun n seam ecc s
  | .refillLines n w ecc => Sys2Proof.Machine.execRefillLines n w ecc s
  | .tsetSeal r n mask => Sys2Proof.Machine.execTsetSeal r n mask s
  | .speTargetWrite r k value => Sys2Proof.Machine.execSpeTargetWrite r k value s
  | .tmuStart r k => Sys2Proof.Machine.execTmuStart r k s
  | .tmuAbort r k => Sys2Proof.Machine.execTmuAbort r k s
  | .tmuSample k interval => Sys2Proof.Machine.execTmuSample k interval s
  | .tmuTimeout k => Sys2Proof.Machine.execTmuTimeout k s
  | .armEpoch r => Sys2Proof.Machine.execArmEpoch r s
  | .cancelEpoch r => Sys2Proof.Machine.execCancelEpoch r s
  | .syncInEpoch => Sys2Proof.Machine.execSyncInEpoch s
  | .galTimed p hops fr f => Sys2Proof.Machine.execGalTimed p hops fr f s
  | .galSeq p r f => Sys2Proof.Machine.execGalSeq p r f s
  | .nop h => Sys2Proof.Machine.execNop h s
  | .halt h => Sys2Proof.Machine.execHalt h s
  | .jmp h => Sys2Proof.Machine.execJmp h s
  | .jfs h => Sys2Proof.Machine.execJfs h s
  | .jfc h => Sys2Proof.Machine.execJfc h s
  | .loop h => Sys2Proof.Machine.execLoop h s
  | .call h => Sys2Proof.Machine.execCall h s
  | .ret h => Sys2Proof.Machine.execRet h s
  | .ldi h => Sys2Proof.Machine.execLdi h s
  | .ldbl h => Sys2Proof.Machine.execLdbl h s
  | .ldbh h => Sys2Proof.Machine.execLdbh h s
  | .addi h => Sys2Proof.Machine.execAddi h s
  | .mov h => Sys2Proof.Machine.execMov h s
  | .swapbg h => Sys2Proof.Machine.execSwapbg h s
  | .notbg h => Sys2Proof.Machine.execNotbg h s
  | .setf h => Sys2Proof.Machine.execSetf h s
  | .clrf h => Sys2Proof.Machine.execClrf h s
  | .jrz h => Sys2Proof.Machine.execJrz h s
  | .jrnz h => Sys2Proof.Machine.execJrnz h s
  | .jlt h => Sys2Proof.Machine.execJlt h s
  | .swxy h => Sys2Proof.Machine.execSwxy h s
  | .wseg h => Sys2Proof.Machine.execWseg h s
  | .asyArm r u => Sys2Proof.Machine.execAsyArm r u s
  | .asyDisarm r u => Sys2Proof.Machine.execAsyDisarm r u s
  | .force r u => Sys2Proof.Machine.execForce r u s
  | .rearmEnd u => Sys2Proof.Machine.execRearmEnd u s
  | .eviction u bytes ecc => Sys2Proof.Machine.execEviction u bytes ecc s
  | .dwsStart r d => Sys2Proof.Machine.execDwsStart r d s
  | .dwsAbort r d => Sys2Proof.Machine.execDwsAbort r d s
  | .dwsStepSeal d => Sys2Proof.Machine.execDwsStepSeal d s
  | .clusterOffline r k => Sys2Proof.Machine.execClusterOffline r k s
  | .clusterOnline r k => Sys2Proof.Machine.execClusterOnline r k s
  | .graphStart r g => Sys2Proof.Machine.execGraphStart r g s
  | .graphStop r g => Sys2Proof.Machine.execGraphStop r g s
  | .graphDrain r g => Sys2Proof.Machine.execGraphDrain r g s
  | .inputRecord g k => Sys2Proof.Machine.execInputRecord g k s
  | .parcelWaitExpiry g inst => Sys2Proof.Machine.execParcelWaitExpiry g inst s
  | .operationDispatch c => Sys2Proof.Machine.execOperationDispatch c s
  | .operationComplete c ecc trap kernel => Sys2Proof.Machine.execOperationComplete c ecc trap kernel s
  | .itemWrite g => Sys2Proof.Machine.execItemWrite g s
  | .opTimeout c => Sys2Proof.Machine.execOpTimeout c s
  | .agePromotion op => Sys2Proof.Machine.execAgePromotion op s
  | .streamBind r x => Sys2Proof.Machine.execStreamBind r x s
  | .streamUnbind r x => Sys2Proof.Machine.execStreamUnbind r x s
  | .qEnable r q => Sys2Proof.Machine.execQEnable r q s
  | .qDisable r q => Sys2Proof.Machine.execQDisable r q s
  | .qFlush r q => Sys2Proof.Machine.execQFlush r q s
  | .qPop r q => Sys2Proof.Machine.execQPop r q s
  | .qPush r q value => Sys2Proof.Machine.execQPush r q value s
  | .qPushEnd r q value => Sys2Proof.Machine.execQPushEnd r q value s
  | .qWeirWrite r q value => Sys2Proof.Machine.execQWeirWrite r q value s
  | .stagingDeliver k => Sys2Proof.Machine.execStagingDeliver k s
  | .startEndAdmit k => Sys2Proof.Machine.execStartEndAdmit k s
  | .sumpBind r x => Sys2Proof.Machine.execSumpBind r x s
  | .sumpUnbind r x => Sys2Proof.Machine.execSumpUnbind r x s
  | .sumpDrain x => Sys2Proof.Machine.execSumpDrain x s
  | .sumpRdWrite r x value => Sys2Proof.Machine.execSumpRdWrite r x value s
  | .tramStart r c => Sys2Proof.Machine.execTramStart r c s
  | .tramRestart r c => Sys2Proof.Machine.execTramRestart r c s
  | .tramAbort r c => Sys2Proof.Machine.execTramAbort r c s
  | .descFetch c => Sys2Proof.Machine.execDescFetch c s
  | .descComplete c eccAt host hostAbort => Sys2Proof.Machine.execDescComplete c eccAt host hostAbort s
  | .ddrInit r => Sys2Proof.Machine.execDdrInit r s
  | .srEnter r => Sys2Proof.Machine.execSrEnter r s
  | .srExit r => Sys2Proof.Machine.execSrExit r s
  | .release r => Sys2Proof.Machine.execRelease r s
  | .burstAdmit c port => Sys2Proof.Machine.execBurstAdmit c port s
  | .burstIssue c ecc => Sys2Proof.Machine.execBurstIssue c ecc s
  | .portAgeExpiry c port => Sys2Proof.Machine.execPortAgeExpiry c port s
  | .trefiTick c rank => Sys2Proof.Machine.execTrefiTick c rank s
  | .refIssue c rank => Sys2Proof.Machine.execRefIssue c rank s
  | .scrubIntervalExpiry c ecc => Sys2Proof.Machine.execScrubIntervalExpiry c ecc s
  | .alertN c replays recovered => Sys2Proof.Machine.execAlertN c replays recovered s
  | .portEnable r p => Sys2Proof.Machine.execPortEnable r p s
  | .portDisable r p => Sys2Proof.Machine.execPortDisable r p s
  | .portRetrain r p => Sys2Proof.Machine.execPortRetrain r p s
  | .receiverDetect p lanes => Sys2Proof.Machine.execReceiverDetect p lanes s
  | .trainingFrame lane word => Sys2Proof.Machine.execTrainingFrame lane word s
  | .stageTimeout p => Sys2Proof.Machine.execStageTimeout p s
  | .backoffExpiry p => Sys2Proof.Machine.execBackoffExpiry p s
  | .capabilitiesFrame p c => Sys2Proof.Machine.execCapabilitiesFrame p c s
  | .blockLockLost lane => Sys2Proof.Machine.execBlockLockLost lane s
  | .widthReq p mask => Sys2Proof.Machine.execWidthReq p mask s
  | .widthAck p mask => Sys2Proof.Machine.execWidthAck p mask s
  | .stabilityHoldEnd lane => Sys2Proof.Machine.execStabilityHoldEnd lane s
  | .rejoinReq p mask => Sys2Proof.Machine.execRejoinReq p mask s
  | .rejoinAck p mask => Sys2Proof.Machine.execRejoinAck p mask s
  | .loopEnter r lane => Sys2Proof.Machine.execLoopEnter r lane s
  | .loopExit r lane => Sys2Proof.Machine.execLoopExit r lane s
  | .eyeStart r lane => Sys2Proof.Machine.execEyeStart r lane s
  | .eyeAbort r lane => Sys2Proof.Machine.execEyeAbort r lane s
  | .inject r lane => Sys2Proof.Machine.execInject r lane s
  | .eyePointDone lane mismatches => Sys2Proof.Machine.execEyePointDone lane mismatches s
  | .periodicInject lane => Sys2Proof.Machine.execPeriodicInject lane s
  | .tbInit r b => Sys2Proof.Machine.execTbInit r b s
  | .tbStop r b => Sys2Proof.Machine.execTbStop r b s
  | .rateWrite r b value => Sys2Proof.Machine.execRateWrite r b value s
  | .sync m => Sys2Proof.Machine.execSync m s
  | .followUp m => Sys2Proof.Machine.execFollowUp m s
  | .delayReq m => Sys2Proof.Machine.execDelayReq m s
  | .delayResp m => Sys2Proof.Machine.execDelayResp m s
  | .mark port fr raw eg => Sys2Proof.Machine.execMark port fr raw eg s
  | .tsMark r value eg => Sys2Proof.Machine.execTsMark r value eg s
  | .tsqPop r value => Sys2Proof.Machine.execTsqPop r value s
  | .almArm r x => Sys2Proof.Machine.execAlmArm r x s
  | .almDisarm r x => Sys2Proof.Machine.execAlmDisarm r x s
  | .alarmFiring x => Sys2Proof.Machine.execAlarmFiring x s
  | .bistStart r => Sys2Proof.Machine.execBistStart r s
  | .bistAbort r => Sys2Proof.Machine.execBistAbort r s
  | .bypass => Sys2Proof.Machine.execBypass s
  | .idcode => Sys2Proof.Machine.execIdcode s
  | .samplePreload cells => Sys2Proof.Machine.execSamplePreload cells s
  | .extest => Sys2Proof.Machine.execExtest s
  | .extestPulse => Sys2Proof.Machine.execExtestPulse s
  | .extestTrain => Sys2Proof.Machine.execExtestTrain s
  | .clamp => Sys2Proof.Machine.execClamp s
  | .highz => Sys2Proof.Machine.execHighz s
  | .laneLock lane => Sys2Proof.Machine.execLaneLock lane s
  | .tbusEdge line asserted => Sys2Proof.Machine.execTbusEdge line asserted s
  | .prbsCheckerLock lane locked => Sys2Proof.Machine.execPrbsCheckerLock lane locked s

end Sys2Proof.Machine
end

