-- ==== Sys2Proof/Machine/Tick.lean ====
section
/-! DEFINITION. What passes while no command waits: one Wellhead clock of 2.5 ns (log entry 3). -/

namespace Sys2Proof.Machine

/-- A disciplined base advances by 2.5 ns × (1 + RATE × 2^-40), kept in units of 2^-41 ns (R337). -/
def Dev.baseTick (d : Dev) (b : Nat) : Dev :=
  { d with tbs := Table.put d.tbs b (Table.at d.tbs 0 b + 5 * (2 ^ 40 + toSigned 64 (d.get (K.RATE b))).toNat) }

/-- A base at a Wellhead clock: a waiting step is applied, and the base advances unless it is set to a value (R341, R345). -/
def Dev.baseClock (d : Dev) (b : Nat) : Dev :=
  match (d.exchOf b).jump with
  | none => d.baseTick b
  | some j => if j.1 then d.stepNow b j else (d.stepNow b j).baseTick b

/-- TB1 counts a REFCLK tick every fourth Wellhead clock, and stops while REFCLK is lost (R336, R376). -/
def Dev.tb1Tick (d : Dev) : Dev :=
  if d.pwr.refLost then d
  else if d.tb1Sub = 3 then { d with tb1 := (d.tb1 + 1) % 2 ^ 64, tb1Sub := 0 } else { d with tb1Sub := d.tb1Sub + 1 }

/-- One Wellhead clock; none passes while RESET_N is low. Service passes that waited for a SAFE point of a routine that has ended run
now (R359). -/
def Dev.tick (d : Dev) : Dev :=
  if d.pwr.resetLow then d
  else
    let e := (((d.baseClock 0).baseClock 2).baseClock 3).tb1Tick
    let e := ({ e with clk := e.clk + 1 } : Dev).capsAgain.linkAgain
    if e.get K.WND_STATE = 2 ∨ (e.wnd.therm = none ∧ e.wnd.adapts = []) then e else e.wndService

end Sys2Proof.Machine
end

