-- ==== Sys2Proof/Machine/Step.lean ====
section
/-! DEFINITION. One step of the block: the command at the front of the queue, or on an empty queue a held request or a Wellhead clock. -/

namespace Sys2Proof.Machine

/-- Take the command at the front and run it with the queue's rest; with none waiting, the block serves a request it held
whose turn has come (R289; log entry 34), or one Wellhead clock passes (log entry 3). -/
def step (s : State) : Host.Outcome State Fault Refusal :=
  match s.pending with
  | [] => match s.dev.takeHeld with
    | some (c, d) => exec c { s with dev := d }
    | none => .next { s with dev := s.dev.tick }
  | c :: rest => exec c { s with pending := rest }

/-- The state with the command a word spells in front of its queue; unchanged where it spells none. -/
def State.withFetchWord (s : State) (nbits w : Nat) : State :=
  match decodeTableWord nbits w with
  | some c => { s with pending := c :: s.pending }
  | none => s

end Sys2Proof.Machine
end

