-- ==== Sys2Proof/Safety.lean ====
section
/-! DEFINITION. What holds of the block whatever it is commanded: the byte store keeps its one canonical form, and the
rollback fuses only rise (R395). -/

namespace Sys2Proof.Machine

/-- The invariant of every step: the memories are in canonical form. -/
def State.Inv (s : State) : Prop := Memory.wf s.mem = true

/-- What no step undoes: the rollback fuse never falls, and no key is revoked or restored. -/
def Fuses.le (a b : Fuses) : Prop := a.rollback ≤ b.rollback ∧ a.revoked = b.revoked

/-- A step leads to a next state: the block never stops. -/
def Runs (s : State) : Prop := ∃ t, step s = .next t

/-! The vocabulary of the statements about commands. -/

/-- The chip is out of reset: RESET_N is high (R375). -/
def State.up (s : State) : Prop := s.dev.pwr.resetLow = false

/-- A request of a port is served as it comes (R289): the chip is out of reset, and no request of that port waits. -/
def State.ready (s : State) (r : Req) : Prop := s.up ∧ s.dev.turn = false ∧ s.dev.outstanding r.port = 0

/-- Nothing but a command itself writes a queue: it has no Weir, and no event is delivered to a queue (R247, R410). -/
def Dev.quiet (d : Dev) (q : Nat) : Prop :=
  d.get (K.Q_WEIR q) = 0 ∧ ∀ e, e < 320 → bits (d.get (K.EVT_ROUTE e)) 14 2 ≠ 2

/-- A DICT_WRITE of `len` bytes of value `v` to an object is served as it comes, behind no write it must follow (R12), and
passes the checks of R278 that come before the object's own. -/
def State.admits (s : State) (r : Req) (key len v : Nat) : Prop :=
  s.ready r ∧ s.dev.behind (.dictWrite r (key / 256) (key % 256) len v) = false ∧
    s.dev.preWrite (key / 256) (key % 256) len v = none

/-- The state with another device: memories, fuses and waiting commands as they were. -/
def State.withDev (s : State) (d : Dev) : State := { s with dev := d }

/-- The state with other memories and another device: fuses and waiting commands as they were. -/
def State.withBoth (s : State) (p : Memory × Dev) : State := { s with mem := p.1, dev := p.2 }

/-- After an accepted DICT_WRITE of an object: the device `d` it made, then the response (R287). -/
def State.answer (s : State) (r : Req) (key : Nat) (d : Dev) : State :=
  s.withDev (d.respond r 2 (key / 256) (key % 256) [])

/-- As `answer`, of a write that reached a memory. -/
def State.answerBoth (s : State) (r : Req) (key : Nat) (p : Memory × Dev) : State :=
  s.withBoth (p.1, p.2.respond r 2 (key / 256) (key % 256) [])

/-- After a refused DICT_WRITE of an object (R279, R281). -/
def State.refusal (s : State) (r : Req) (key : Nat) (a : Abort) : State :=
  s.withDev (s.dev.refuse r 2 (key / 256) (key % 256) a)

/-- The commands a chip held in reset takes: its reset pin and its boundary-scan port (R375, R424). -/
def takenInReset : Instr → Bool
  | .resetNAssert | .resetNRelease _ | .bypass | .idcode | .samplePreload _ | .extest | .extestPulse | .extestTrain | .clamp
  | .highz => true
  | _ => false

/-- The DICT_WRITE that a command of software is (R276): who sent it, the object's key, its length and its value. None for
an event, for a command whose operands carry what a transfer or a clear reads back besides (SPI_XFER, TS_MARK,
FAULT_CLEAR), and for an instance that does not exist. -/
def asWrite : Instr → Option (Req × Nat × Nat × Nat)
  | .chipEnable r => some (r, K.CHIP_CMD, 1, 1)
  | .chipDisable r => some (r, K.CHIP_CMD, 1, 2)
  | .serviceEnter r => some (r, K.CHIP_CMD, 1, 3)
  | .serviceExit r => some (r, K.CHIP_CMD, 1, 4)
  | .reboot r => some (r, K.BOOT_CMD, 1, 1)
  | .commitRollback r => some (r, K.BOOT_CMD, 1, 2)
  | .flogClear r => some (r, K.FLOG_CMD, 1, 1)
  | .bistStart r => some (r, K.BIST_CMD, 1, 1)
  | .bistAbort r => some (r, K.BIST_CMD, 1, 2)
  | .pdOn r d => if d < 52 then some (r, K.PD_CMD d, 1, 1) else none
  | .pdOff r d => if d < 52 then some (r, K.PD_CMD d, 1, 2) else none
  | .adcCmd r v => some (r, K.ADC_CMD, 2, v)
  | .railOn r k => if k < 32 then some (r, K.RAIL_CMD k, 1, 1) else none
  | .railOff r k => if k < 32 then some (r, K.RAIL_CMD k, 1, 2) else none
  | .railRead r k => if k < 32 then some (r, K.RAIL_CMD k, 1, 3) else none
  | .railMvWrite r k v => if k < 32 then some (r, K.RAIL_MV k, 2, v) else none
  | .ssqRun r q => if q < 16 then some (r, K.SSQ_CMD q, 1, 1) else none
  | .wlRun r w => if w < 16 then some (r, K.WL_CMD w, 1, 1) else none
  | .wndRun r => some (r, K.WND_CMD, 1, 1)
  | .wndAbort r => some (r, K.WND_CMD, 1, 2)
  | .seqArm r n => if n < 64 then some (r, K.SEQ_CMD n, 1, 1) else none
  | .seqDisarm r n => if n < 64 then some (r, K.SEQ_CMD n, 1, 2) else none
  | .seqStart r n => if n < 64 then some (r, K.SEQ_CMD n, 1, 3) else none
  | .seqPause r n => if n < 64 then some (r, K.SEQ_CMD n, 1, 4) else none
  | .seqResume r n => if n < 64 then some (r, K.SEQ_CMD n, 1, 5) else none
  | .seqStop r n => if n < 64 then some (r, K.SEQ_CMD n, 1, 6) else none
  | .seqJump r n => if n < 64 then some (r, K.SEQ_CMD n, 1, 7) else none
  | .sitePark r m => if m < 128 then some (r, K.SITE_CMD m, 1, 1) else none
  | .siteMask r m => if m < 128 then some (r, K.SITE_CMD m, 1, 2) else none
  | .tsetSeal r n v => if n < 64 then some (r, K.TSET_SEAL n, 4, v) else none
  | .speTargetWrite r k v => if k < 8 then some (r, K.SPE_TARGET k, 1, v) else none
  | .tmuStart r k => if k < 4 then some (r, K.TMU_CMD k, 1, 1) else none
  | .tmuAbort r k => if k < 4 then some (r, K.TMU_CMD k, 1, 2) else none
  | .armEpoch r => some (r, K.SYNC_CMD, 1, 1)
  | .cancelEpoch r => some (r, K.SYNC_CMD, 1, 2)
  | .asyArm r u => if u < 16 then some (r, K.ASY_CMD u, 1, 1) else none
  | .asyDisarm r u => if u < 16 then some (r, K.ASY_CMD u, 1, 2) else none
  | .force r u => if u < 16 then some (r, K.ASY_CMD u, 1, 3) else none
  | .dwsStart r e => if e < 4 then some (r, K.DWS_CMD e, 1, 1) else none
  | .dwsAbort r e => if e < 4 then some (r, K.DWS_CMD e, 1, 2) else none
  | .clusterOffline r k => if k < 4 then some (r, K.CLUSTER_CMD k, 1, 1) else none
  | .clusterOnline r k => if k < 4 then some (r, K.CLUSTER_CMD k, 1, 2) else none
  | .graphStart r g => if g < 64 then some (r, K.GRAPH_CMD g, 1, 1) else none
  | .graphStop r g => if g < 64 then some (r, K.GRAPH_CMD g, 1, 2) else none
  | .graphDrain r g => if g < 64 then some (r, K.GRAPH_CMD g, 1, 3) else none
  | .streamBind r x => if x < 32 then some (r, K.STREAM_CMD x, 1, 1) else none
  | .streamUnbind r x => if x < 32 then some (r, K.STREAM_CMD x, 1, 2) else none
  | .qEnable r q => if q < 256 then some (r, K.Q_CMD q, 1, 1) else none
  | .qDisable r q => if q < 256 then some (r, K.Q_CMD q, 1, 2) else none
  | .qFlush r q => if q < 256 then some (r, K.Q_CMD q, 1, 3) else none
  | .qPush r q v => if q < 256 then some (r, K.Q_PUSH q, 8, v) else none
  | .qPushEnd r q v => if q < 256 then some (r, K.Q_PUSH_END q, 8, v) else none
  | .qWeirWrite r q v => if q < 256 then some (r, K.Q_WEIR q, 4, v) else none
  | .sumpBind r x => if x < 16 then some (r, K.SUMP_CMD x, 1, 1) else none
  | .sumpUnbind r x => if x < 16 then some (r, K.SUMP_CMD x, 1, 2) else none
  | .sumpRdWrite r x v => if x < 16 then some (r, K.SUMP_RD x, 8, v) else none
  | .tramStart r c => if c < 16 then some (r, K.TRAM_CMD c, 1, 1) else none
  | .tramRestart r c => if c < 16 then some (r, K.TRAM_CMD c, 1, 2) else none
  | .tramAbort r c => if c < 16 then some (r, K.TRAM_CMD c, 1, 3) else none
  | .ddrInit r => some (r, K.DDR_CMD, 1, 1)
  | .srEnter r => some (r, K.DDR_CMD, 1, 2)
  | .srExit r => some (r, K.DDR_CMD, 1, 3)
  | .release r => some (r, K.DDR_CMD, 1, 4)
  | .portEnable r p => if p < 6 then some (r, portKey p 1, 1, 1) else none
  | .portDisable r p => if p < 6 then some (r, portKey p 1, 1, 2) else none
  | .portRetrain r p => if p < 6 then some (r, portKey p 1, 1, 3) else none
  | .loopEnter r l => if l < 16 then some (r, K.LANE_CMD l, 1, 1) else none
  | .loopExit r l => if l < 16 then some (r, K.LANE_CMD l, 1, 2) else none
  | .eyeStart r l => if l < 16 then some (r, K.LANE_CMD l, 1, 3) else none
  | .eyeAbort r l => if l < 16 then some (r, K.LANE_CMD l, 1, 4) else none
  | .inject r l => if l < 16 then some (r, K.LANE_CMD l, 1, 5) else none
  | .tbInit r b => if b = 0 ∨ b = 2 ∨ b = 3 then some (r, K.TB_CMD b, 1, 1) else none
  | .tbStop r b => if b = 0 ∨ b = 2 ∨ b = 3 then some (r, K.TB_CMD b, 1, 2) else none
  | .rateWrite r b v => if b = 0 ∨ b = 2 ∨ b = 3 then some (r, K.RATE b, 8, v) else none
  | .tsqPop r v => some (r, K.TSQ_POP, 1, v)
  | .almArm r x => if x < 32 then some (r, K.ALM_CMD x, 1, 1) else none
  | .almDisarm r x => if x < 32 then some (r, K.ALM_CMD x, 1, 2) else none
  | _ => none

end Sys2Proof.Machine
end

