-- ==== Sys2Proof/Certificates/Slice0/Obligations.lean ====
section
/-! DEFINITION. The statements about the block: what its commands do, by the numbered rules of the spec. A clause of a statement
runs one command on a state that meets the conditions the rule gives, and names the next state or what it holds. -/

open Sys2Proof Sys2Proof.Machine

/-- R282: the four commands of CHIP_CMD. -/
def Obligations.ChipCommandsMoveTheChip : Prop :=
  ∀ (r : Req) (s : State),
    (s.admits r K.CHIP_CMD 1 1 → s.dev.get K.CHIP_STATE = 2 →
      exec (.chipEnable r) s = .next (s.answer r K.CHIP_CMD ((s.dev.set K.CHIP_STATE 3).bump K.STATE_CHANGES))) ∧
    (s.admits r K.CHIP_CMD 1 2 → s.dev.get K.CHIP_STATE = 3 → s.dev.activeFuncs = 0 →
      exec (.chipDisable r) s = .next (s.answer r K.CHIP_CMD ((s.dev.set K.CHIP_STATE 2).bump K.STATE_CHANGES))) ∧
    (s.admits r K.CHIP_CMD 1 3 → s.dev.get K.CHIP_STATE = 2 →
      exec (.serviceEnter r) s = .next (s.answer r K.CHIP_CMD ((s.dev.set K.CHIP_STATE 7).bump K.STATE_CHANGES))) ∧
    (s.admits r K.CHIP_CMD 1 4 → s.dev.get K.CHIP_STATE = 7 → s.dev.get K.BIST_STATE ≠ 2 → s.dev.get K.BIST_STATE ≠ 3 →
      exec (.serviceExit r) s = .next (s.answer r K.CHIP_CMD ((s.dev.set K.CHIP_STATE 2).bump K.STATE_CHANGES))) ∧
    (s.admits r K.CHIP_CMD 1 4 → s.dev.get K.CHIP_STATE = 7 → s.dev.get K.BIST_STATE ∈ [2, 3] →
      exec (.serviceExit r) s = .next (s.refusal r K.CHIP_CMD .state)) ∧
    (s.admits r K.CHIP_CMD 1 1 → s.dev.get K.CHIP_STATE ≠ 2 → exec (.chipEnable r) s = .next (s.refusal r K.CHIP_CMD .state)) ∧
    (s.admits r K.CHIP_CMD 1 2 → (s.dev.get K.CHIP_STATE ≠ 3 ∨ s.dev.activeFuncs ≠ 0) →
      exec (.chipDisable r) s = .next (s.refusal r K.CHIP_CMD .state)) ∧
    (s.admits r K.CHIP_CMD 1 3 → s.dev.get K.CHIP_STATE ≠ 2 → exec (.serviceEnter r) s = .next (s.refusal r K.CHIP_CMD .state)) ∧
    (s.admits r K.CHIP_CMD 1 4 → s.dev.get K.CHIP_STATE ≠ 7 → exec (.serviceExit r) s = .next (s.refusal r K.CHIP_CMD .state))

/-- R375: RESET_N low resets everything but the eFuses (the pins, the card's flash and the model's own counter and trace are
no part of the reset: log entry 10); its rising edge samples BOOT_MODE, which selects the boot path, and a boundary-scan
instruction of the reset state ends (R424). R375: REBOOT, in STOPPED, LOCKED, FAULT or SERVICE, keeps the eFuses, NODE_ID, the
upstream port with its lanes and the fault log ring, and resets the rest; the chip enters BOOT by the path of the BOOT_MODE
sampled before. -/
def Obligations.ResetsKeepWhatSurvives : Prop :=
  ((∀ s : State, ∃ m d, exec .resetNAssert s = .next (s.withBoth (m, d)) ∧ d.pwr.resetLow = true ∧ d.get K.CHIP_STATE = 0 ∧
      d.get K.RESET_CAUSE = 1 ∧ d.get K.ROLLBACK_FUSE = s.fuses.rollback ∧ d.get K.KEY_REVOKED = s.fuses.revoked ∧
      (∀ key, key ∉ [K.CHIP_STATE, K.FW_VERSION, K.IMAGE_ROLLBACK, K.ROLLBACK_FUSE, K.KEY_REVOKED] → d.get key = dfltOf key) ∧
      d = { objs := d.objs, fresh := s.dev.fresh, egress := s.dev.egress, wire := s.dev.wire, trigIn := s.dev.trigIn, tbus := s.dev.tbus, jtag := s.dev.jtag,
            pwr := { railLow := s.dev.pwr.railLow, pwrLow := s.dev.pwr.pwrLow, refLost := s.dev.pwr.refLost, alert := s.dev.pwr.alert,
                     bootMode := s.dev.pwr.bootMode, resetLow := true } } ∧
      (∀ a, Memory.look m a = if a / 2 ^ 64 = 8 then Memory.look s.mem a else unwritten a)) ∧
    (∀ (mode : Nat) (s : State), s.dev.pwr.resetLow = true → mode < 8 →
      let j := if 3 ≤ s.dev.jtag.instr then { s.dev.jtag with instr := 0, dr := 0 } else s.dev.jtag
      exec (.resetNRelease mode) s = .next (s.withDev
        ((({ s.dev with jtag := j } : Dev).setPwr { s.dev.pwr with resetLow := false, bootMode := mode }).set K.BOOT_STATUS
          ((if 3 ≤ mode then 2 * 2 ^ 16 else 0) + (if mode = 0 ∨ mode = 2 then 0 else 2 ^ 8) + mode)))) ∧
    (∀ (mode : Nat) (s : State), s.up → exec (.resetNRelease mode) s = .next s)) ∧
  (∀ (r : Req) (s : State),
      let e := s.dev.respond r 2 0x700 1 []
      let mode := s.dev.pwr.bootMode
      (s.admits r K.BOOT_CMD 1 1 → s.dev.get K.CHIP_STATE ∈ [1, 2, 6, 7] →
        ∃ m d, exec (.reboot r) s = .next (s.withBoth (m, d)) ∧ d.get K.CHIP_STATE = 0 ∧ d.get K.RESET_CAUSE = 2 ∧
          d.get K.ROLLBACK_FUSE = s.fuses.rollback ∧ d.get K.KEY_REVOKED = s.fuses.revoked ∧
          d.get K.BOOT_STATUS = (if 3 ≤ mode then 2 * 2 ^ 16 else 0) + (if mode = 0 ∨ mode = 2 then 0 else 2 ^ 8) + mode ∧
          d.get K.NODE_ID = s.dev.get K.NODE_ID ∧
          (∀ key, (key / 256 = 0x201 ∨ (0x220 ≤ key / 256 ∧ key / 256 ≤ 0x223)) → d.get key = e.get key) ∧
          (∀ key, key ∉ [K.CHIP_STATE, K.FW_VERSION, K.IMAGE_ROLLBACK, K.ROLLBACK_FUSE, K.KEY_REVOKED, K.RESET_CAUSE, K.BOOT_STATUS, K.NODE_ID] →
            key / 256 ≠ 0x201 → (key / 256 < 0x220 ∨ 0x223 < key / 256) → d.get key = dfltOf key) ∧
          d.port 0 = e.port 0 ∧ (∀ p, p ≠ 0 → d.port p = {}) ∧
          d = { objs := d.objs, fresh := e.fresh, egress := e.egress, wire := e.wire, trigIn := s.dev.trigIn, tbus := s.dev.tbus, jtag := s.dev.jtag,
                ports := d.ports, lanes := s.dev.lanes.filter (fun p => decide (p.1 < 4)), eyes := s.dev.eyes.filter (fun p => decide (p.1 < 4)),
                ring := s.dev.ring,
                pwr := { railLow := s.dev.pwr.railLow, pwrLow := s.dev.pwr.pwrLow, refLost := s.dev.pwr.refLost, alert := s.dev.pwr.alert,
                         bootMode := mode } } ∧
          (∀ a, Memory.look m a = if a / 2 ^ 64 = 8 then Memory.look s.mem a else unwritten a)) ∧
      (s.admits r K.BOOT_CMD 1 1 → s.dev.get K.CHIP_STATE ∈ [0, 3, 4, 5] →
        exec (.reboot r) s = .next (s.refusal r K.BOOT_CMD .state)))

/-- R395: COMMIT_ROLLBACK blows the fuses up to the running image's ROLLBACK. -/
def Obligations.CommitRollbackRaisesTheFuse : Prop :=
  ∀ (r : Req) (s : State), s.admits r K.BOOT_CMD 1 2 →
    (s.dev.get K.CHIP_STATE = 2 → s.fuses.rollback < s.dev.get K.IMAGE_ROLLBACK →
      exec (.commitRollback r) s = .next
        { s.answer r K.BOOT_CMD ((s.dev.set K.ROLLBACK_FUSE (s.dev.get K.IMAGE_ROLLBACK)).event 304 2 0) with
          fuses := { s.fuses with rollback := s.dev.get K.IMAGE_ROLLBACK } }) ∧
    (s.dev.get K.CHIP_STATE = 2 → s.dev.get K.IMAGE_ROLLBACK ≤ s.fuses.rollback →
      exec (.commitRollback r) s = .next (s.answer r K.BOOT_CMD s.dev)) ∧
    (s.dev.get K.CHIP_STATE ≠ 2 → exec (.commitRollback r) s = .next (s.refusal r K.BOOT_CMD .state))

/-- R395: the fuses only rise, no key is revoked by a command, and only COMMIT_ROLLBACK, in whichever of its two spellings,
blows one. -/
def Obligations.OnlyCommitBlowsFuses : Prop :=
  ∀ s t : State, step s = .next t →
    Fuses.le s.fuses t.fuses ∧
    (t.fuses ≠ s.fuses → ∃ r, ∃ c ∈ [Instr.commitRollback r, .dictWrite r 0x0700 1 1 2],
      ((∃ rest, s.pending = c :: rest) ∨ (s.pending = [] ∧ ∃ d, s.dev.takeHeld = some (c, d))) ∧
      s.dev.get K.CHIP_STATE = 2 ∧ t.fuses.rollback = s.dev.get K.IMAGE_ROLLBACK)

/-- R392, R394, R396: an image of the flash that fails a check locks the chip with the check's cause; one that passes is
loaded and the chip is STOPPED. The flash is programmed with what its load carried. -/
def Obligations.FlashBootsOrLocks : Prop :=
  (∀ s : State, s.up → s.dev.get K.CHIP_STATE = 0 → (s.dev.pwr.bootMode = 0 ∨ s.dev.pwr.bootMode = 2) →
    s.dev.get K.FLASH_JEDEC_ID ≠ 0 →
    (imgCheck s.fuses s.mem s.dev.fresh (flashAt 0) (2 ^ 26) = 0 → ∃ m d, exec .flashBoot s = .next (s.withBoth (m, d)) ∧
      d.get K.CHIP_STATE = 2 ∧ d.get K.FW_VERSION = bits (imgHeader s.mem s.dev.fresh (flashAt 0)) 448 32 ∧
      d.get K.IMAGE_ROLLBACK = bits (imgHeader s.mem s.dev.fresh (flashAt 0)) 72 8) ∧
    (imgCheck s.fuses s.mem s.dev.fresh (flashAt 0) (2 ^ 26) ≠ 0 → ∃ d, exec .flashBoot s = .next (s.withDev d) ∧
      d.get K.CHIP_STATE = 1 ∧ bits (d.get K.BOOT_STATUS) 16 8 = imgCheck s.fuses s.mem s.dev.fresh (flashAt 0) (2 ^ 26))) ∧
  (∀ (r : Req) (n : Nat) (s : State), s.up → s.dev.pwr.flash = some (r, n) →
    exec .flashProgrammed s = .next (s.withBoth
      (Memory.wrN s.mem (flashAt 0) (Memory.rdN s.mem s.dev.fresh (domAt 0x270101 0) n),
       (((s.dev.setPwr { s.dev.pwr with flash := none }).bump K.FLASH_WRITES).event 304 3 0).respond r 3 0x2701 1 [] 4)))

/-- R405, R414, R415: the log is emptied, the Canary toggles while it runs, and the watchdog's restart is counted. R404: a
clear of an instance without a latch, or still on its way to the state a fault ends it in (R403; log entry 32), is refused
with STATE, one whose cause persists with CAUSE_PRESENT and unlatches nothing; else every instance it names is unlatched and
takes its chapter's state. -/
def Obligations.LogCanaryAndFaultClears : Prop :=
  ((∀ (r : Req) (s : State), s.admits r K.FLOG_CMD 1 1 →
      exec (.flogClear r) s = .next (s.answer r K.FLOG_CMD { s.dev with ring := [], wrapped := false })) ∧
    (∀ s : State, s.up → s.dev.get K.CANARY_STATE = 2 →
      exec .canaryToggle s = .next (s.withDev (s.dev.setPwr { s.dev.pwr with canary := !s.dev.pwr.canary }))) ∧
    (∀ s : State, s.up → s.dev.get K.CANARY_STATE ≠ 2 → exec .canaryToggle s = .next s) ∧
    (∀ s : State, s.up → s.dev.pwr.hfDown = false → ∃ m d, exec .wdtExpiry s = .next (s.withBoth (m, d)) ∧ d.get K.CANARY_STATE ≠ 2) ∧
    (∀ s : State, s.up → s.dev.pwr.hfDown = true → exec .wdtExpiry s = .next s) ∧
    (∀ s : State, s.up → s.dev.pwr.hfDown = true → 2 ≤ s.dev.get K.CHIP_STATE →
      let e := ((s.dev.setPwr { s.dev.pwr with hfDown := false }).bump K.WDT_RESTARTS).event 316 3 (s.dev.get K.CANARY_STOP_CAUSE)
      let f := e.free 2
      exec .hfRestartDone s = .next (s.withBoth (if f.1 = 1 then raiseFault s.mem f.2 39 0x0600 0 none [] []
        else if f.1 = 2 then raiseFault s.mem f.2 38 0x0600 0 none [] [] else (s.mem, f.2)))) ∧
    (∀ s : State, s.up → s.dev.pwr.hfDown = false → exec .hfRestartDone s = .next s)) ∧
  (∀ (r : Req) (v : Nat) (reads : List (Nat × Option Nat)) (s : State), s.admits r K.FAULT_CLEAR 2 v →
      let named := (s.dev.latched.filter (fun p => p.2 != 0 && (v == 0xFFFF || p.1 == v) && !s.dev.latchComing p.1)).map (·.1)
      (named = [] → exec (.faultClear r v reads) s = .next (s.refusal r K.FAULT_CLEAR .state)) ∧
      (named ≠ [] → (∀ i ∈ named, bit (s.dev.latchedOn i) 34 = false) →
        ((∃ i ∈ named, ∃ fk ∈ setBits 64 (s.dev.latchedOn i), s.dev.persists i fk (!s.dev.faultyRails.isEmpty) = true) →
          exec (.faultClear r v reads) s = .next (s.refusal r K.FAULT_CLEAR .causePresent)) ∧
        ((∀ i ∈ named, ∀ fk ∈ setBits 64 (s.dev.latchedOn i), s.dev.persists i fk (!s.dev.faultyRails.isEmpty) = false) →
          s.dev.get K.SHED_LEVEL < 3 →
          exec (.faultClear r v reads) s = .next (s.answerBoth r K.FAULT_CLEAR
            (named.foldl (fun p i => clearInstance p.1 p.2 i) (s.mem, s.dev))))))

/-- R375, R424: while RESET_N is low nothing but the reset pin and the boundary-scan port acts, and no clock passes. R374,
R424, R435, R440: the boundary-scan instructions; those that drive the balls act as BYPASS while RESET_N is high. -/
def Obligations.ResetHoldsTheChip : Prop :=
  ((∀ (c : Instr) (s : State), s.dev.pwr.resetLow = true → takenInReset c = false → exec c s = .next s) ∧
    (∀ s : State, s.dev.pwr.resetLow = true → s.pending = [] → step s = .next s)) ∧
  (∀ (s : State) (cells : List Bool),
      let tap (i dr : Nat) (c : List Bool) : Host.Outcome State Fault Refusal :=
        .next (s.withDev { s.dev with jtag := { instr := i, cells := c, dr := dr, captured :=
          (if 2 ≤ i ∧ i ≤ 5 then Ball.all.map (fun b => (b, s.dev.pinReads b)) else s.dev.jtag.captured) } })
      let j := s.dev.jtag
      exec .bypass s = tap 0 0 j.cells ∧
      exec .idcode s = tap 1 0x22564B53 j.cells ∧
      exec (.samplePreload cells) s = tap 2 j.dr cells ∧
      (s.dev.pwr.resetLow = true →
        exec .extest s = tap 3 j.dr j.cells ∧ exec .extestPulse s = tap 4 j.dr j.cells ∧
        exec .extestTrain s = tap 5 j.dr j.cells ∧ exec .clamp s = tap 6 0 j.cells ∧ exec .highz s = tap 7 0 j.cells) ∧
      (s.up → ∀ c ∈ [Instr.extest, .extestPulse, .extestTrain, .clamp, .highz], exec c s = exec .bypass s) ∧
      -- what the balls then carry: preloaded cells, nothing, or the block's own levels; and those with RESET_N low
      (s.dev.pwr.resetLow = true → ∀ (b : Ball), b.input = false → b ≠ .tdo →
        (j.instr ∈ [3, 6] → ∀ x, j.cells[Config.cellOf b.no]? = some x → s.dev.pinLevel b = if x then .high else .low) ∧
        (j.instr = 7 → s.dev.pinLevel b = .released)) ∧
      (s.up → ∀ b, s.dev.pinLevel b = s.dev.ownLevel b) ∧
      (s.dev.pwr.resetLow = true →
        (∀ l, s.dev.ownLevel (.trigOut l) = .low ∧ s.dev.ownLevel (.tbus l) = .released ∧ s.dev.ownLevel (.spi l) = .released ∧
          s.dev.ownLevel (.pmb l) = .released ∧ s.dev.ownLevel (.laneTx l) = .released) ∧
        s.dev.ownLevel .canary = .low ∧ s.dev.ownLevel .tdo = .released) ∧
      (∀ ch, (s.dev.vpchIn = true → s.dev.ownLevel (.drv ch) = levelOf (Table.at s.dev.chans {} ch).drv ∧
          s.dev.ownLevel (.den ch) = levelOf (Table.at s.dev.chans {} ch).den) ∧
        (s.dev.vpchIn = false → s.dev.ownLevel (.drv ch) = .undefined ∧ s.dev.ownLevel (.den ch) = .undefined)))

/-- R378, R379: switching power domains. R378, R214: the ramp of the first waiting domain ends, in regulation or not in time;
a cluster's memory then holds the Collier firmware. R12: the OFF of a domain whose ON waits is held until that ON is answered
(log entry 9). -/
def Obligations.PowerDomainsSwitch : Prop :=
  (∀ (r : Req) (d : Nat) (s : State), d < 52 →
      (s.admits r (K.PD_CMD d) 1 1 →
        (s.dev.get (K.PD_STATE d) = 2 → exec (.pdOn r d) s = .next (s.answer r (K.PD_CMD d) s.dev)) ∧
        (∀ req l, s.dev.get (K.PD_STATE d) = 1 → s.dev.pwr.pdQueue = (d, req) :: l → (∀ q ∈ l, q.1 ≠ d) →
          exec (.pdOn r d) s = .next (s.withDev (s.dev.setPwr { s.dev.pwr with pdQueue := (d, req) :: (d, some r) :: l }))) ∧
        (s.dev.get (K.PD_STATE d) ∈ [0, 3] → s.dev.pwr.pdQueue ≠ [] →
          exec (.pdOn r d) s = .next (s.withDev (s.dev.setPwr { s.dev.pwr with pdQueue := s.dev.pwr.pdQueue ++ [(d, some r)] }))) ∧
        (s.dev.get (K.PD_STATE d) ∈ [0, 3] → s.dev.pwr.pdQueue = [] →
          let e := (s.dev.setPwr { s.dev.pwr with pdQueue := [(d, some r)] }).set (K.PD_STATE d) 1
          exec (.pdOn r d) s = .next (s.withDev (if 2 ≤ d ∧ d ≤ 5 then e.set (K.PLL_STATE (d - 2)) 1 else e)))) ∧
      (s.admits r (K.PD_CMD d) 1 2 →
        (d ∈ [0, 1, 50] → exec (.pdOff r d) s = .next (s.refusal r (K.PD_CMD d) .range)) ∧
        (d ∉ [0, 1, 50] → (s.dev.domUsed d = true ∨ s.dev.domBusy d = true) →
          exec (.pdOff r d) s = .next (s.refusal r (K.PD_CMD d) .state)) ∧
        (d ∉ [0, 1, 50] → s.dev.domUsed d = false → s.dev.domBusy d = false →
          (s.dev.domXfer d = true ∨ s.dev.underTest [d] none = true) →
          exec (.pdOff r d) s = .next (s.refusal r (K.PD_CMD d) .busy)) ∧
        (d ∉ [0, 1, 50] → s.dev.domUsed d = false → s.dev.domBusy d = false → s.dev.domXfer d = false →
          s.dev.underTest [d] none = false →
          (s.dev.get (K.PD_STATE d) = 0 → exec (.pdOff r d) s = .next (s.answer r (K.PD_CMD d) s.dev)) ∧
          (s.dev.get (K.PD_STATE d) = 3 → exec (.pdOff r d) s = .next (s.answer r (K.PD_CMD d) ((s.dev.setPwr
            { s.dev.pwr with pdQueue := s.dev.pwr.pdQueue.filter (fun e => e.1 != d || e.2.isSome) }).set (K.PD_STATE d) 0))) ∧
          (s.dev.get (K.PD_STATE d) = 2 →
            exec (.pdOff r d) s = .next (s.answerBoth r (K.PD_CMD d) (domDown s.mem s.dev d 0)))))) ∧
  (∀ (d : Nat) (req : Option Req) (l : List (Nat × Option Req)) (s : State), d < 52 → s.up →
      s.dev.pwr.pdQueue = (d, req) :: l → (∀ q ∈ l, q.1 < 52) → s.dev.get (K.PD_STATE d) = 1 →
      (∃ m e, exec (.domainRampDone d) s = .next (s.withBoth (m, e)) ∧ e.get (K.PD_STATE d) = 2 ∧
        (2 ≤ d → d ≤ 5 → e.get (K.PLL_STATE (d - 2)) = 2) ∧ ((d < 42 ∨ 45 < d) → m = s.mem) ∧
        (42 ≤ d → d ≤ 45 → e.get (K.CLUSTER_STATE (d - 42)) = 3 ∧
          ∀ l o, s.dev.fw = some l → o < 524288 → o < l.length → Memory.look m (clusterAt (d - 42) (3670016 + o)) = l[o]?)) ∧
      (∀ r q, s.ready r → req = some q →
        exec (.pdOff r d) s = .next (s.withDev { s.dev with held := s.dev.held ++ [(r.port, .dictWrite r (0x500 + d) 1 1 2)] })) ∧
      (let e := s.dev.set (K.PD_STATE d) 0
       let e := if 2 ≤ d ∧ d ≤ 5 then e.set (K.PLL_STATE (d - 2)) 0 else e
       let e := ((d, req) :: l.takeWhile (fun q => q.1 == d)).foldl
         (fun (e : Dev) q => match q.2 with | some r => e.refuse r 2 (0x500 + d) 1 .fault | none => e)
         (e.setPwr { s.dev.pwr with pdQueue := l.dropWhile (fun q => q.1 == d) })
       let p := raiseFault s.mem e 33 (0x500 + d) d (some (297, 2, d)) [] []
       exec (.domainRamp d) s = .next (s.withBoth (p.1, pdNext 53 p.2))))

/-- R380, R383, R384: the demanded level follows the crossings and PWR_WARN_N; a rise takes every level's actions at once; a
fall releases them, and a latched level 3 or 4 only becomes clearable. -/
def Obligations.ShedFollowsTheDemand : Prop :=
  (∀ (rail level : Nat) (below : Bool) (s : State), s.up → rail < 8 → 1 ≤ level → level ≤ 4 →
    exec (.railCrossing rail level below) s = .next (s.withDev (s.dev.setPwr { s.dev.pwr with
      railLow := Table.put s.dev.pwr.railLow rail (putBit (Table.at s.dev.pwr.railLow 0 rail) (level - 1) below) }).calmNote)) ∧
  (∀ (low : Bool) (s : State), s.up →
    exec (.pwrWarnNChange low) s = .next (s.withDev (s.dev.setPwr { s.dev.pwr with pwrLow := low }).calmNote)) ∧
  (∀ s : State, s.up →
    let old := s.dev.get K.SHED_LEVEL
    let new := s.dev.demand
    let e := ((s.dev.set K.SHED_LEVEL new).keepMax K.SHED_PEAK new).set K.SHED_CAUSE s.dev.shedCause
    let e := raiseN 257 (e.bump K.SHED_RISES) 296 1 (Config.infoShed new (e.get K.SHED_CAUSE)).toNat (decide (3 ≤ new))
    let pend (p : Memory × Dev) : Memory × Dev := (p.1, { p.2 with wnd := { p.2.wnd with shedPend := true } })
    (new ≤ old → exec .shedLevelRise s = .next s) ∧
    (old = 0 → new = 1 → exec .shedLevelRise s = .next (s.withBoth (shedOne s.mem e))) ∧
    (old = 0 → new = 2 → exec .shedLevelRise s = .next (s.withBoth (pend ((shedOne s.mem e).1, (shedOne s.mem e).2.shedTwo)))) ∧
    (old = 0 → new = 3 → exec .shedLevelRise s =
      .next (s.withBoth (pend (shedThree (shedOne s.mem e).1 (shedOne s.mem e).2.shedTwo)))) ∧
    (old = 0 → new = 4 → exec .shedLevelRise s = .next (s.withBoth (pend (shedFour
      (shedThree (shedOne s.mem e).1 (shedOne s.mem e).2.shedTwo).1 (shedThree (shedOne s.mem e).1 (shedOne s.mem e).2.shedTwo).2)))) ∧
    (old = 1 → new = 2 → exec .shedLevelRise s = .next (s.withBoth (pend (s.mem, e.shedTwo)))) ∧
    (old = 1 → new = 3 → exec .shedLevelRise s = .next (s.withBoth (pend (shedThree s.mem e.shedTwo)))) ∧
    (old = 1 → new = 4 → exec .shedLevelRise s =
      .next (s.withBoth (pend (shedFour (shedThree s.mem e.shedTwo).1 (shedThree s.mem e.shedTwo).2)))) ∧
    (old = 2 → new = 3 → exec .shedLevelRise s = .next (s.withBoth (pend (shedThree s.mem e)))) ∧
    (old = 3 → new = 4 → exec .shedLevelRise s = .next (s.withBoth (pend (shedFour s.mem e)))) ∧
    (old = 2 → new = 4 → exec .shedLevelRise s =
      .next (s.withBoth (pend (shedFour (shedThree s.mem e).1 (shedThree s.mem e).2))))) ∧
  (∀ s : State, s.up →
    let old := s.dev.get K.SHED_LEVEL
    let new := s.dev.demand
    let e := ((s.dev.shedClear new).event 296 2 (Config.infoShed new (s.dev.get K.SHED_CAUSE)).toNat).shedRelease
    (old ≤ new → exec .shedLevelFall s = .next s) ∧
    (new < old → old ≤ 2 → exec .shedLevelFall s = .next (s.withDev (if new = 0 then e.chipRelease else e))) ∧
    (new < old → 3 ≤ old → new ≠ 0 → exec .shedLevelFall s = .next s) ∧
    (3 ≤ old → new = 0 → exec .shedLevelFall s = .next (s.withDev (s.dev.setPwr { s.dev.pwr with calm := true }).canaryTry)))

/-- R381: the monitor ADC. R107, R108, R376: the shaft PLLs and REFCLK. -/
def Obligations.MonitorsAndClocks : Prop :=
  ((∀ (r : Req) (mask : Nat) (s : State), s.admits r K.ADC_CMD 2 mask →
      (s.dev.get K.ADC_BUSY = 0 → exec (.adcCmd r mask) s = .next (s.answer r K.ADC_CMD (s.dev.adcAsk mask))) ∧
      (s.dev.get K.ADC_BUSY ≠ 0 → exec (.adcCmd r mask) s = .next (s.refusal r K.ADC_CMD .busy))) ∧
    (∀ (k code : Nat) (l : List Nat) (s : State), s.up → k < 16 → s.dev.pwr.adcReqs = k :: l →
      ∃ e, exec (.adcConverted code) s = .next (s.withDev e) ∧
        e.get (K.ADC_VALUE k) = (if k < 14 then code % 4096 else 0) ∧ e.pwr.adcReqs = l ∧
        (k ∉ l → bit (e.get K.ADC_BUSY) k = false))) ∧
  ((∀ (k : Nat) (s : State), s.up → k < 4 → s.dev.get (K.PLL_STATE k) = 1 →
      exec (.pllLock k) s = .next (s.withDev (s.dev.set (K.PLL_STATE k) 2))) ∧
    (∀ s : State, s.up → 2 ≤ s.dev.get K.CHIP_STATE →
      exec (.pllLock 4) s = .next (s.withDev (s.dev.setPwr { s.dev.pwr with refLost := false }))) ∧
    (∀ (k : Nat) (s : State), s.up → k < 4 → s.dev.get (K.PLL_STATE k) = 2 →
      let e := (s.dev.set (K.PLL_STATE k) 1).bump (K.PLL_UNLOCKS k)
      let e := e.setUnsure (setBit (e.get K.UNSURE_CAUSE) 2)
      let l := e.liveSeqs.filter (fun n => (e.shaftsOf n).contains k)
      let cause := (Config.causeOfFault 9).toNat
      (l = [] → exec (.pllUnlock k) s = .next (s.withBoth (pllLatch k (raiseFault s.mem e 9 (0x1710 + k) 0 none [] [])))) ∧
      (∀ n ns, l = n :: ns →
        let raised := ns.foldl (fun (e : Dev) x => raiseN 257 e x cause (maskOf l) (decide (1 ≤ e.get (K.FAULT_REACT 9)))) e
        exec (.pllUnlock k) s = .next (s.withBoth
          (pllLatch k (raiseFault s.mem raised 9 (0x1710 + k) (maskOf l) (some (n, cause, maskOf l)) (l.map (0x1200 + ·)) []))))) ∧
    (∀ s : State, s.up → s.dev.pwr.refLost = true → exec .refclkLost s = .next s) ∧
    (∀ s : State, s.up → s.dev.pwr.refLost = false → (∀ p, p < 6 → s.dev.portState p = 0 ∨ s.dev.portState p = 6) →
      (∃ m d, exec .refclkLost s = .next (s.withBoth (m, d)) ∧ d.get K.CANARY_STATE ≠ 2) ∧
      (let e := (s.dev.setPwr { s.dev.pwr with refLost := true }).setUnsure (setBit (s.dev.get K.UNSURE_CAUSE) 2)
       exec .refclkLost s = .next (s.withBoth (raiseFault s.mem e 32 0x0300 0 none [] [])))))

/-- R386, R387: the PMBus rails. R386, R387: a try of a PMBus transaction sends its commands; the transaction ends, is tried
again, or after three tries raises PMBUS_NACK; one of a supply sequence's step ends with SSQ_STEP_DONE (log entry 24). -/
def Obligations.RailsOverPmbus : Prop :=
  ((∀ (r : Req) (rail : Nat) (s : State), rail < 32 →
      (∀ q ∈ [(Instr.railOn r rail, 1), (.railOff r rail, 2), (.railRead r rail, 3)], s.admits r (K.RAIL_CMD rail) 1 q.2 →
        (s.dev.railOn rail = false → exec q.1 s = .next (s.refusal r (K.RAIL_CMD rail) .state)) ∧
        (s.dev.railOn rail = true → exec q.1 s =
          .next (s.withDev ((if q.2 = 1 then s.dev.mvSend rail else s.dev).pmbAsk { kind := q.2, rail := rail, req := some r }))))) ∧
    (∀ (r : Req) (rail mv : Nat) (s : State), rail < 32 → s.admits r (K.RAIL_MV rail) 2 mv →
      let e := s.dev.set (K.RAIL_MV rail) mv
      exec (.railMvWrite r rail mv) s = .next (s.answer r (K.RAIL_MV rail)
        (if s.dev.get (K.RAIL_STATE rail) = 1 then e.pmbAsk { kind := 4, rail := rail, mv := mv }
         else e.setPwr { s.dev.pwr with mvDue := s.dev.pwr.mvDue.filter (· != rail) ++ [rail] }))) ∧
    (∀ (mm : Nat) (s : State), mm < 2 → s.up →
      exec (.pmbAlert mm) s = .next (s.withDev (((List.range 32).filter (fun k =>
          ((s.dev.bump (K.PMB_ALERTS mm)).event (299 + mm) 1 0).railOn k && ((s.dev.bump (K.PMB_ALERTS mm)).event (299 + mm) 1 0).railMaster k == mm)).foldl
        (fun d k => d.pmbAsk { kind := 5, rail := k }) ((s.dev.bump (K.PMB_ALERTS mm)).event (299 + mm) 1 0))))) ∧
  (∀ (mm : Nat) (o : PmbOp) (l : List PmbOp) (lin : Bool) (vout iout status : Nat) (s : State), mm < 2 → s.up →
      Table.at s.dev.pwr.pmb [] mm = o :: l →
      let left (q : List PmbOp) : Dev := (s.dev.pmbSends o lin).setPwr { s.dev.pwr with pmb := Table.put s.dev.pwr.pmb mm q }
      let cmdOut (c : PmbCmd) (v : Nat) : Out := .pmbus (s.dev.railMaster o.rail) (s.dev.get (K.RAIL_CFG o.rail) % 128)
        (s.dev.get (K.PMB_PEC (s.dev.railMaster o.rail)) == 1) c v
      let page := bits (s.dev.get (K.RAIL_CFG o.rail)) 16 8
      let first : List Out := if page = 0xFF then [] else [cmdOut .page page]
      (o.kind = 1 → lin = true → (s.dev.pmbSends o lin).egress = s.dev.egress ++ first ++ [cmdOut .voutMode 0, cmdOut .operation 0x80]) ∧
      (o.kind = 1 → lin = false → (s.dev.pmbSends o lin).egress = s.dev.egress ++ first ++ [cmdOut .voutMode 0]) ∧
      (o.kind = 2 → (s.dev.pmbSends o lin).egress = s.dev.egress ++ first ++ [cmdOut .operation 0]) ∧
      (o.kind = 3 → (s.dev.pmbSends o lin).egress = s.dev.egress ++ first ++ [cmdOut .readVout 0, cmdOut .readIout 0, cmdOut .statusWord 0]) ∧
      (o.kind = 4 → (s.dev.pmbSends o lin).egress = s.dev.egress ++ first ++ [cmdOut .voutCommand o.mv]) ∧
      (o.kind = 5 → (s.dev.pmbSends o lin).egress = s.dev.egress ++ first ++ [cmdOut .statusWord 0]) ∧
      (o.seq ≠ none → exec (.pmbusTransactionDone mm true lin vout iout status) s = .next s) ∧
      let key := K.RAIL_CMD o.rail
      (o.tries < 2 → exec (.pmbusTransactionDone mm false lin vout iout status) s =
        .next (s.withDev (left ({ o with tries := o.tries + 1 } :: l)))) ∧
      (∀ r, 2 ≤ o.tries → o.req = some r → exec (.pmbusTransactionDone mm false lin vout iout status) s =
        .next (s.withBoth ((pmbNack s.mem (left l) mm).1,
          (pmbNack s.mem (left l) mm).2.refuse r 2 (key / 256) (key % 256) .fault))) ∧
      (∀ r, o.req = some r → o.seq = none → o.kind = 1 → lin = true → exec (.pmbusTransactionDone mm true lin vout iout status) s =
        .next (s.answer r key ((left l).railSet o.rail 1))) ∧
      (∀ r, o.req = some r → o.seq = none → o.kind = 1 → lin = false → exec (.pmbusTransactionDone mm true lin vout iout status) s =
        .next (s.withDev ((left l).refuse r 2 (key / 256) (key % 256) .range))) ∧
      (∀ r, o.req = some r → o.seq = none → o.kind = 2 → exec (.pmbusTransactionDone mm true lin vout iout status) s =
        .next (s.answer r key ((left l).railSet o.rail 0))) ∧
      (∀ r, o.req = some r → o.seq = none → o.kind = 3 → exec (.pmbusTransactionDone mm true lin vout iout status) s =
        .next (s.answer r key ((((left l).set (K.RAIL_VOUT o.rail) (vout % 65536)).set (K.RAIL_IOUT o.rail) (iout % 2 ^ 32)).set
          (K.RAIL_STATUS o.rail) (status % 65536)))) ∧
      (o.seq = none → o.kind = 4 → exec (.pmbusTransactionDone mm true lin vout iout status) s = .next (s.withDev (left l))) ∧
      (o.seq = none → o.kind = 5 → status % 65536 = 0 → exec (.pmbusTransactionDone mm true lin vout iout status) s =
        .next (s.withDev ((left l).set (K.RAIL_STATUS o.rail) 0))) ∧
      (o.seq = none → o.kind = 5 → status % 65536 ≠ 0 → exec (.pmbusTransactionDone mm true lin vout iout status) s =
        .next (s.withBoth (raiseFault s.mem (((left l).set (K.RAIL_STATUS o.rail) (status % 65536)).set (K.RAIL_STATE o.rail) 2)
          34 (0x550 + o.rail) 0 (some (302, 1, 0)) [] []))))

/-- R387, R388: the DUT supply sequences; a step's transaction takes its turn on its master (log entry 24). R390: SPI
transfers and write lists. -/
def Obligations.SupplySequencesAndLists : Prop :=
  ((∀ (r : Req) (q : Nat) (s : State), q < 16 → s.admits r (K.SSQ_CMD q) 1 1 →
      (s.dev.get (K.SSQ_STATE q) = 2 → exec (.ssqRun r q) s = .next (s.refusal r (K.SSQ_CMD q) .state)) ∧
      (s.dev.get (K.SSQ_STATE q) ≠ 2 → exec (.ssqRun r q) s = .next (s.answer r (K.SSQ_CMD q)
        ((({ s.dev with ssqs := Table.put s.dev.ssqs q {} }.set (K.SSQ_STATE q) 2).bump (K.SSQ_RUNS q)).ssqBegin q)))) ∧
    (∀ (q : Nat) (e : Dev),
      let step := e.ssqStep q
      let rail := bits step 23 5
      (bits step 28 4 = 1 → rail ∉ e.pwr.mvDue → e.ssqBegin q = e.pmbAsk { kind := 1, rail := rail, seq := some q }) ∧
      (bits step 28 4 = 2 → e.ssqBegin q = e.pmbAsk { kind := 2, rail := rail, seq := some q }) ∧
      (bits step 28 4 = 3 → e.get (K.RAIL_STATE rail) = 1 →
        e.ssqBegin q = e.pmbAsk { kind := 4, rail := rail, mv := bits step 0 16, seq := some q }) ∧
      (bits step 28 4 ∉ [1, 2, 3] → e.ssqBegin q = e)) ∧
    (∀ (q : Nat) (s : State), q < 16 → s.up → s.dev.get (K.SSQ_STATE q) = 2 →
      let step := s.dev.ssqStep q
      let rail := bits step 23 5
      let t := s.dev.ssqTake q
      (s.dev.ssqTurn q = false → exec (.ssqStepDone q) s = .next s) ∧
      (s.dev.ssqTurn q = true → bits step 28 4 = 0 → exec (.ssqStepDone q) s = .next (s.withDev (t.ssqDone q))) ∧
      (s.dev.ssqTurn q = true → bits step 28 4 = 1 → exec (.ssqStepDone q) s = .next (s.withDev ((t.railSet rail 1).ssqNext q))) ∧
      (s.dev.ssqTurn q = true → bits step 28 4 = 2 → exec (.ssqStepDone q) s = .next (s.withDev ((t.railSet rail 0).ssqNext q))) ∧
      (s.dev.ssqTurn q = true → bits step 28 4 = 3 →
        exec (.ssqStepDone q) s = .next (s.withDev ((t.mvSet rail (bits step 0 16)).ssqNext q))) ∧
      (bits step 28 4 = 4 → exec (.waitUsExpiry q) s = .next (s.withDev (s.dev.ssqNext q))) ∧
      (∀ (mv : Nat) (expired : Bool), bits step 28 4 = 5 → mv < 65536 →
        let e := (s.dev.railSends rail [(.readVout, 0)]).set (K.RAIL_VOUT rail) mv
        let x := Table.at s.dev.ssqs {} q
        (mv < bits step 0 23 → exec (.waitBelowPoll q mv expired) s = .next (s.withDev (e.ssqNext q))) ∧
        (bits step 0 23 ≤ mv → (expired = true ∨ 1000 ≤ x.polls + 1) → exec (.waitBelowPoll q mv expired) s =
          .next (s.withBoth (raiseFault s.mem (e.ssqEnd q 5) 36 (0x580 + q) 0 (some (301, 2, 0)) [] []))) ∧
        (bits step 0 23 ≤ mv → expired = false → x.polls + 1 < 1000 → exec (.waitBelowPoll q mv expired) s =
          .next (s.withDev { e with ssqs := Table.put s.dev.ssqs q { x with polls := x.polls + 1 } }))))) ∧
  ((∀ (r : Req) (p value rx : Nat) (s : State), p < 8 → s.admits r (K.SPI_XFER p) 8 value →
      (s.dev.listUses p = true → exec (.spiXfer r p value rx) s = .next (s.refusal r (K.SPI_XFER p) .busy)) ∧
      (s.dev.listUses p = false → 1 ≤ bits value 58 3 → exec (.spiXfer r p value rx) s =
        .next (s.answer r (K.SPI_XFER p) ((s.dev.emit [.spi p (toBytes (min 6 (bits value 58 3)) (bits value 0 48)).reverse]).set
          (K.SPI_XFER p) (rx % 2 ^ (8 * bits value 58 3))))) ∧
      (s.dev.listUses p = false → bits value 58 3 = 0 → exec (.spiXfer r p value rx) s = .next (s.answer r (K.SPI_XFER p) s.dev))) ∧
    (∀ (r : Req) (w : Nat) (s : State), w < 16 → s.admits r (K.WL_CMD w) 1 1 →
      (s.dev.get (K.WL_STATE w) = 2 → exec (.wlRun r w) s = .next (s.refusal r (K.WL_CMD w) .busy)) ∧
      (s.dev.get (K.WL_STATE w) ≠ 2 → exec (.wlRun r w) s = .next (s.answer r (K.WL_CMD w)
        ((({ s.dev with wls := Table.put s.dev.wls w {} }.set (K.WL_STATE w) 2).bump (K.WL_RUNS w)).spiSend
          (bits (s.dev.get (K.WL_ENTRY w 0)) 61 3) (s.dev.get (K.WL_ENTRY w 0)))))) ∧
    (∀ (w rx : Nat) (s : State), w < 16 → s.up → s.dev.get (K.WL_STATE w) = 2 →
      let i := (Table.at s.dev.wls {} w).entry
      let e := s.dev.get (K.WL_ENTRY w i)
      (bits e 58 3 = 0 → ∃ d, exec (.wlEntryDone w rx) s = .next (s.withDev d) ∧ d.get (K.WL_STATE w) = 4) ∧
      (bits e 58 3 ≠ 0 → i < 63 → bits (s.dev.get (K.WL_ENTRY w (i + 1))) 58 3 ≠ 0 → exec (.wlEntryDone w rx) s =
        .next (s.withDev ({ s.dev.set (K.SPI_XFER (bits e 61 3)) (rx % 2 ^ (8 * bits e 58 3)) with
          wls := Table.put s.dev.wls w ⟨i + 1⟩ }.spiSend (bits (s.dev.get (K.WL_ENTRY w (i + 1))) 61 3)
            (s.dev.get (K.WL_ENTRY w (i + 1)))))) ∧
      (bits e 58 3 ≠ 0 → i = 63 → ∃ d, exec (.wlEntryDone w rx) s = .next (s.withDev d) ∧ d.get (K.WL_STATE w) = 4)))

/-- R363 to R365: RUN starts the routine of WND_ROUTINE when its argument is well formed, no routine is in the foreground and
its preconditions hold; ABORT is a host's interrupt request (R360). R418, R419: BIST_CMD START starts BIST_RUN on a target
that may be tested; ABORT is an interrupt request. -/
def Obligations.WinderAndSelfTestCommands : Prop :=
  (∀ (r : Req) (s : State),
      let id := s.dev.get K.WND_ROUTINE
      let a := s.dev.get K.WND_ARG
      let idle (n : Nat) : Prop := s.dev.get (K.SEQ_STATE n) = 0
      let ks := setBits 4 a
      (s.admits r K.WND_CMD 1 1 →
        (wndArgOk id a = false → exec (.wndRun r) s = .next (s.refusal r K.WND_CMD .range)) ∧
        (wndArgOk id a = true → s.dev.wndBusy = true → exec (.wndRun r) s = .next (s.refusal r K.WND_CMD .busy)) ∧
        (wndArgOk id a = true → s.dev.wndBusy = false → s.dev.latchHeld 0x0740 K.WND_STATE = true →
          exec (.wndRun r) s = .next (s.refusal r K.WND_CMD .state)) ∧
        (wndArgOk id a = true → s.dev.wndBusy = false → s.dev.latchHeld 0x0740 K.WND_STATE = false →
          ((id = 1 ∧ (∀ k ∈ ks, (∀ c, c < 64 → ∀ n ∈ s.dev.ownersOf (64 * k + c), idle n) ∧ s.dev.tmuFree k = true ∧ s.dev.get (K.LIN_STATE k) ≠ 2)) ∨
           (id = 2 ∧ idle a ∧ ∃ m ∈ s.dev.sitesOf a, s.dev.get (K.SITE_ENABLE m) = 1) ∨
           (id = 3 ∧ s.dev.syncStopped = true ∧ s.dev.get K.SYNC_STATE = 2 ∧ s.dev.get K.SYNC_ROLE ∈ [1, 2]) ∨
           (id = 8 ∧ ∀ k ∈ ks, s.dev.tmuFree k = true) ∨
           (id = 9 ∧ (∀ n, n < 64 → idle n ∨ ∀ p ∈ s.dev.gangOf n, p.1 / 64 ∉ ks) ∧
             ∀ k ∈ ks, s.dev.tmuFree k = true ∧ s.dev.get (K.TMU_CALIBRATED k) = 1)) →
          exec (.wndRun r) s = .next (s.answer r K.WND_CMD (s.dev.wndStart id a)))) ∧
      (s.admits r K.WND_CMD 1 2 →
        (s.dev.wndBusy = false → exec (.wndAbort r) s = .next (s.refusal r K.WND_CMD .state)) ∧
        (s.dev.wndBusy = true → bit (s.dev.get K.WND_STATUS) 5 = true →
          exec (.wndAbort r) s = .next (s.answer r K.WND_CMD (s.dev.setB K.WND_STATUS 4 true))) ∧
        (s.dev.get K.WND_STATE = 2 → bit (s.dev.get K.WND_STATUS) 5 = false → s.dev.wnd.phase ≠ 1 → exec (.wndAbort r) s =
          .next (s.answer r K.WND_CMD { s.dev with wnd := { s.dev.wnd with intr := setBit s.dev.wnd.intr 0 } })) ∧
        (s.dev.get K.WND_STATE = 2 → bit (s.dev.get K.WND_STATUS) 5 = false → s.dev.wnd.phase = 1 →
          exec (.wndAbort r) s = .next (s.answer r K.WND_CMD s.dev)) ∧
        (s.dev.get K.WND_STATE = 3 → bit (s.dev.get K.WND_STATUS) 5 = false → s.dev.wnd.phase ≠ 1 → exec (.wndAbort r) s =
          .next (s.answerBoth r K.WND_CMD (wndUnwind s.mem { s.dev with wnd := { s.dev.wnd with intr := setBit s.dev.wnd.intr 0 } }
            (intrResult (setBit s.dev.wnd.intr 0))))))) ∧
  (∀ (r : Req) (s : State),
      let t := s.dev.get K.BIST_TARGET
      let dd := bits t 0 6
      let unit := bits t 8 4
      let kind := bits t 12 3
      (s.admits r K.BIST_CMD 1 1 →
        ((kind ∈ [1, 2, 3] ∧ dd ≤ 51 ∧ dd ≠ 0 ∧ dd ≠ 50 ∧ (unit = 15 ∨ (unit < 8 ∧ (dd = 47 ∨ dd = 48)))) →
          s.dev.wndBusy = false → s.dev.latchHeld 0x0740 K.WND_STATE = false → s.dev.latchHeld 0x0800 K.BIST_STATE = false →
          s.dev.domOn dd = true → s.dev.testable dd unit = true → s.dev.get K.SHED_LEVEL = 0 →
          exec (.bistStart r) s = .next (s.answer r K.BIST_CMD (((s.dev.set K.BIST_STATE 2).bump K.BIST_RUNS).wndStart 6 0))) ∧
        ((kind = 0 ∨ 3 < kind ∨ 51 < dd ∨ dd = 0 ∨ dd = 50) → exec (.bistStart r) s = .next (s.refusal r K.BIST_CMD .range)) ∧
        ((kind ∈ [1, 2, 3] ∧ dd ≤ 51 ∧ dd ≠ 0 ∧ dd ≠ 50 ∧ (unit = 15 ∨ (unit < 8 ∧ (dd = 47 ∨ dd = 48)))) →
          s.dev.get K.SHED_LEVEL ≠ 0 → exec (.bistStart r) s = .next (s.refusal r K.BIST_CMD .shed))) ∧
      (s.admits r K.BIST_CMD 1 2 →
        (s.dev.get K.BIST_STATE = 2 → s.dev.get K.WND_STATE = 2 → bit (s.dev.get K.WND_STATUS) 5 = false →
          s.dev.wnd.phase ≠ 1 → exec (.bistAbort r) s = .next (s.answer r K.BIST_CMD
            { s.dev with wnd := { s.dev.wnd with intr := setBit s.dev.wnd.intr 0 } })) ∧
        (s.dev.get K.BIST_STATE ≠ 2 → s.dev.get K.BIST_STATE ≠ 3 → exec (.bistAbort r) s = .next (s.refusal r K.BIST_CMD .state))))

/-- R358 to R360, R371: SAFE points, the hang watchdog, and the service passes. -/
def Obligations.WinderServicePasses : Prop :=
  (∀ s : State, s.up → s.dev.get K.WND_STATE = 2 → s.dev.wnd.shedPend = false → s.dev.wnd.waiting = true → s.dev.wnd.phase = 0 →
    let e := s.dev.keepMax K.SAFE_GAP_MAX ((s.dev.clk - s.dev.wnd.safeAt) * 5 / 2)
    let e : Dev := { e with wnd := { s.dev.wnd with safeAt := s.dev.clk } }
    (s.dev.wnd.intr ≠ 0 → bit (e.get K.WND_STATUS) 5 = false →
      exec .safePoint s = .next (s.withBoth (wndUnwind s.mem e (intrResult s.dev.wnd.intr)))) ∧
    (s.dev.wnd.intr = 0 → s.dev.wnd.routine = 6 → s.dev.get K.SHED_LEVEL ∈ [1, 2] → s.dev.wnd.therm = none → s.dev.wnd.adapts = [] →
      exec .safePoint s = .next (s.withDev ((e.set K.WND_STATE 3).set K.BIST_STATE 3))) ∧
    (s.dev.wnd.intr = 0 → s.dev.wnd.routine ≠ 6 → exec .safePoint s = .next (s.withDev e.wndService)) ∧
    (s.dev.wnd.adapts = [] → ∀ temps, s.dev.wnd.therm = some temps → s.dev.wnd.intr = 0 → s.dev.wnd.routine ≠ 6 →
      exec .safePoint s = .next (s.withDev (e.thermPass temps)))) ∧
  -- between SAFE points nothing of it happens, and in an unwind a SHED_SEQ pass alone
  (∀ s : State, s.up → s.dev.wnd.waiting = false → s.dev.wnd.phase = 0 → exec .safePoint s = .next s) ∧
  (∀ s : State, s.up → s.dev.get K.WND_STATE = 2 → s.dev.wnd.phase = 1 → exec .safePoint s = .next (s.withBoth (shedSeqPass s.mem
    { s.dev with wnd := { s.dev.wnd with safeAt := s.dev.clk } }))) ∧
  -- the EXIT_LIST keeps PCH_CAL RUNNING until it ends (R360, R368)
  (∀ (w rx : Nat) (s : State), s.up → w < 16 → s.dev.get K.WND_STATE = 2 → bits s.dev.wnd.arg 16 8 = w → s.dev.get (K.WL_STATE w) = 2 →
    bits (s.dev.get (K.WL_ENTRY w (Table.at s.dev.wls {} w).entry)) 58 3 = 0 →
    (s.dev.wnd.phase = 1 → ∃ d : Dev, exec (.wlEntryDone w rx) s = .next (s.withDev d) ∧ d.get K.WND_STATE = 5 ∧
      bit (d.get K.WND_STATUS) 6 = true ∧ bits (d.get K.WND_STATUS) 0 4 = s.dev.wnd.endRes % 16) ∧
    (s.dev.wnd.phase = 2 → ∃ d : Dev, exec (.wlEntryDone w rx) s = .next (s.withDev d) ∧ d.get K.WND_STATE = 4) ∧
    (s.dev.wnd.phase = 0 → ∃ d : Dev, exec (.wlEntryDone w rx) s = .next (s.withDev d) ∧ d.get K.WND_STATE = 2)) ∧
  (∀ s : State, s.up → s.dev.get K.WND_STATE = 2 → exec .winderHang s = .next (s.withBoth
    (raiseFault s.mem s.dev 28 0x0740 s.dev.wndInfo (if s.dev.get K.CHIP_STATE < 2 then
      some (305, (Config.causeOfFault 28).toNat, s.dev.wndInfo) else none) [] []))) ∧
  (∀ s : State, s.up → s.dev.get K.THERM_EN = 1 → s.dev.wnd.thermDue = false → exec .thermTrackDue s =
    .next (s.withDev { s.dev with wnd := { s.dev.wnd with thermDue := true, thermAt := s.dev.clk } })) ∧
  (∀ (temps : List Nat) (s : State), s.up → s.dev.wnd.thermDue = true → s.dev.get K.WND_STATE = 2 →
    exec (.thermTrack temps) s = .next (s.withDev { s.dev with wnd := { s.dev.wnd with therm := some temps } })) ∧
  (∀ (temps : List Nat) (s : State), s.up → s.dev.wnd.thermDue = true → s.dev.get K.WND_STATE ≠ 2 →
    ∃ d, exec (.thermTrack temps) s = .next (s.withDev d) ∧ d.wnd.thermDue = false ∧
      ∀ ch, ch < 256 →
        let t := match temps[ch / 64]? with | some t => t % 65536 | none => s.dev.get (K.SHAFT_TEMP (ch / 64))
        let target := -(roundHalf ((toSigned 16 t - toSigned 16 (s.dev.get (K.CAL_TEMP ch))) * toSigned 32 (s.dev.get K.THERM_COEFF)) 5000)
        let key := match s.dev.spareFor ch with | some k => K.SPE_THERM_ADJ k | none => K.THERM_ADJ ch
        let old := toSigned 16 (s.dev.get key)
        d.get key = if old = target then s.dev.get key else ofSigned 16 (if old < target then old + 1 else old - 1)) ∧
  (∀ s : State, s.up → s.dev.get K.WND_STATE = 2 → exec .shedSeq s = .next s) ∧
  (∀ s : State, s.up → s.dev.wnd.shedPend = true → s.dev.get K.WND_STATE ≠ 2 →
    let e : Dev := { s.dev with wnd := { s.dev.wnd with shedPend := false } }
    (s.dev.get K.SHED_LEVEL < 2 → exec .shedSeq s = .next (s.withDev e)) ∧
    (s.dev.get K.SHED_LEVEL = 2 → exec .shedSeq s = .next (s.withBoth ((List.range 52).foldl (fun (p : Memory × Dev) dd =>
      if p.2.get (K.PD_STATE dd) = 2 ∧ p.2.shedIdle dd then domDown p.1 p.2 dd 3 else p) (s.mem, e)))) ∧
    (s.dev.get K.SHED_LEVEL = 3 →
      let p := (List.range 52).foldl (fun (p : Memory × Dev) dd =>
        if p.2.get (K.PD_STATE dd) = 2 ∧ p.2.shedIdle dd then domDown p.1 p.2 dd 3 else p) (s.mem, e)
      exec .shedSeq s = .next (s.withBoth (p.1, p.2.rampNext))) ∧
    (s.dev.get K.SHED_LEVEL = 4 → ∃ p, exec .shedSeq s = .next (s.withBoth p) ∧ (∀ a, a / 2 ^ 64 = 1 → Memory.look p.1 a = none)))

/-- R356, R357, R361, R362, R364, R372: the ten micro-word sequencings. What a datapath condition says, or a nano-word loads
into the loop counter, is free (the nano-words are not given). -/
def Obligations.MicroWordsSequence : Prop :=
  ∀ (ecc : Nat) (s : State), s.up → s.dev.get K.WND_STATE = 2 → s.dev.wnd.phase = 0 →
    let w := s.dev.wnd
    let at0 := microAt (4 * w.pc)
    let word (op : Nat) : Prop := ∀ b, Memory.look s.mem (at0 + 3) = some b → b.toNat / 16 = op
    let arg := Memory.rdVal s.mem s.dev.fresh at0 4 % 2 ^ 17
    let goes (pc : Nat) : Host.Outcome State Fault Refusal := .next (s.withDev { s.dev with wnd := { w with pc := pc % 16384 } })
    let guess (pc : Nat) : Host.Outcome State Fault Refusal :=
      .next (s.withDev { s.dev with fresh := s.dev.fresh + 1, wnd := { w with pc := pc % 16384 } })
    (ecc ≠ 2 → w.waiting = false →
      (word 0 → exec (.microNext ecc) s = goes (w.pc + 1)) ∧
      (word 1 → exec (.microJmp ecc) s = goes (arg % 16384)) ∧
      (word 2 → bits arg 14 3 = 5 → exec (.microJcc ecc) s = goes (if w.timedOut then arg % 16384 else w.pc + 1)) ∧
      (word 2 → bits arg 14 3 ≠ 5 → exec (.microJcc ecc) s = guess (if Config.freeBit s.dev.fresh != (bits arg 14 3 == 1) then arg % 16384 else w.pc + 1)) ∧
      (word 3 → w.stack.length < 8 → exec (.microCall ecc) s = .next (s.withDev
        { s.dev with wnd := { w with stack := (w.pc + 1) % 16384 :: w.stack, pc := arg % 16384 } })) ∧
      (word 3 → 8 ≤ w.stack.length → exec (.microCall ecc) s = .next (s.withBoth (microTrapped s.mem s.dev))) ∧
      (∀ x l, word 4 → w.stack = x :: l →
        exec (.microRet ecc) s = .next (s.withDev { s.dev with wnd := { w with stack := l, pc := x % 16384 } })) ∧
      (word 4 → w.stack = [] → exec (.microRet ecc) s = .next (s.withBoth (microTrapped s.mem s.dev))) ∧
      -- a known SAFE word gives the STEP and the commit point; of an unknown one the STEP is the routine's next (R447)
      (let quiet := w.shedPend = false ∧ w.intr = 0 ∧ w.routine ≠ 6 ∧ w.therm = none ∧ w.adapts = []
       (word 5 → quiet → s.dev.skewOut = false → microKnown s.mem s.dev = true → ∃ d, exec (.microSafe ecc) s = .next (s.withDev d) ∧
         bits (d.get K.WND_STATUS) 8 16 = arg % 65536 ∧ d.wnd.pc = (w.pc + 1) % 16384 ∧ d.wnd.safeAt = s.dev.clk ∧
         bit (d.get K.WND_STATUS) 5 = (bit (s.dev.get K.WND_STATUS) 5 || (s.dev.wndSteps.2.isSome && bit arg 16))) ∧
       (word 5 → quiet → s.dev.skewOut = false → microKnown s.mem s.dev = false → ∃ d, exec (.microSafe ecc) s = .next (s.withDev d) ∧
         bits (d.get K.WND_STATUS) 8 16 = s.dev.wndNextStep % 65536 ∧
         bit (d.get K.WND_STATUS) 5 = (bit (s.dev.get K.WND_STATUS) 5 || s.dev.wndSteps.2 == some s.dev.wndNextStep)) ∧
       (∀ done, word 6 → quiet → (done = true ∨ bits arg 0 12 = 0) →
         ∃ d, exec (.microWaite ecc done) s = .next (s.withDev d) ∧ d.wnd.timedOut = !done ∧ d.wnd.pc = (w.pc + 1) % 16384) ∧
       (word 6 → quiet → bits arg 0 12 ≠ 0 → ∃ d, exec (.microWaite ecc false) s = .next (s.withDev d) ∧
         d.wnd.waiting = true ∧ d.wnd.waitAt = s.dev.clk ∧ d.wnd.pc = w.pc)) ∧
      (word 7 → 1 < w.loops → w.loops < 2 ^ 32 → exec (.microLoop ecc) s = .next (s.withDev
        { s.dev with wnd := { w with loops := w.loops - 1, pc := arg % 16384 } })) ∧
      (word 7 → w.loops = 1 → exec (.microLoop ecc) s = .next (s.withDev
        { s.dev with wnd := { w with loops := 0, pc := (w.pc + 1) % 16384 } })) ∧
      (word 8 → w.routine ∉ [1, 4, 6] → bit (s.dev.get K.WND_STATUS) 5 = true →
        exec (.microHalt ecc) s = .next (s.withDev s.dev.routineWrites.wndFinish)) ∧
      (word 8 → w.routine = 1 → bit (s.dev.get K.WND_STATUS) 5 = true → 16 ≤ bits w.arg 16 8 →
        exec (.microHalt ecc) s = .next (s.withDev (s.dev.pchCalWrite w.arg).wndFinish)) ∧
      (word 8 → w.routine = 1 → bit (s.dev.get K.WND_STATUS) 5 = true → bits w.arg 16 8 < 16 →
        (s.dev.pchCalWrite w.arg).get (K.WL_STATE (bits w.arg 16 8)) ≠ 2 →
        ∃ d : Dev, exec (.microHalt ecc) s = .next (s.withDev d) ∧ d.wnd.phase = 2 ∧ d.get (K.WL_STATE (bits w.arg 16 8)) = 2 ∧
          d.get K.WND_STATE = (s.dev.pchCalWrite w.arg).get K.WND_STATE) ∧
      (word 8 → w.routine ∉ [4, 6] → bit (s.dev.get K.WND_STATUS) 5 = false →
        exec (.microHalt ecc) s = .next (s.withBoth (wndUnwind s.mem s.dev.wndFailed 4))) ∧
      (word 8 → w.routine = 4 → exec (.microHalt ecc) s = .next (s.withBoth (ddrTrained s.mem s.dev))) ∧
      ((∀ b, Memory.look s.mem (at0 + 3) = some b → 9 ≤ b.toNat / 16) →
        exec (.microTrap ecc) s = .next (s.withBoth (if bit (s.dev.get K.WND_STATUS) 5 then
          raiseFault (wndHaltF s.mem s.dev (decide (1 ≤ s.dev.get (K.FAULT_REACT 27)))).1
            (wndHaltF s.mem s.dev (decide (1 ≤ s.dev.get (K.FAULT_REACT 27)))).2 27 0x0740
            (wndHaltF s.mem s.dev (decide (1 ≤ s.dev.get (K.FAULT_REACT 27)))).2.wndInfo none [] []
         else wndUnwind s.mem s.dev 4)))) ∧
    -- a WAITE that waits goes on when its source comes, or when its limit of 10 µs units has run out; no other word runs till then
    (ecc ≠ 2 → w.waiting = true → word 6 →
      exec (.microWaite ecc true) s = .next (s.withDev { s.dev with wnd := { w with waiting := false, timedOut := false, pc := (w.pc + 1) % 16384 } }) ∧
      (w.waitAt + 4000 * bits arg 0 12 ≤ s.dev.clk → exec (.microWaite ecc false) s = .next (s.withDev
        { s.dev with wnd := { w with waiting := false, timedOut := true, pc := (w.pc + 1) % 16384 } })) ∧
      (s.dev.clk < w.waitAt + 4000 * bits arg 0 12 → exec (.microWaite ecc false) s = .next s) ∧
      ∀ c ∈ [Instr.microNext ecc, .microJmp ecc, .microJcc ecc, .microCall ecc, .microRet ecc, .microSafe ecc, .microLoop ecc,
        .microHalt ecc, .microTrap ecc], exec c s = .next s) ∧
    (∀ q ∈ [(Instr.microNext 2, 0), (.microJmp 2, 1), (.microJcc 2, 2), (.microCall 2, 3), (.microRet 2, 4), (.microSafe 2, 5),
        (.microWaite 2 true, 6), (.microWaite 2 false, 6), (.microLoop 2, 7), (.microHalt 2, 8)], (w.waiting = true → q.2 = 6) → word q.2 →
      exec q.1 s = .next (s.withBoth (raiseFault s.mem s.dev 29 0x0740 s.dev.wndInfo (if s.dev.get K.CHIP_STATE < 2 then
        some (305, (Config.causeOfFault 29).toNat, s.dev.wndInfo) else none) [] [])))

/-- R54, R71 to R76, R84, R95, R101: the commands of SEQ_CMD. R91: SITE_CMD takes effect at the next granule boundary, and at
once where the sequencer issues nothing (log entry 56); a PARK accepted before stays so beside a MASK. -/
def Obligations.SequencerAndSiteCommands : Prop :=
  (∀ (r : Req) (n : Nat) (s : State), n < 64 →
      let key := K.SEQ_CMD n
      let st := s.dev.get (K.SEQ_STATE n)
      let run := s.dev.run n
      let p := tminP s.mem s.dev n
      (s.admits r key 1 1 →
        (∀ a, armChecks s.mem s.dev n = .error a → exec (.seqArm r n) s =
          .next (s.withDev ((s.dev.budgetNote s.mem n).refuse r 2 (key / 256) (key % 256) a))) ∧
        (armChecks s.mem s.dev n = .ok () → (budgetReport s.mem s.dev n p).2 = false → exec (.seqArm r n) s =
          .next (s.withDev ((s.dev.budgetNote s.mem n).refuse r 2 (key / 256) (key % 256) .range))) ∧
        (armChecks s.mem s.dev n = .ok () → (budgetReport s.mem s.dev n p).2 = true → exec (.seqArm r n) s =
          .next (s.answerBoth r key (seqArmed s.mem (s.dev.set (K.BUDGET_REPORT n) (budgetReport s.mem s.dev n p).1) n)))) ∧
      (s.admits r key 1 2 →
        (st = 1 → exec (.seqDisarm r n) s = .next (s.answerBoth r key (seqEnd s.mem s.dev n 0))) ∧
        (st ≠ 1 → exec (.seqDisarm r n) s = .next (s.refusal r key .state))) ∧
      (s.admits r key 1 3 → s.dev.loading (s.dev.armLoads n) = false → s.dev.wndHoldsSeq n = false →
        s.dev.gate (s.dev.seqDoms n ++ (if (s.dev.hewersOf n).isEmpty then [] else [49])) none = .ok () →
        let now := s.dev.tb1 + 200 + (if s.dev.tb1Sub = 0 then 0 else 1)
        let at0 := s.dev.get (K.START_AT n)
        (st ≠ 1 → exec (.seqStart r n) s = .next (s.refusal r key .state)) ∧
        (∀ g cfg, s.dev.bondOf n = some (g, cfg) → bit cfg 1 = true → bit (s.dev.get (K.SEQ_STATUS n)) 1 = true → st = 1 →
          run.startTick = none → at0 = 0 → s.dev.get (K.START_SRC n) % 8 ≠ 3 →
          let e := s.dev.setRun n { run with startTick := some (now + 4800) }
          exec (.seqStart r n) s = .next (s.answer r key (e.tellSeq (.startInstant (bits cfg 16 8) (now + 4800))))) ∧
        (∀ g cfg, s.dev.bondOf n = some (g, cfg) → st = 1 → s.dev.get (K.START_SRC n) % 8 = 3 →
          exec (.seqStart r n) s = .next (s.refusal r key .state)) ∧
        (s.dev.bondOf n = none →
        (st = 1 → run.startTick = none → at0 = 0 →
          exec (.seqStart r n) s = .next (s.answer r key (s.dev.setRun n { run with startTick := some now }))) ∧
        (st = 1 → run.startTick = none → at0 ≠ 0 → now ≤ at0 →
          exec (.seqStart r n) s = .next (s.answer r key (s.dev.setRun n { run with startTick := some at0 }))) ∧
        (st = 1 → run.startTick = none → at0 ≠ 0 → at0 < now → exec (.seqStart r n) s = .next (s.refusal r key .range)))) ∧
      (s.admits r key 1 4 →
        (st = 2 → run.drain = 0 → exec (.seqPause r n) s = .next (s.answer r key (s.dev.setRun n { run with pauseReq := true }))) ∧
        (st = 2 → run.drain ≠ 0 → exec (.seqPause r n) s = .next (s.answer r key s.dev)) ∧
        (st ≠ 2 → exec (.seqPause r n) s = .next (s.refusal r key .state))) ∧
      (s.admits r key 1 5 →
        let now := s.dev.tb1 + 200 + (if s.dev.tb1Sub = 0 then 0 else 1)
        (st = 3 → run.startTick = none → s.dev.get (K.START_AT n) = 0 →
          exec (.seqResume r n) s = .next (s.answer r key (s.dev.setRun n { run with startTick := some now }))) ∧
        (st ≠ 3 → exec (.seqResume r n) s = .next (s.refusal r key .state))) ∧
      (s.admits r key 1 6 →
        (st = 2 → run.drain = 0 → s.dev.get (K.CYCLE n) % 8 ≠ 0 → exec (.seqStop r n) s = .next (s.answer r key
          (s.dev.setRun n { run with stopReq := max 4 (if run.stopReq = 3 then 0 else run.stopReq) }))) ∧
        (st = 2 → run.drain = 0 → exec (.seqStop r n) s = .next (s.answerBoth r key (atBoundary s.mem
          (s.dev.setRun n { run with stopReq := max 4 (if run.stopReq = 3 then 0 else run.stopReq) }) n))) ∧
        (st = 2 → 1 ≤ run.drain → run.drain < 4 →
          let e := (s.dev.parkGang n run.gang).bondSend n 0
          exec (.seqStop r n) s = .next (s.answer r key (e.setRun n { e.run n with drain := 4 }))) ∧
        (st ∈ [1, 3, 4] →
          let e := seqEnd s.mem (s.dev.bondSend n 0) n 0
          exec (.seqStop r n) s = .next (s.answerBoth r key (atBoundary e.1 e.2 n))) ∧
        (st ∈ [0, 5] → exec (.seqStop r n) s = .next (s.refusal r key .state))) ∧
      (s.admits r key 1 7 →
        (st ∈ [2, 3] → exec (.seqJump r n) s =
          .next (s.answer r key (s.dev.setRun n { run with arrivals := run.arrivals + 1 }))) ∧
        (st ∉ [2, 3] → exec (.seqJump r n) s = .next (s.refusal r key .state)))) ∧
  (∀ (r : Req) (m : Nat) (s : State), m < 128 →
      let n := s.dev.get (K.SITE_SEQ m)
      let cond := s.dev.get (K.SITE_COND m)
      ∀ q ∈ [(Instr.sitePark r m, 1), (.siteMask r m, 2)], s.admits r (K.SITE_CMD m) 1 q.2 →
        ((64 ≤ n ∨ s.dev.get (K.SEQ_STATE n) ∉ [2, 3]) → exec q.1 s = .next (s.refusal r (K.SITE_CMD m) .state)) ∧
        (cond ∈ [0, 3] → exec q.1 s = .next (s.refusal r (K.SITE_CMD m) .state)) ∧
        (n < 64 → s.dev.get (K.SEQ_STATE n) ∈ [2, 3] → (cond = 1 ∨ (q.2 = 1 ∧ cond = 2)) →
          let e := s.dev.setSite m { s.dev.site m with cmd := setBit (s.dev.site m).cmd (q.2 - 1) }
          ((s.dev.get (K.SEQ_STATE n) = 3 ∨ (e.run n).drain ≠ 0) →
            exec q.1 s = .next (s.answerBoth r (K.SITE_CMD m) (siteCmdsNow s.mem e n))) ∧
          (s.dev.get (K.SEQ_STATE n) = 2 → (e.run n).drain = 0 →
            exec q.1 s = .next (s.answerBoth r (K.SITE_CMD m) (atBoundary s.mem e n))) ∧
          (s.dev.get (K.SEQ_STATE n) = 2 → (e.run n).drain = 0 → s.dev.get (K.CYCLE n) % 8 ≠ 0 → exec q.1 s = .next (s.answer r (K.SITE_CMD m) e))))

/-- R73, R74, R80 to R87: the start instant, the end of a hold, and the arrival of a jump request. R84, R99, R184: the edges
of the trigger lines. -/
def Obligations.StartsHoldsAndTriggers : Prop :=
  (∀ (n : Nat) (s : State), n < 64 → s.up →
      let run := s.dev.run n
      let st := s.dev.get (K.SEQ_STATE n)
      let cyc := s.dev.get (K.CYCLE n)
      (run.startTick = none → (st ≠ 1 ∨ s.dev.get (K.START_SRC n) % 8 ≠ 3 ∨ s.dev.bondOf n = none) → exec (.startInstant n) s = .next s) ∧
      (∀ g cfg, run.startTick = none → st = 1 → s.dev.get (K.START_SRC n) % 8 = 3 → s.dev.bondOf n = some (g, cfg) →
        (bit cfg 1 = true → exec (.startInstant n) s = .next s) ∧
        (bit cfg 1 = false → exec (.startInstant n) s = .next (s.withBoth (memberLate s.mem s.dev n)))) ∧
      (∀ tick, run.startTick = some tick → st = 1 → exec (.startInstant n) s = .next (s.withBoth (startNow s.mem s.dev n tick))) ∧
      (∀ tick, run.startTick = some tick → st = 3 → exec (.startInstant n) s = .next (s.withBoth (resumeNow s.mem s.dev n tick))) ∧
      (∀ c, st = 2 → s.dev.hold n ∈ [1, 2] → run.holdLeft = 0 → (∀ f ∈ run.flight, cyc < f.cycle + s.dev.get (K.RL n) + 1) →
        run.holdThen = some c → run.pauseReq = false → run.pauseDue = false →
        exec (.holdEnd n) s = .next (s.withBoth (atBoundary s.mem (s.dev.goOn n c) n))) ∧
      (∀ c, st = 2 → s.dev.hold n = 3 → run.holdLeft = 0 → (∀ f ∈ run.flight, cyc < f.cycle + s.dev.get (K.RL n) + 1) →
        run.cur = some c → run.pauseReq = false → run.pauseDue = false →
        let q := commitSucc s.mem s.dev n (if run.exited then run.jumpIdx else segNext c.raw) 0
        exec (.holdEnd n) s = .next (s.withBoth (atBoundary q.1 (q.2.1.goOn n q.2.2) n))) ∧
      (0 < run.arrivals → st ∈ [2, 3] → cyc % 8 = 0 → (st = 3 ∨ s.dev.retiredUp n = true) →
        let e := (s.dev.setRun n { run with arrivals := run.arrivals - 1 }).set (K.EXTJ_ARRIVE n) cyc
        ((s.dev.hold n = 1 ∨ s.dev.extj n = true) → exec (.jumpRequestArrival n) s = .next (s.withDev (e.bump (K.EXTJ_MERGED n)))) ∧
        (s.dev.hold n ≠ 1 → s.dev.extj n = false → (8 ≤ n ∨ ∀ c, run.cur = some c → segFast c.raw = false) →
          exec (.jumpRequestArrival n) s = .next (s.withDev (e.setExtj n true))) ∧
        (∀ c, s.dev.hold n = 0 → s.dev.extj n = false → n < 8 → run.cur = some c → st = 2 → run.drain = 0 → segFast c.raw = true →
          segCond c.raw = 1 → bit c.raw 155 = false → run.fast = none →
          let j := commitOf s.mem e n (segJump c.raw) (match run.altSeg with | some a => a.seg | none => run.nseg)
          exec (.jumpRequestArrival n) s = .next (s.withBoth (atBoundary s.mem
            ((e.setRun n { e.run n with takenPend := true, nseg := run.nseg + 1, fast := some j }).readDir n) n)))) ∧
      ((cyc % 8 ≠ 0 ∨ run.arrivals = 0) → exec (.jumpRequestArrival n) s = .next s)) ∧
  (∀ (line : Nat) (s : State), line < 8 → s.up →
      (∀ up, bit s.dev.trigIn line = up → exec (.trigInEdge line up) s = .next s) ∧
      (bit s.dev.trigIn line = true → exec (.trigInEdge line false) s =
        .next (s.withDev (asyNotify { s.dev with trigIn := putBit s.dev.trigIn line false } 1 line false))) ∧
      (bit s.dev.trigIn line = false → ∃ d, exec (.trigInEdge line true) s = .next (s.withDev d) ∧ bit d.trigIn line = true ∧
        ∀ n, n < 64 → s.dev.get (K.SEQ_STATE n) ∈ [2, 3] → bit (s.dev.get (K.EXTJ_SRC n)) line = true →
          (d.run n).arrivals = (s.dev.run n).arrivals + 1) ∧
      (∀ lvl, bit s.dev.tbus line ≠ lvl → exec (.tbusEdge line lvl) s =
        .next (s.withDev (asyNotify { s.dev with tbus := putBit s.dev.tbus line lvl } 2 line lvl))) ∧
      (∀ x y l, Table.at s.dev.trigOut [] line = x :: y :: l → exec (.trigOutEnd line) s = .next (s.withDev
        { s.dev with trigOut := Table.put s.dev.trigOut line ((x :: y :: l).erase ((y :: l).foldl min x)) })) ∧
      (∀ x, Table.at s.dev.trigOut [] line = [x] → exec (.trigOutEnd line) s =
        .next (s.withDev { s.dev with trigOut := Table.del s.dev.trigOut line })) ∧
      (Table.at s.dev.trigOut [] line = [] → exec (.trigOutEnd line) s = .next s))

/-- R20, R26, R102, R103: a VP inside a granule issues: CYCLE counts it, it is in flight, and the next VP begins one vector
period later; a held VP is counted as dead time and drives nothing new (R80, R104). R60, R69, R99, R122: the actions of a
segment's first VP: the sealed sets its commit took become active and their seals clear, CNT is loaded, each TRIG_OUT line
named is pulsed, and CUR_ENTRY follows (no Dowser engine is active or waits). R58, R64, R67: the decision point: HALT has no
successor, CALL and RETURN use the return stack, and another segment ends with JUMP where COND is true, ends with NEXT after
its last iteration (with a compare-dependent COND, by exhaustion), and else is iterated again. R37, R39, R48, R49: a granule
of every slice is taken from its code buffer: BUF_LOW follows each fill, and nothing else changes where every slice has its
granule without an error; a slice that has none, or one with an error, raises the sequencer's fault. R21, R64, R69: the VP at
a granule boundary, where nothing else is due there: the granule starts, then the VP issues; the first VP of an iteration sets
CUR_ITER and decrements CNT where the segment says so, the first of a segment takes the segment's actions first, and the VP 64
before the iteration's end fixes the successor. -/
def Obligations.VectorPositionsIssue : Prop :=
  (∀ (n : Nat) (samples : List Sample) (s : State), n < 64 → s.up →
      let run := s.dev.run n
      let cyc := s.dev.get (K.CYCLE n)
      (vpDue s.mem s.dev n = false → exec (.vpIssue n samples) s = .next s) ∧
      (∀ c, vpDue s.mem s.dev n = true → cyc + 1 < 2 ^ 48 → cyc % 8 ≠ 0 → (cyc + 1) % 8 ≠ 0 → s.dev.hold n = 0 → run.cur = some c →
        run.off % 8 ≠ 0 → run.off + 64 ≠ segLen c.raw → run.off + 1 ≠ segLen c.raw → segCond c.raw ≠ 8 →
        (∀ f ∈ run.flight, segCond f.raw ≠ 8) →
        let p := periodP (s.dev.get (K.ACT_PERIOD n (segTset c.raw)))
        let t := if run.lastP ≠ 0 ∧ run.lastP ≠ p then 128 * (run.t / 128) else run.t
        ∃ d f, exec (.vpIssue n samples) s = .next (s.withDev d) ∧ d.get (K.CYCLE n) = cyc + 1 ∧
          d.run n = { run with flight := run.flight ++ [f], off := run.off + 1, t := t + p, lastP := p, slots := run.slots + 1 } ∧
          f.cycle = cyc ∧ f.seg = c.seg ∧ f.iter = run.iter ∧ f.t = t ∧ f.last = false) ∧
      (vpDue s.mem s.dev n = true → cyc % 8 ≠ 0 → (cyc + 1) % 8 ≠ 0 → s.dev.hold n ∈ [1, 2, 3] → 0 < run.holdLeft → run.lastP ≠ 0 →
        (∀ f ∈ run.flight, segCond f.raw ≠ 8) → cyc + 1 < 2 ^ 48 → s.dev.get (K.DEADTIME_VP n) + 1 < 2 ^ 32 →
        exec (.vpIssue n samples) s = .next (s.withDev ((((s.dev.parkGang n (s.dev.parkDueChans n)).setRun n
          { run with holdLeft := run.holdLeft - 1, t := run.t + run.lastP, slots := run.slots + 1 }).set (K.CYCLE n) (cyc + 1)).set
            (K.DEADTIME_VP n) (s.dev.get (K.DEADTIME_VP n) + 1))))) ∧
  (∀ (m : Memory) (d : Dev) (n : Nat) (c : Commit), n < 64 →
      let r := d.run n
      let e := (segStart m d n c).2
      (∀ k, k < 4 → d.get (K.DWS_STATE k) ∉ [2, 3] ∧ (d.dws k).pend = []) → (∀ p, p ∈ r.gang → p.1 < 256) →
      e.get (K.CUR_ENTRY n) = c.idx ∧ e.get (K.CYCLE n) = d.get (K.CYCLE n) ∧
      (segCntOp c.raw ∈ [1, 3] → e.get (K.CNT n) = bits c.raw 113 24) ∧
      (segCntOp c.raw ∉ [1, 3] → e.get (K.CNT n) = d.get (K.CNT n)) ∧
      (r.takenPend = true → e.get (K.EXTJ_TAKEN n) = d.get (K.CYCLE n)) ∧
      (∀ line, line < 8 → bit (segTrig c.raw) line = true → Table.at e.trigOut [] line = Table.at d.trigOut [] line ++
        [r.t + d.get (K.TRIG_OUT_DELAY n) * 256 / 1000 + 256000 * d.get (K.TRIG_WIDTH n)]) ∧
      (c.sets = 0 → ∀ t, t < 32 → e.get (K.ACT_PERIOD n t) = d.get (K.ACT_PERIOD n t) ∧
        e.get (K.TSET_SEAL n) = d.get (K.TSET_SEAL n) ∧ e.get (K.HANDOVERS n) = d.get (K.HANDOVERS n)) ∧
      (c.sets ≠ 0 → e.get (K.HANDOVER_SETS n) = c.sets ∧ e.get (K.HANDOVER_ENTRY n) = c.idx ∧
        e.get (K.HANDOVER_CYCLE n) = d.get (K.CYCLE n) ∧
        (d.get (K.HANDOVERS n) + 1 < 2 ^ 32 → e.get (K.HANDOVERS n) = d.get (K.HANDOVERS n) + 1) ∧
        (∀ t, t < 32 → bit c.sets t = true → bit (e.get (K.TSET_SEAL n)) t = false ∧
          e.get (K.ACT_PERIOD n t) = d.get (K.TSET_PERIOD n t) ∧ ∀ p, p ∈ r.gang →
            e.get (K.ACT_EDGE_A p.1 t) = d.get (K.EDGE_A p.1 t) ∧ e.get (K.ACT_EDGE_B p.1 t) = d.get (K.EDGE_B p.1 t) ∧
            e.get (K.ACT_FMT p.1 t) = d.get (K.FMT p.1 t)) ∧
        (∀ t, t < 32 → bit c.sets t = false → bit (e.get (K.TSET_SEAL n)) t = bit (d.get (K.TSET_SEAL n)) t ∧
          e.get (K.ACT_PERIOD n t) = d.get (K.ACT_PERIOD n t)))) ∧
  (∀ (m : Memory) (d : Dev) (n : Nat) (c : Commit), n < 64 → (d.run n).cur = some c →
      let r := d.run n
      let e := c.raw
      let q := decidePoint m d n
      let goes (i : Nat) : Prop := ∃ k, (q.2.run n).next = some (.seg k) ∧ k.idx = i
      let plain := segKind e ∉ [3, 4, 5]
      let true' := (condTrue d n e).1 = true
      (segKind e = 5 → q = (m, d.setRun n { r with next := some .halt })) ∧
      (segKind e = 3 → goes (segJump e)) ∧
      (segKind e = 3 → r.stack.length < 16 → bit (segEntry m d n (segJump e)) 107 = false → (q.2.run n).stack = segNext e :: r.stack) ∧
      (segKind e = 4 → r.stack = [] → (q.2.run n).next = some .halt) ∧
      (∀ i l, segKind e = 4 → r.stack = i :: l → goes i ∧ (bit (segEntry m d n i) 107 = false → (q.2.run n).stack = l)) ∧
      (plain → true' → goes (segJump e)) ∧
      (plain → ¬ true' → segRepeat e ≠ 0 → r.iter + 1 = segRepeat e → compareDep (segCond e) = false → goes (segNext e)) ∧
      (plain → ¬ true' → segRepeat e ≠ 0 → r.iter + 1 = segRepeat e → compareDep (segCond e) = true → (q.2.run n).next = some .exhaust) ∧
      (plain → ¬ true' → (segRepeat e = 0 ∨ r.iter + 1 ≠ segRepeat e) → (q.2.run n).next = some .again) ∧
      (segCond e = 0 → (condTrue d n e).1 = false) ∧ (segCond e = 1 → (condTrue d n e).1 = (d.extj n != bit e 155)) ∧
      (segCond e = 5 → (condTrue d n e).1 = ((d.get (K.CNT n) == 0) != bit e 155)) ∧
      (segCond e = 7 → (condTrue d n e).1 = (d.almSeen n (segArg e % 32) != bit e 155)) ∧
      (segCond e ∈ [2, 4] → d.activeSites n = [] → (condTrue d n e).1 = true)) ∧
  (∀ (m : Memory) (d : Dev) (n : Nat) (c : Commit) (iter g : Nat),
      let all := Table.at d.slices [] n
      let found (s : Slice) (err : Nat) : Prop := s.bad = false ∧ c.bad.contains s.seam = false ∧
        ∃ x, findGran s.buf c.seg iter g = some x ∧ x.err = err
      let q := granuleStart m d n c iter g
      ((all.map (·.seam)).Nodup → (∀ s, s ∈ all → found s 0) → ∃ e, q = (m, e) ∧ e.objs = d.objs ∧ e.runs = d.runs ∧
        Table.at e.slices [] n = all.map (fun s => { s with low := min s.low (min 32 (fillOf (trimBuf s.buf c.seg iter g))) })) ∧
      (∀ s, all = [s] → s.bad = true → q = (m, d)) ∧
      (∀ s err, all = [s] → err ∈ [7, 8] → found s err → ∃ e, q = seqFault m e n err c.idx (d.get (K.CYCLE n))
          ((d.sitesIn n s.seam).map (fun x => (x, d.get (K.CYCLE n)))) ∧
        e.get (K.BLOCK_ERR n) = fld 28 4 s.seam + fld 0 24 g ∧ (Table.at e.slices [] n).map (·.bad) = [true]) ∧
      (∀ s, all = [s] → s.bad = false → c.bad.contains s.seam = false → findGran s.buf c.seg iter g = none →
        ∃ e, q = seqFault m e n 6 c.idx (d.get (K.CYCLE n)) ((d.sitesIn n s.seam).map (fun x => (x, d.get (K.CYCLE n)))) ∧
          (Table.at e.slices [] n).map (fun s => (s.bad, s.low)) = [(true, 0)])) ∧
  (∀ (n : Nat) (samples : List Sample) (s : State) (c : Commit), n < 64 → s.up →
      let run := s.dev.run n
      let cyc := s.dev.get (K.CYCLE n)
      let g := granuleStart s.mem s.dev n c run.iter (run.off / 8)
      let h := hewGranule g.1 g.2 n
      vpDue s.mem s.dev n = true → s.dev.hold n = 0 → run.cur = some c → run.off % 8 = 0 → cyc % 8 = 0 → cyc + 1 < 2 ^ 48 →
      atBoundary s.mem s.dev n = (s.mem, s.dev) → atBoundary h.1 h.2 n = h → h.2.get (K.SEQ_STATE n) = 2 → (h.2.run n).drain = 0 →
      segCond c.raw ≠ 8 → (∀ f ∈ run.flight, segCond f.raw ≠ 8) → (run.off + 64 = segLen c.raw → segKind c.raw = 5) →
      (∀ k, k < 4 → s.dev.get (K.DWS_STATE k) ∉ [2, 3] ∧ (s.dev.dws k).pend = []) → (∀ p, p ∈ run.gang → p.1 < 256) →
      ∃ m d, exec (.vpIssue n samples) s = .next (s.withBoth (m, d)) ∧ d.get (K.CYCLE n) = cyc + 1 ∧ (d.run n).off = run.off + 1 ∧
        (run.off = 0 → d.get (K.CUR_ITER n) = run.iter) ∧
        (run.off = 0 → run.iter = 0 → d.get (K.CUR_ENTRY n) = c.idx ∧
          (segCntOp c.raw = 1 → d.get (K.CNT n) = bits c.raw 113 24) ∧
          (segCntOp c.raw = 3 → d.get (K.CNT n) = bits c.raw 113 24 - 1)) ∧
        (run.off = 0 → segCntOp c.raw = 2 → d.get (K.CNT n) = s.dev.get (K.CNT n) - 1) ∧
        (run.off + 64 = segLen c.raw → (d.run n).next = some .halt) ∧
        (run.off + 64 ≠ segLen c.raw → (d.run n).next = run.next))

/-- R102: P is the period in femtoseconds times 256 / 1,000, rounded to the nearest whole unit with halves up; 156,250 fs is
exactly 40,000 units. -/
def Obligations.PeriodsRoundHalfUp : Prop :=
  (∀ fs : Nat, 2000 * periodP fs ≤ 512 * fs + 1000 ∧ 512 * fs + 1000 < 2000 * (periodP fs + 1)) ∧ periodP 156250 = 40000

/-- R22, R23: RL of a sequencer outside a bond group is the loop latency in vector periods, up to a whole granule. R21, R25,
R158: the oldest VP retires RL VP after its issue; a squashed one is only counted. R158 to R162: a VP that fails at a site is
counted once there, each failing channel is marked, and the first fail of a run is recorded. -/
def Obligations.VectorPositionsRetire : Prop :=
  (∀ (d : Dev) (n p : Nat), d.get (K.BOND_GROUP n) = 0 → 1 ≤ p →
      d.groupRl n p % 8 = 0 ∧ d.get (K.LOOP_LATENCY n) * 256 ≤ d.groupRl n p * (1000 * p) ∧
      (∀ k, k % 8 = 0 → d.get (K.LOOP_LATENCY n) * 256 ≤ k * (1000 * p) → d.groupRl n p ≤ k)) ∧
  (∀ (n : Nat) (f : InFlight) (rest : List InFlight) (s : State), n < 64 → s.up → s.dev.get (K.SEQ_STATE n) = 2 →
      (s.dev.run n).flight = f :: rest → (s.dev.run n).drain = 0 → s.dev.get (K.CYCLE n) % 8 ≠ 0 →
      (∀ e, e < 4 → s.dev.get (K.DWS_SEQ e) ≠ n) →
      let out := s.dev.setRun n { s.dev.run n with flight := rest }
      (s.dev.get (K.CYCLE n) < f.cycle + s.dev.get (K.RL n) + 1 → exec (.vpRetire n []) s = .next s) ∧
      (f.cycle + s.dev.get (K.RL n) + 1 ≤ s.dev.get (K.CYCLE n) → (s.dev.run n).squashes f = true →
        exec (.vpRetire n []) s = .next (s.withDev ((out.bump (K.SQUASHED_VP n)).bondPrune n))) ∧
      (f.cycle + s.dev.get (K.RL n) + 1 ≤ s.dev.get (K.CYCLE n) → (s.dev.run n).squashes f = false →
        let q := retireCounts s.mem out n f
        (q.2.run n).drain = 0 → q.2.get (K.CYCLE n) % 8 ≠ 0 → exec (.vpRetire n []) s = .next (s.withBoth (q.1, q.2.bondPrune n)))) ∧
  (∀ (d : Dev) (n m : Nat) (f : InFlight), n < 64 → m < 128 → d.discarded m f = false → f.inMatch = false →
      (∀ x ∈ f.res, x.chan < 256 ∧ x.inval = false) → d.siteFails m f ≠ [] → d.get (K.SITE_FAILS m) + 1 < 2 ^ 32 →
      (d.siteRetire n m f).get (K.SITE_FAILS m) = d.get (K.SITE_FAILS m) + 1 ∧
      (∀ x ∈ d.siteFails m f, bit ((d.siteRetire n m f).get (K.FAIL_CHANS m (x.chan / 64))) (x.chan % 64) = true) ∧
      (d.get (K.SITE_FAILS m) = 0 →
        (d.siteRetire n m f).get (K.FF_CYCLE m) = f.cycle % 2 ^ 48 ∧ (d.siteRetire n m f).get (K.FF_ENTRY m) = f.idx ∧
        (d.siteRetire n m f).get (K.FF_ITER m) = f.iter))

/-- R31, R33, R34: the next block of a slice is expanded into its code buffer by the command of its type, and by no other.
R47, R48: lines from DDR4 enter the window of the first sub-stream that still fetches. -/
def Obligations.BlocksExpandFromTheirWindows : Prop :=
  (∀ (n seam ecc : Nat) (s : State) (x : Slice), n < 64 → seam < 16 → s.up → s.dev.seqLive n = true →
      (Table.at s.dev.slices [] n).find? (fun y => y.seam == seam) = some x → x.bad = false → x.alt = none → fillOf x.buf < 32 →
      ∀ e b, expReady (s.dev.run n) seam x.exp = some e → nextBlock s.mem s.dev n seam e = some b →
      let g := e.take b ecc
      let put (y : Slice) : Dev :=
        let l := (Table.at s.dev.slices [] n).map (fun z => if z.seam = seam then y else z)
        { s.dev with slices := Table.put s.dev.slices n l }
      ∀ q ∈ [(Instr.lit n seam ecc, 0), (.rep n seam ecc, 1), (.dict n seam ecc, 2), (.delta n seam ecc, 3), (.scan n seam ecc, 4),
          (.run n seam ecc, 5)],
        ((b.type = q.2 ∨ b.type = 6) → ecc ≠ 1 →
          exec q.1 s = .next (s.withDev ((put { x with exp := some g.2, buf := x.buf ++ [g.1] }).winRead n g.2))) ∧
        ((b.type = q.2 ∨ b.type = 6) → ecc = 1 → exec q.1 s =
          .next (s.withDev (((put { x with exp := some g.2, buf := x.buf ++ [g.1] }).bump (K.LODE_ECC_CORR n)).winRead n g.2))) ∧
        (b.type ≠ q.2 → b.type ≠ 6 → exec q.1 s = .next s)) ∧
  (∀ (n w ecc : Nat) (s : State), n < 64 → w < 16 → s.up →
      let x := s.dev.win n w
      let cfg := s.dev.get (K.WIN_CFG n w)
      (x.queue = [] → exec (.refillLines n w ecc) s = .next s) ∧
      (∀ f q, x.queue = f :: q → s.dev.get K.DDR_STATE = 3 → ecc ≠ 2 → (∀ a ∈ s.dev.badDdr, a < f.addr ∨ f.addr + 64 ≤ a) →
        s.dev.sliceBad n f.seam = false → s.dev.get (K.LODE_BASE n) < 2 ^ 32 → 0 < f.left → x.wr - x.rd + min 4 f.left ≤ winSize cfg →
        ∃ m d, exec (.refillLines n w ecc) s = .next (s.withBoth (m, d)) ∧ (d.win n w).wr = x.wr + min 4 f.left ∧
          (d.win n w).rd = x.rd ∧ bits (d.get (K.WIN_STAT n w)) 0 16 = (x.wr + min 4 f.left - x.rd) % 65536 ∧
          (∀ a, a / 2 ^ 64 ≠ 2 → Memory.look m a = Memory.look s.mem a)) ∧
      (s.dev.get K.DDR_STATE ∉ [3, 5] → exec (.refillLines n w ecc) s = .next s))

/-- R31, R33, R34, R36, R52: what a block with no ECC error gives: REP and RUN the previous codes, LIT its own, DICT the entry
of the dictionary, DELTA and SCAN the previous codes with the masked positions replaced; a first block of another type, a
reserved type, SCAN in an image that forbids it, an index past the dictionary and a RUN of no granule or past the segment's
end the BLOCK_FORMAT error (7); a block read with an ECC error 8. R31: DELTA replaces exactly the codes of the positions its
mask names, in ascending order of position. R31, R35: SCAN replaces exactly the codes of the positions its mask names, in
ascending order of position: bit v of a position's group selects the channel's second code of the pair for VP v, else the
first. -/
def Obligations.BlockMeanings : Prop :=
  (∀ (m : Memory) (d : Dev) (n seam h : Nat) (e : Expander), readSub m d n e 4 = .val h false →
      (6 ≤ h → nextBlock m d n seam e = some ⟨6, 7, 0, 1, 4⟩) ∧
      (h = 4 → imageField m d n 32 8 = 1 → nextBlock m d n seam e = some ⟨6, 7, 0, 1, 4⟩) ∧
      (e.g = 0 → h ∈ [1, 3, 5] → nextBlock m d n seam e = some ⟨h, 7, 0, 1, 4⟩) ∧
      (e.g = 0 → h = 4 → ∃ t, nextBlock m d n seam e = some ⟨t, 7, 0, 1, 4⟩) ∧
      (0 < e.g → h = 1 → nextBlock m d n seam e = some ⟨1, 0, e.prev.getD 0, 1, 4⟩) ∧
      (∀ v, h = 0 → readSub m d n e 516 = .val v false → nextBlock m d n seam e = some ⟨0, 0, v / 16, 1, 516⟩) ∧
      (∀ v, 0 < e.g → h = 5 → readSub m d n e 12 = .val v false → v / 16 ≠ 0 → e.g + v / 16 ≤ granules e.entry →
        nextBlock m d n seam e = some ⟨5, 0, e.prev.getD 0, v / 16, 12⟩) ∧
      (∀ v, 0 < e.g → h = 5 → readSub m d n e 12 = .val v false → (v / 16 = 0 ∨ granules e.entry < e.g + v / 16) →
        nextBlock m d n seam e = some ⟨5, 7, 0, 1, 12⟩) ∧
      (∀ v, h = 2 → readSub m d n e 16 = .val v false →
        let first := d.get (K.LODE_BASE n) + d.get (K.DICT_OFFSET n) + 4 * (v / 16)
        let past := d.get (K.DICT_COUNT n) ≤ v / 16 ∨ d.get (K.LODE_LINES n) < d.get (K.DICT_OFFSET n) + 4 * (v / 16) + 4
        (past → nextBlock m d n seam e = some ⟨2, 7, 0, 1, 16⟩) ∧
        (¬ past → (∃ k, k < 4 ∧ d.lineBad m (first + k) = true) → nextBlock m d n seam e = some ⟨2, 8, 0, 1, 16⟩) ∧
        (¬ past → (∀ k, k < 4 → d.lineBad m (first + k) = false) →
          nextBlock m d n seam e = some ⟨2, 0, Memory.rdVal m d.fresh (lodeAt (16 * first)) 64, 1, 16⟩)) ∧
      (∀ v w, 0 < e.g → h = 3 → readSub m d n e 20 = .val v false → readSub m d n e (20 + 32 * popCount 16 (v / 16)) = .val w false →
        nextBlock m d n seam e =
          some ⟨3, 0, deltaCodes (e.prev.getD 0) (v / 16) (w / 2 ^ 20), 1, 20 + 32 * popCount 16 (v / 16)⟩) ∧
      (∀ v w, 0 < e.g → h = 4 → imageField m d n 32 8 ≠ 1 → readSub m d n e 20 = .val v false →
        readSub m d n e (20 + 8 * popCount 16 (v / 16)) = .val w false →
        let pair (c : Nat) : Nat := d.get (if bit e.entry 111 then K.SCAN_PAIR_B (16 * seam + c) else K.SCAN_PAIR_A (16 * seam + c))
        nextBlock m d n seam e =
          some ⟨4, 0, scanCodes pair (e.prev.getD 0) (v / 16) (w / 2 ^ 20), 1, 20 + 8 * popCount 16 (v / 16)⟩)) ∧
  (∀ (prev mask data v pos : Nat), v < 8 → pos < 16 →
      (bit mask pos = false → bits (deltaCodes prev mask data) (4 * (16 * v + pos)) 4 = bits prev (4 * (16 * v + pos)) 4) ∧
      (bit mask pos = true → bits (deltaCodes prev mask data) (4 * (16 * v + pos)) 4 =
        bits data (32 * ((setBits 16 mask).filter (fun q => decide (q < pos))).length + 4 * v) 4)) ∧
  (∀ (pair : Nat → Nat) (prev mask data v pos : Nat), v < 8 → pos < 16 → pair pos < 256 →
      (bit mask pos = false → bits (scanCodes pair prev mask data) (4 * (16 * v + pos)) 4 = bits prev (4 * (16 * v + pos)) 4) ∧
      (bit mask pos = true →
        let b := bit data (8 * ((setBits 16 mask).filter (fun q => decide (q < pos))).length + v)
        bits (scanCodes pair prev mask data) (4 * (16 * v + pos)) 4 = if b then pair pos / 16 else pair pos % 16))

/-- R122 to R125, R132, R133: sealing of timing sets, and the mapping of spare channel engines. R124: a set that is sealed
already is refused with SEALED, one a Dowser engine claims with BUSY. -/
def Obligations.TimingSetsSeal : Prop :=
  (∀ (r : Req) (n mask : Nat) (s : State), n < 64 → s.admits r (K.TSET_SEAL n) 4 mask →
      let sealed := s.dev.set (K.TSET_SEAL n) (s.dev.get (K.TSET_SEAL n) ||| mask)
      (∀ a, s.dev.sealCheck n mask = .error a → exec (.tsetSeal r n mask) s = .next (s.refusal r (K.TSET_SEAL n) a)) ∧
      (s.dev.sealCheck n mask = .ok () → s.dev.seqLive n = true →
        exec (.tsetSeal r n mask) s = .next (s.answer r (K.TSET_SEAL n) sealed)) ∧
      (s.dev.sealCheck n mask = .ok () → s.dev.seqLive n = false → mask ≠ 0 → exec (.tsetSeal r n mask) s =
        .next (s.answer r (K.TSET_SEAL n)
          ({ sealed with fresh := s.dev.fresh + 1 }.handOver n (sealed.gangOf n) mask 0xFFFF (Config.freeWord s.dev.fresh).toNat)))) ∧
  (∀ (d : Dev) (n t : Nat), t < 32 →
      (bit (d.get (K.TSET_SEAL n)) t = true → d.sealCheck n (2 ^ t) = .error .sealed) ∧
      (bit (d.get (K.TSET_SEAL n)) t = false → d.claimed n t = true → d.sealCheck n (2 ^ t) = .error .busy) ∧
      (bit (d.get (K.TSET_SEAL n)) t = false → d.claimed n t = false → d.get (K.TSET_PERIOD n t) = 0 →
        d.sealCheck n (2 ^ t) = .error .range) ∧
      (bit (d.get (K.TSET_SEAL n)) t = false → d.claimed n t = false → d.seqLive n = true →
        periodP (d.get (K.TSET_PERIOD n t)) < periodP (d.get (K.TMIN n)) → d.sealCheck n (2 ^ t) = .error .range))

/-- R132, R133: a spare channel engine is mapped to a channel that is free, or unmapped. -/
def Obligations.SparesMapToFreeChannels : Prop :=
  ∀ (r : Req) (k v : Nat) (s : State), k < 8 → (v < 64 ∨ v = 0xFF) → s.admits r (K.SPE_TARGET k) 1 v → s.dev.underTest [22 + k / 2] none = false →
    let base := k / 2 * 64
    let old := s.dev.get (K.SPE_TARGET k)
    let other := if k % 2 = 0 then k + 1 else k - 1
    let free := (v = 0xFF ∨ s.dev.chanFree (base + v) = true) ∧ (old = 0xFF ∨ s.dev.chanFree (base + old) = true)
    (¬free → exec (.speTargetWrite r k v) s = .next (s.refusal r (K.SPE_TARGET k) .state)) ∧
    (free → s.dev.get (K.SPE_STATE k) = 2 → exec (.speTargetWrite r k v) s = .next (s.refusal r (K.SPE_TARGET k) .range)) ∧
    (free → s.dev.get (K.SPE_STATE k) ≠ 2 → v ≠ 0xFF → s.dev.get (K.SPE_TARGET other) = v →
      exec (.speTargetWrite r k v) s = .next (s.refusal r (K.SPE_TARGET k) .range)) ∧
    (free → s.dev.get (K.SPE_STATE k) ≠ 2 → (v = 0xFF ∨ s.dev.get (K.SPE_TARGET other) ≠ v) → (old = 0xFF ∨ old < 64) →
      ∃ d, exec (.speTargetWrite r k v) s = .next (s.answer r (K.SPE_TARGET k) d) ∧ d.get (K.SPE_TARGET k) = v ∧
        d.get (K.SPE_STATE k) = (if v = 0xFF then 0 else 1) ∧
        (∀ key, key ≠ K.SPE_TARGET k → key ≠ K.SPE_STATE k → (∀ ch, ch < 256 → key ≠ K.SPARE_BY ch) → d.get key = s.dev.get key))

/-- R127, R128: the time measurement units. -/
def Obligations.TmuMeasures : Prop :=
  (∀ (r : Req) (k : Nat) (s : State), k < 4 → s.admits r (K.TMU_CMD k) 1 1 → s.dev.gate [49] none = .ok () → s.dev.domOn 49 = true →
    ((s.dev.tmu k).holder ≠ 0 → exec (.tmuStart r k) s = .next (s.refusal r (K.TMU_CMD k) .busy)) ∧
    ((s.dev.tmu k).holder = 0 → s.dev.get (K.TMU_STATE k) = 2 → exec (.tmuStart r k) s = .next (s.refusal r (K.TMU_CMD k) .state)) ∧
    ((s.dev.tmu k).holder = 0 → s.dev.latchHeld (0x1604 + k) (K.TMU_STATE k) = true →
      exec (.tmuStart r k) s = .next (s.refusal r (K.TMU_CMD k) .state)) ∧
    ((s.dev.tmu k).holder = 0 → s.dev.get (K.TMU_STATE k) ≠ 2 → s.dev.latchHeld (0x1604 + k) (K.TMU_STATE k) = false →
      exec (.tmuStart r k) s = .next (s.answer r (K.TMU_CMD k)
      (((s.dev.set (K.TMU_COUNT k) 0).setTmu k { s.dev.tmu k with sum := 0, sumsq := 0, mine := false }).set (K.TMU_STATE k) 2)))) ∧
  (∀ (r : Req) (k : Nat) (s : State), k < 4 → s.admits r (K.TMU_CMD k) 1 2 →
    (s.dev.get (K.TMU_STATE k) ≠ 2 → exec (.tmuAbort r k) s = .next (s.refusal r (K.TMU_CMD k) .state)) ∧
    (s.dev.get (K.TMU_STATE k) = 2 → exec (.tmuAbort r k) s = .next (s.answer r (K.TMU_CMD k)
      (((s.dev.tmuFigures k).set (K.TMU_STATE k) 5).event (307 + k) 2 0)))) ∧
  (∀ (k q : Nat) (s : State), k < 4 → s.up → s.dev.get (K.TMU_STATE k) = 2 → (s.dev.tmu k).holder = 0 → (s.dev.tmu k).mine = false →
    q ≤ 40000000 →
    let n := s.dev.get (K.TMU_COUNT k)
    (n + 1 < s.dev.get (K.TMU_SAMPLES k) → ∃ d, exec (.tmuSample k q) s = .next (s.withDev d) ∧ d.get (K.TMU_COUNT k) = n + 1 ∧
      d.get (K.TMU_MIN k) = (if n = 0 then 250 * q else min (250 * q) (s.dev.get (K.TMU_MIN k))) ∧
      d.get (K.TMU_MAX k) = (if n = 0 then 250 * q else max (250 * q) (s.dev.get (K.TMU_MAX k))) ∧
      (d.tmu k).sum = (s.dev.tmu k).sum + 250 * q ∧ d.get (K.TMU_STATE k) = 2) ∧
    (s.dev.get (K.TMU_SAMPLES k) ≤ n + 1 → ∃ d, exec (.tmuSample k q) s = .next (s.withDev d) ∧ d.get (K.TMU_STATE k) = 4 ∧
      ((s.dev.tmu k).sum + 250 * q) / (n + 1) ≤ d.get (K.TMU_MEAN k) ∧
      d.get (K.TMU_MEAN k) ≤ ceilDiv ((s.dev.tmu k).sum + 250 * q) (n + 1)) ∧
    (∃ d, exec (.tmuTimeout k) s = .next (s.withDev d) ∧ d.get (K.TMU_STATE k) = 5))

/-- R129, R130: epochs. R94 to R98, R312, R315, R325, R326: what Gallery frames bring. A frame with a bad CRC is dropped; a
GAL_SEQ frame that is not the next in order is not taken; one that is taken is relayed with one hop more, and acts. The
interval d_B of a skew marker is measured, so free (R131, log entry 25). -/
def Obligations.EpochsAndGalleryFrames : Prop :=
  ((∀ (r : Req) (s : State), s.admits r K.SYNC_CMD 1 1 →
      (s.dev.gate [1] none = .ok () → s.dev.liveSeqs ≠ [] → exec (.armEpoch r) s = .next (s.refusal r K.SYNC_CMD .state)) ∧
      (∀ a, s.dev.gate [1] none = .error a → exec (.armEpoch r) s = .next (s.refusal r K.SYNC_CMD a)) ∧
      (s.dev.gate [1] none = .ok () → s.dev.liveSeqs = [] → s.dev.alarmOn 1 = true → exec (.armEpoch r) s = .next (s.refusal r K.SYNC_CMD .busy)) ∧
      (s.dev.gate [1] none = .ok () → s.dev.liveSeqs = [] → s.dev.alarmOn 1 = false →
        exec (.armEpoch r) s = .next (s.answer r K.SYNC_CMD (s.dev.set K.SYNC_STATE 1)))) ∧
    (∀ (r : Req) (s : State), s.admits r K.SYNC_CMD 1 2 →
      (s.dev.get K.SYNC_STATE ≠ 1 → exec (.cancelEpoch r) s = .next (s.refusal r K.SYNC_CMD .state)) ∧
      (s.dev.get K.SYNC_STATE = 1 → exec (.cancelEpoch r) s =
        .next (s.answer r K.SYNC_CMD (s.dev.set K.SYNC_STATE (if s.dev.get K.EPOCH_COUNT = 0 then 0 else 2))))) ∧
    (∀ s : State, s.up → s.dev.get K.SYNC_STATE ≠ 1 → exec .syncInEpoch s = .next (s.withDev (s.dev.bump K.SYNC_IGNORED))) ∧
    (∀ s : State, s.up → s.dev.get K.SYNC_STATE = 1 → s.dev.get K.EPOCH_COUNT + 1 < 2 ^ 32 →
      ∃ d, exec .syncInEpoch s = .next (s.withDev d) ∧ d.tb1 = 0 ∧ d.tb1Sub = 0 ∧ d.get K.SYNC_STATE = 2 ∧
        d.get K.EPOCH_COUNT = s.dev.get K.EPOCH_COUNT + 1 ∧
        (s.dev.get K.SYNC_ROLE = 1 → Out.timed (.epochCount (s.dev.get K.EPOCH_COUNT + 1)) ∈ d.egress))) ∧
  ((∀ (p hops : Nat) (fr : Frame) (s : State), p < 4 → s.up → s.dev.portState (2 + p) = 5 →
      let e := s.dev.header (2 + p) fr
      let timed (f : GalTimed) : Dev :=
        ({ e with egress := e.egress ++ (e.relayPorts p).map (fun q => .relayTimed q (hops + 1) f) } : Dev).galNow (e.relayPorts p) (hops + 1) f
      let o := (s.dev.inOrder (2 + p) fr).1
      let seq (f : GalSeq) : Dev :=
        ({ o with egress := o.egress ++ (o.relayPorts p).map (fun q => .relaySeq q (hops + 1) f) } : Dev).galSend (o.relayPorts p) (hops + 1) f
      (fr.intact = false →
        (∀ f, exec (.galTimed p hops fr f) s = .next (s.withDev ((s.dev.bump (K.TIMED_DROPS p)).crcError (2 + p)))) ∧
        (∀ f, exec (.galSeq p ⟨hops, fr⟩ f) s = .next (s.withDev (s.dev.crcError (2 + p))))) ∧
      (fr.intact = true → fr.badKind = true →
        (∀ f, exec (.galTimed p hops fr f) s = .next (s.withDev (s.dev.bump (portKey (2 + p) 0x0F)))) ∧
        (∀ f, exec (.galSeq p ⟨hops, fr⟩ f) s = .next (s.withDev (s.dev.bump (portKey (2 + p) 0x0F))))) ∧
      (fr.intact = true → fr.kind = 5 → (s.dev.inOrder (2 + p) fr).2 = false → ∀ f, exec (.galSeq p ⟨hops, fr⟩ f) s = .next (s.withDev o)) ∧
      (fr.intact = true → fr.kind = 4 →
        (let y := timed .skewMarker
         let mine := hops = 0 ∧ y.get K.SYNC_ROLE = 2 ∧ y.get K.MASTER_PORT = p ∧ y.wndBusy = true ∧ y.wnd.routine = 3
         (¬mine → exec (.galTimed p hops fr .skewMarker) s = .next (s.withDev y)) ∧
         (mine → ∃ v, exec (.galTimed p hops fr .skewMarker) s =
           .next (s.withDev { y with fresh := y.fresh + 1, wnd := { y.wnd with skewB := v } }))) ∧
        (∀ c, let y := timed (.epochCount c)
          ((y.get K.SYNC_ROLE ≠ 2 ∨ y.get K.MASTER_PORT ≠ p) → exec (.galTimed p hops fr (.epochCount c)) s = .next (s.withDev y)) ∧
          (y.get K.SYNC_ROLE = 2 → y.get K.MASTER_PORT = p → y.get K.EPOCH_COUNT = c →
            exec (.galTimed p hops fr (.epochCount c)) s = .next (s.withDev { y with master := some c })) ∧
          (y.get K.SYNC_ROLE = 2 → y.get K.MASTER_PORT = p → y.get K.EPOCH_COUNT ≠ c → exec (.galTimed p hops fr (.epochCount c)) s =
            .next (s.withDev (({ y with master := some c } : Dev).setUnsure (setBit (y.get K.UNSURE_CAUSE) 3))))) ∧
        (∀ id entry iter member v, let y := timed (.bondValue id entry iter member v)
          exec (.galTimed p hops fr (.bondValue id entry iter member v)) s = .next (s.withBoth ((y.membersIn id).foldl
            (fun (p : Memory × Dev) x => bondReceive p.1 p.2 x.1 entry iter member v) (s.mem, y)))) ∧
        (∀ id member kind, let y := timed (.stopNotice id member kind)
          exec (.galTimed p hops fr (.stopNotice id member kind)) s = .next (s.withBoth ((y.membersIn id).foldl
            (fun (p : Memory × Dev) x => peerStop p.1 p.2 x.1 kind) (s.mem, { y with heard := y.heard ++ [(id, member, kind)] }))))) ∧
      (fr.intact = true → fr.kind = 5 → (s.dev.inOrder (2 + p) fr).2 = true →
        (∀ id member st, let y := seq (.memberState id member st)
          exec (.galSeq p ⟨hops, fr⟩ (.memberState id member st)) s = .next (s.withDev ((y.membersIn id).foldl
            (fun (d : Dev) x => (d.setPeer x.2.1 member (fun q => { q with state := st })).bondRefresh x.1) y))) ∧
        (∀ id tick, let y := seq (.startInstant id tick)
          exec (.galSeq p ⟨hops, fr⟩ (.startInstant id tick)) s = .next (s.withBoth ((y.membersIn id).foldl
            (fun (p : Memory × Dev) x => memberStart p.1 p.2 x.1 tick) (s.mem, y)))) ∧
        (∀ id member kind tick, let y := seq (.stopNotice id member kind tick)
          (id, member, kind) ∈ y.heard → exec (.galSeq p ⟨hops, fr⟩ (.stopNotice id member kind tick)) s =
            .next (s.withDev { y with heard := y.heard.erase (id, member, kind) })) ∧
        (∀ id member kind tick, let y := seq (.stopNotice id member kind tick)
          (id, member, kind) ∉ y.heard → exec (.galSeq p ⟨hops, fr⟩ (.stopNotice id member kind tick)) s = .next (s.withBoth ((y.membersIn id).foldl
            (fun (p : Memory × Dev) x => lateStop p.1 p.2 x.1 kind tick) (s.mem, y)))) ∧
        (∀ id member rl h, ∃ d, exec (.galSeq p ⟨hops, fr⟩ (.membership id member rl h)) s = .next (s.withDev d) ∧
          ∀ n g cfg, n < 64 → o.get (K.SEQ_STATE n) = 1 → o.bondOf n = some (g, cfg) → bits cfg 16 8 = id →
            let e := o.setPeer g member (fun q => { q with rl := rl, hops := hops })
            d.get (K.RL n) = e.groupRl n (periodP (o.get (K.TMIN n)))))) ∧
    (∀ (m : Memory) (d : Dev) (n entry iter member : Nat) (v : Bool), d.get (K.SEQ_STATE n) = 2 →
      let r := d.run n
      let lacks (x : Nat × Nat × Nat) : Bool := r.bond.all (fun v => v.member != member || v.seg != x.1 || v.iter != x.2.2)
      (∀ x, r.bondIters.find? lacks = some x → x.2.1 = entry → x.2.2 = iter → bondReceive m d n entry iter member v =
        (m, d.setRun n { r with bond := r.bond ++ [⟨member, x.1, iter, v⟩] })) ∧
      ((∀ x, r.bondIters.find? lacks = some x → ¬(x.2.1 = entry ∧ x.2.2 = iter)) → bondReceive m d n entry iter member v =
        seqFault m d n 4 ((r.cur.map (·.idx)).getD 0) (d.get (K.CYCLE n)) [])))

/-- R336 to R341, R345: commands of a time base; INIT to a value takes effect at the next Wellhead clock. -/
def Obligations.TimeBaseCommands : Prop :=
  ∀ (r : Req) (b : Nat) (s : State), b ∈ [0, 2, 3] →
    let st := s.dev.get (K.TB_STATE b)
    (s.admits r (K.TB_CMD b) 1 1 →
      (st ≠ 0 → exec (.tbInit r b) s = .next (s.refusal r (K.TB_CMD b) .state)) ∧
      (st = 0 → s.dev.alarmOn b = true → (s.dev.get (K.INIT_MODE b) = 1 ∨ s.dev.at2 0 = true) →
        (∀ c ∈ [0, 2, 3], c = b ∨ s.dev.get (K.TB_STATE c) = 0 ∨ s.dev.get (K.TB_DOMAIN c) ≠ s.dev.get (K.TB_DOMAIN b)) →
        exec (.tbInit r b) s = .next (s.refusal r (K.TB_CMD b) .busy)) ∧
      (st = 0 →
        (∃ c ∈ [0, 2, 3], c ≠ b ∧ s.dev.get (K.TB_STATE c) ≠ 0 ∧ s.dev.get (K.TB_DOMAIN c) = s.dev.get (K.TB_DOMAIN b)) →
        exec (.tbInit r b) s = .next (s.refusal r (K.TB_CMD b) .range)) ∧
      (st = 0 → s.dev.get (K.INIT_MODE b) ≠ 1 → s.dev.at2 0 = false →
        (∀ c ∈ [0, 2, 3], c = b ∨ s.dev.get (K.TB_STATE c) = 0 ∨ s.dev.get (K.TB_DOMAIN c) ≠ s.dev.get (K.TB_DOMAIN b)) →
        exec (.tbInit r b) s = .next (s.refusal r (K.TB_CMD b) .version)) ∧
      (st = 0 → s.dev.alarmOn b = false →
        (∀ c ∈ [0, 2, 3], c = b ∨ s.dev.get (K.TB_STATE c) = 0 ∨ s.dev.get (K.TB_DOMAIN c) ≠ s.dev.get (K.TB_DOMAIN b)) →
        (s.dev.get (K.INIT_MODE b) = 1 → s.dev.get (K.INIT_VALUE b) < 2 ^ 80 → s.dev.get (K.INIT_VALUE b) % 2 ^ 32 < 1000000000 →
          ∃ d, exec (.tbInit r b) s = .next (s.answer r (K.TB_CMD b) d) ∧ d.get (K.TB_STATE b) = 2 ∧
            d.get (K.EXCHANGES b) = 0 ∧ d.tbs = s.dev.tbs ∧ (d.exchOf b).jump = some (true, (ofStamp80 (s.dev.get (K.INIT_VALUE b)) : Int)) ∧
            (d.baseClock b).tbNow b = s.dev.get (K.INIT_VALUE b) ∧ (d.baseClock b).get (K.STEP_AFTER b) = s.dev.get (K.INIT_VALUE b)) ∧
        (s.dev.get (K.INIT_MODE b) ≠ 1 → s.dev.at2 0 = true → ∃ d, exec (.tbInit r b) s = .next (s.answer r (K.TB_CMD b) d) ∧
          d.get (K.TB_STATE b) = 1 ∧ d.get (K.EXCHANGES b) = 0 ∧ d.tbs = s.dev.tbs))) ∧
    (s.admits r (K.TB_CMD b) 1 2 →
      (st ∉ [1, 2] → exec (.tbStop r b) s = .next (s.refusal r (K.TB_CMD b) .state)) ∧
      (st ∈ [1, 2] → s.dev.alarmOn b = true → exec (.tbStop r b) s = .next (s.refusal r (K.TB_CMD b) .busy)) ∧
      (st ∈ [1, 2] → s.dev.alarmOn b = false → exec (.tbStop r b) s =
        .next (s.answer r (K.TB_CMD b) ((s.dev.setExch b (s.dev.exchOf b).ended).set (K.TB_STATE b) 0)))) ∧
    (∀ v, s.admits r (K.RATE b) 8 v →
      (s.dev.get (K.SERVO_MODE b) = 1 → st ∈ [1, 2] → exec (.rateWrite r b v) s = .next (s.refusal r (K.RATE b) .state)) ∧
      ((s.dev.get (K.SERVO_MODE b) ≠ 1 ∨ st ∉ [1, 2]) →
        exec (.rateWrite r b v) s = .next (s.answer r (K.RATE b) (s.dev.set (K.RATE b) v))))

/-- R340, R342, R343, R346, R320: a TIME frame as R340 gives it, at a node that is ACTIVE at 2.x towards both sides and binds
the domain in no base, passes on: an event message with its residence kept and a general one with that residence added; one
whose residence is not held is dropped and counted, and so is one from upstream that names no node beyond. -/
def Obligations.TimeFramesAreForwarded : Prop :=
  ∀ (f : TimeMsg) (s : State), f.port < 2 → s.up → s.dev.portState f.port = 5 → f.frame.intact = true → f.frame.kind = 3 →
    f.frame.timeOk = true →
    let q := onwardPort f.port
    let e := s.dev.header f.port f.frame
    e.portMajor f.port = 2 → e.at2 q = true → (∀ b ∈ [0, 2, 3], e.get (K.TB_STATE b) = 0) → e.freshResid.length < 16 →
    let stay := (e.egressAt 1 q f.eg - e.ingress 1 f.port f.raw) / 15625
    let kept := e.freshResid
    let sent (c : Int) : List Out := e.egress ++ [.time q f.frame.dst f.frame.msg f.domain f.seqId f.t c f.node]
    let left (kept : List Resid) (c : Int) (words : List Nat) : State :=
      s.withDev (({ e with resid := kept, egress := sent c } : Dev).timeSend q words)
    let total (r : Int) : Int := toSigned 64 (ofSigned 64 (f.corr + r))
    let with_ (c : Int) : List Nat := timeWords f.frame.tag f.src f.frame.dst
      (timeBits f.t c f.seqId f.domain f.node f.frame.msg (bits f.frame.time 68 8) f.markBase)
    (e.timeOn f = true →
      (f.frame.msg = 0 →
        exec (.sync f) s = .next (left (kept ++ [⟨false, f.domain, f.seqId, 0, stay, e.clk⟩]) f.corr f.frame.body)) ∧
      (f.frame.msg = 1 →
        exec (.delayReq f) s = .next (left (kept ++ [⟨true, f.domain, f.seqId, f.src, stay, e.clk⟩]) f.corr f.frame.body)) ∧
      (∀ x, f.frame.msg = 8 → kept.find? (fun x => x.req == false && x.domain == f.domain && x.seqId == f.seqId) = some x →
        exec (.followUp f) s = .next (left (kept.erase x) (total x.r) (with_ (total x.r)))) ∧
      (∀ x, f.frame.msg = 9 → (e.timeMine f = false ∨ f.node ≠ e.get K.NODE_ID) →
        kept.find? (fun x => x.req == true && x.domain == f.domain && x.seqId == f.seqId && x.src == f.node) = some x →
        exec (.delayResp f) s = .next (left (kept.erase x) (total x.r) (with_ (total x.r)))) ∧
      (f.frame.msg = 8 → kept = [] → exec (.followUp f) s = .next (s.withDev ({ e with resid := kept }.bump K.RES_MISSES)))) ∧
    (f.port = 0 → f.frame.dst = 0 → f.frame.msg = 1 → exec (.delayReq f) s = .next (s.withDev (e.bump K.FWD_DISCARDED))) ∧
    (f.frame.msg ≠ 1 → exec (.delayReq f) s = .next (s.withDev e))

/-- R342 to R344: a base that takes part in a domain's exchange stamps the SYNC, takes t1 and c1 from the FOLLOW_UP, and takes
its mean path delay from the DELAY_RESP. R342, R344, R345, R347: the first completed exchange of an ARMED base makes the
offset measured the step of its next Wellhead clock; every exchange records its offset, and none moves the base at once. -/
def Obligations.ExchangesSteerTheBase : Prop :=
  (∀ (f : TimeMsg) (b : Nat) (s : State), f.port = 0 → s.up → s.dev.portState 0 = 5 → f.frame.intact = true → f.frame.kind = 3 →
      f.frame.timeOk = true →
      let e := s.dev.header 0 f.frame
      e.portMajor 0 = 2 → e.timeMine f = true → b ∈ e.basesOf f.domain →
      let x := e.exchOf b
      (f.frame.msg = 0 → ∃ d, exec (.sync f) s = .next (s.withDev d) ∧ (f.seqId, e.ingress b 0 f.raw, e.clk) ∈ (d.exchOf b).syncs) ∧
      (∀ y, f.frame.msg = 8 → x.syncs.find? (fun y => y.1 == f.seqId && decide (e.clk ≤ y.2.2 + 4000000)) = some y → x.path = none →
        ∃ d, exec (.followUp f) s = .next (s.withDev d) ∧
          (d.exchOf b).fup = some (y.2.1 - (ofStamp80 f.t : Int) - f.corr * 15625, (ofStamp80 f.t : Int))) ∧
      (∀ y, f.frame.msg = 9 → x.dreqs.find? (fun y => y.1 == f.seqId && decide (e.clk ≤ y.2.2.1 + 40000000)) = some y →
        f.node = e.get K.NODE_ID →
        let path := (y.2.2.2.1 + ((ofStamp80 f.t : Int) - y.2.1 - f.corr * 15625)) / 2
        ∃ d, exec (.delayResp f) s = .next (s.withDev d) ∧ (d.exchOf b).path = some path ∧
          d.get (K.MEAN_PATH b) = satI64 (path / fsU))) ∧
  (∀ (d : Dev) (b : Nat) (f : Int × Int), b ∈ [0, 2, 3] →
      let off := f.1 - (d.exchOf b).path.getD 0 - toSigned 64 (d.get (K.PATH_ASYM b)) * 1024
      let e := d.exchange b f
      e.get (K.LAST_OFFSET b) = satI64 (off / 1024) ∧ e.tbs = d.tbs ∧
      (d.get (K.TB_STATE b) = 1 → e.get (K.TB_STATE b) = 2 ∧ (e.exchOf b).jump = some (false, -off)))

/-- R348, R349: marks and the timestamp queue. R350 to R352: alarm slots: ARM and DISARM, and what a firing does: it counts,
records its match time, starts what is named, asks for conversions, pulses lines, raises its event, flags every sequencer, and
ends the slot or moves on by its period. -/
def Obligations.MarksAndAlarms : Prop :=
  ((∀ (port : Nat) (fr : Frame) (raw eg : Int) (s : State), port < 2 → s.up →
      let f : TimeMsg := ⟨port, fr, raw, eg⟩
      let e := s.dev.header port fr
      (s.dev.portState port ≠ 5 → exec (.mark port fr raw eg) s = .next s) ∧
      (s.dev.portState port = 5 → fr.intact = false → exec (.mark port fr raw eg) s = .next (s.withDev (s.dev.crcError port))) ∧
      (s.dev.portState port = 5 → fr.intact = true → fr.kind = 3 → e.portMajor port = 2 → fr.timeOk = true → fr.msg = 15 →
        ∃ d, exec (.mark port fr raw eg) s = .next (s.withDev d) ∧
          bits (d.get K.RX_MARK) 16 16 = f.markId ∧ bits (d.get K.RX_MARK) 4 2 = f.markBase ∧ d.get K.RX_MARK % 16 = port ∧
          bit (d.get (K.EVT_STATUS 4)) 32 = true ∧
          (0 ≤ e.ingress f.markBase port raw → e.ingress f.markBase port raw < 2 ^ 48 * 1000000000 * (nsU : Int) →
            d.get K.RX_MARK_STAMP = stamp80 (e.ingress f.markBase port raw).toNat))) ∧
    (∀ (r : Req) (v : Nat) (eg : Int) (s : State), s.admits r K.TS_MARK 4 v →
      let p := v % 2
      let b := bits v 4 2
      let e := s.dev.markSent v
      (s.dev.at2 p = false → exec (.tsMark r v eg) s = .next (s.refusal r K.TS_MARK .state)) ∧
      (s.dev.at2 p = true → s.dev.tsq.length < 16 → 0 ≤ e.egressAt b p eg →
        e.egressAt b p eg < 2 ^ 48 * 1000000000 * (nsU : Int) → exec (.tsMark r v eg) s =
          .next (s.answer r K.TS_MARK (e.setTsq (e.tsq ++ [⟨v, stamp80 (e.egressAt b p eg).toNat⟩])))) ∧
      (s.dev.at2 p = true → 16 ≤ s.dev.tsq.length → bit (s.dev.get K.TSQ_FLAGS) 0 = true → exec (.tsMark r v eg) s =
        .next (s.answer r K.TS_MARK ((e.bump K.TSQ_DROPPED).setB K.TSQ_FLAGS 0 true))) ∧
      (s.dev.at2 p = true → 16 ≤ s.dev.tsq.length → bit (s.dev.get K.TSQ_FLAGS) 0 = false → exec (.tsMark r v eg) s =
        .next (s.answer r K.TS_MARK (((e.bump K.TSQ_DROPPED).setB K.TSQ_FLAGS 0 true).wellEvent 12 p))) ∧
      (e.egress = s.dev.egress ++ [.mark p (bits v 16 16) b] ∧ e.tsq = s.dev.tsq ∧ ∃ fr, e.wire = s.dev.wire ++ [(p, fr)] ∧
        fr.kind = 3 ∧ fr.msg = 15)) ∧
    (∀ (r : Req) (s : State), s.admits r K.TSQ_POP 1 1 →
      (s.dev.tsq = [] → exec (.tsqPop r 1) s = .next (s.refusal r K.TSQ_POP .state)) ∧
      (∀ x l, s.dev.tsq = x :: l → ∃ d : Dev, exec (.tsqPop r 1) s = .next (s.answer r K.TSQ_POP d) ∧ d.tsq = l ∧
        d.get K.TSQ_COUNT = l.length ∧ d.get K.TSQ_HEAD = (l.head?.map (·.head)).getD 0 ∧
        d.get K.TSQ_STAMP = (l.head?.map (·.stamp)).getD 0 ∧
        (∀ k, k ∉ [K.TSQ_COUNT, K.TSQ_HEAD, K.TSQ_STAMP] → d.get k = s.dev.get k)))) ∧
  (∀ (r : Req) (x : Nat) (s : State), x < 32 →
      let b := s.dev.get (K.ALM_BASE x)
      let t := ofStamp80 (s.dev.get (K.ALM_TIME x))
      (s.admits r (K.ALM_CMD x) 1 1 →
        (∀ a, s.dev.gate [1] none = .error a → exec (.almArm r x) s = .next (s.refusal r (K.ALM_CMD x) a)) ∧
        (s.dev.gate [1] none = .ok () → s.dev.get (K.ALM_STATE x) = 1 → exec (.almArm r x) s = .next (s.refusal r (K.ALM_CMD x) .state)) ∧
        (s.dev.gate [1] none = .ok () → s.dev.get (K.ALM_STATE x) ≠ 1 → b ≠ 1 → s.dev.get (K.TB_STATE b) = 1 →
          exec (.almArm r x) s = .next (s.refusal r (K.ALM_CMD x) .state)) ∧
        (s.dev.gate [1] none = .ok () → s.dev.get (K.ALM_STATE x) ≠ 1 → (b = 1 ∨ s.dev.get (K.TB_STATE b) ≠ 1) →
          (t < s.dev.baseU b + 1000 * nsU ∨ s.dev.get (K.ALM_ACTION x) = 0) →
          exec (.almArm r x) s = .next (s.refusal r (K.ALM_CMD x) .range)) ∧
        (s.dev.gate [1] none = .ok () → s.dev.get (K.ALM_STATE x) ≠ 1 → (b = 1 ∨ s.dev.get (K.TB_STATE b) ≠ 1) → s.dev.baseU b + 1000 * nsU ≤ t →
          s.dev.get (K.ALM_ACTION x) ≠ 0 → exec (.almArm r x) s = .next (s.answer r (K.ALM_CMD x)
            (({ s.dev with almNext := Table.put s.dev.almNext x (t / nsU) }.set (K.ALM_FIRES x) 0).set (K.ALM_STATE x) 1)))) ∧
      (s.admits r (K.ALM_CMD x) 1 2 →
        (s.dev.get (K.ALM_STATE x) = 0 → exec (.almDisarm r x) s = .next (s.refusal r (K.ALM_CMD x) .state)) ∧
        (s.dev.get (K.ALM_STATE x) ≠ 0 → exec (.almDisarm r x) s = .next (s.answer r (K.ALM_CMD x)
          ({ s.dev with almNext := Table.del s.dev.almNext x }.set (K.ALM_STATE x) 0)))) ∧
      (s.up → s.dev.baseU b < Table.at s.dev.almNext 0 x * nsU → exec (.alarmFiring x) s = .next s) ∧
      (s.up → s.dev.get (K.ALM_STATE x) = 1 → Table.at s.dev.almNext 0 x * nsU ≤ s.dev.baseU b → s.dev.get (K.ALM_FIRES x) + 1 < 2 ^ 32 →
        ∃ d, exec (.alarmFiring x) s = .next (s.withDev d) ∧
          d.get (K.ALM_STATE x) = (if s.dev.get (K.ALM_PERIOD x) = 0 then 4 else 1) ∧
          d.get (K.ALM_FIRES x) = s.dev.get (K.ALM_FIRES x) + 1 ∧
          (s.dev.get (K.ALM_PERIOD x) ≠ 0 →
            Table.at d.almNext 0 x = Table.at s.dev.almNext 0 x + s.dev.get (K.ALM_PERIOD x) / 1000000) ∧
          (∀ n, n < 64 → Table.find d.almSeq (32 * n + x) = some ((Table.find s.dev.almSeq (32 * n + x)).getD s.dev.tb1Clk)) ∧
          d.get (K.ALM_LAST x) = stamp80 (Table.at s.dev.almNext 0 x * nsU) ∧
          (∀ n, n < 64 → bit (s.dev.get (K.ALM_ACTION x)) 0 = true → bit (s.dev.get (K.ALM_SEQ_MASK x)) n = true →
            s.dev.get (K.SEQ_STATE n) = 1 → s.dev.get (K.START_SRC n) % 8 = 1 → (s.dev.run n).startTick = none →
            s.dev.get K.SHED_LEVEL < 3 → (d.run n).startTick = some (s.dev.tickIn (s.dev.lead n))) ∧
          (∀ l, l < 8 → bit (s.dev.get (K.ALM_ACTION x)) 1 = true → bit (s.dev.get (K.ALM_TRIG_MASK x)) l = true →
            Table.at d.trigOut [] l = Table.at s.dev.trigOut [] l ++
              [((s.dev.tb1Clk * 640000 + 15360000 + 256000 * s.dev.get (K.ALM_TRIG_WIDTH x) : Nat) : Int)]) ∧
          (∀ k, k < 16 → bit (s.dev.get (K.ALM_ACTION x)) 2 = true → bit (s.dev.get (K.ALM_ADC_MASK x)) k = true →
            bit (d.get K.ADC_BUSY) k = true) ∧
          (bit (s.dev.get (K.ALM_ACTION x)) 4 = true → bit (d.get (K.EVT_STATUS 4)) (32 + x / 4) = true)))

/-- R136, R138 to R142: the Hewer instructions. The steps of X, Y and Z come first; what an instruction then does to the
registers, the flags it leaves and where execution goes on; with EMIT the operation built before goes to the queue with the
flags after it. HEW_PC_LAST and HEW_FLAGS follow; nothing else of the block changes. -/
def Obligations.HewerInstructions : Prop :=
  ∀ (h : Nat) (s : State), h < 16 → s.up →
    let x := s.dev.hew h
    let c := x.main
    let i := hewInstr s.mem s.dev h c.pc
    let sq := s.dev.get (K.HEW_SEQ h)
    s.dev.get (K.HEW_STATE h) = 2 → s.dev.get (K.SEQ_STATE sq) ∈ [1, 2] → c.run = true → c.waiting = false → c.pend = none →
    c.pc < 1023 → (hEmit i = true → c.ops < 64) →
    let op := emitOp s.mem s.dev h i c
    let c1 := (if hEmit i then op.2 else c).steps (s.dev.get (K.ADDR_MODE h)) i
    let ends (c' : HewCtx) : HewCtx :=
      let q := if hEmit i then c'.queue ++ [{ op.1 with flags := c'.flags }] else c'.queue
      { c' with count := c'.count + 1, queue := q }
    let seen (fl : Nat) : Dev := (s.dev.set (K.HEW_PC_LAST h) c.pc).set (K.HEW_FLAGS h) fl
    let goes (c' : HewCtx) (pc : Nat) : Host.Outcome State Fault Refusal :=
      .next (s.withDev ((seen c'.flags).setHew h { x with main := { ends c' with pc := pc } }))
    let ra := c1.reg (hRa i)
    let next := c.pc + 1
    (hOpc i = 0x00 → exec (.nop h) s = goes c1 next) ∧
    (hOpc i = 0x02 → exec (.jmp h) s = goes c1 (hT i)) ∧
    (hOpc i = 0x03 → exec (.jfs h) s = goes c1 (if bit c1.flags (hRa i) then hT i else next)) ∧
    (hOpc i = 0x04 → exec (.jfc h) s = goes c1 (if bit c1.flags (hRa i) then next else hT i)) ∧
    (hOpc i = 0x05 → exec (.loop h) s = goes (c1.setReg (hRa i) ((ra + 2 ^ 24 - 1) % 2 ^ 24))
      (if (ra + 2 ^ 24 - 1) % 2 ^ 24 ≠ 0 then hT i else next)) ∧
    (hOpc i = 0x06 → c.stack.length < 4 → exec (.call h) s = goes { c1 with stack := next :: c.stack } (hT i)) ∧
    (∀ a l, hOpc i = 0x07 → c.stack = a :: l → a < 1024 → exec (.ret h) s = goes { c1 with stack := l } a) ∧
    (hOpc i = 0x08 → exec (.ldi h) s = goes (c1.setReg (hRa i) (hImm i)) next) ∧
    (hOpc i = 0x09 → hSel i = 0 → exec (.ldbl h) s = goes { c1 with bg0 := putBits c1.bg0 0 32 (hImm32 i) } next) ∧
    (hOpc i = 0x09 → hSel i = 1 → exec (.ldbl h) s = goes { c1 with bg1 := putBits c1.bg1 0 32 (hImm32 i) } next) ∧
    (hOpc i = 0x09 → hSel i = 2 → putBits c1.lfsr 0 32 (hImm32 i) ≠ 0 →
      exec (.ldbl h) s = goes { c1 with lfsr := putBits c1.lfsr 0 32 (hImm32 i) } next) ∧
    (hOpc i = 0x09 → hSel i = 2 → putBits c1.lfsr 0 32 (hImm32 i) = 0 → exec (.ldbl h) s = goes { c1 with lfsr := 1 } next) ∧
    (hOpc i = 0x0A → hSel i = 0 → exec (.ldbh h) s = goes { c1 with bg0 := putBits c1.bg0 32 32 (hImm32 i) } next) ∧
    (hOpc i = 0x0A → hSel i = 1 → exec (.ldbh h) s = goes { c1 with bg1 := putBits c1.bg1 32 32 (hImm32 i) } next) ∧
    (hOpc i = 0x0A → hSel i = 2 → putBits c1.lfsr 32 32 (hImm32 i) ≠ 0 →
      exec (.ldbh h) s = goes { c1 with lfsr := putBits c1.lfsr 32 32 (hImm32 i) } next) ∧
    (hOpc i = 0x0A → hSel i = 2 → putBits c1.lfsr 32 32 (hImm32 i) = 0 → exec (.ldbh h) s = goes { c1 with lfsr := 1 } next) ∧
    (hOpc i = 0x0B → exec (.addi h) s = goes (c1.setReg (hRa i) ((ra + hImm i) % 2 ^ 24)) next) ∧
    (hOpc i = 0x0C → exec (.mov h) s = goes (c1.setReg (hRa i) (c1.reg (hRb i))) next) ∧
    (hOpc i = 0x0D → exec (.swapbg h) s = goes { c1 with bg0 := c1.bg1, bg1 := c1.bg0 } next) ∧
    (hOpc i = 0x0E → hSel i = 0 → exec (.notbg h) s = goes { c1 with bg0 := 2 ^ 64 - 1 - c1.bg0 } next) ∧
    (hOpc i = 0x0E → hSel i = 1 → exec (.notbg h) s = goes { c1 with bg1 := 2 ^ 64 - 1 - c1.bg1 } next) ∧
    (hOpc i = 0x0E → hSel i = 2 →
      exec (.notbg h) s = goes { c1 with bg0 := 2 ^ 64 - 1 - c1.bg0, bg1 := 2 ^ 64 - 1 - c1.bg1 } next) ∧
    (hOpc i = 0x0F → hRa i ≤ 11 → exec (.setf h) s = goes { c1 with flags := setBit c1.flags (hRa i) } next) ∧
    (hOpc i = 0x10 → hRa i ≤ 14 → exec (.clrf h) s = goes { c1 with flags := clrBit c1.flags (hRa i) } next) ∧
    (hOpc i = 0x11 → exec (.jrz h) s = goes c1 (if ra = 0 then hT i else next)) ∧
    (hOpc i = 0x12 → exec (.jrnz h) s = goes c1 (if ra = 0 then next else hT i)) ∧
    (hOpc i = 0x13 → exec (.jlt h) s = goes c1 (if ra < c1.reg (hRb i) then hT i else next)) ∧
    (hOpc i = 0x14 → exec (.swxy h) s =
      goes ((((c1.setReg 0 (c1.reg 1)).setReg 1 (c1.reg 0)).setReg 3 (c1.reg 4)).setReg 4 (c1.reg 3)) next)

/-- R136, R140, R151: HALT ends the program with F15 set, WSEG waits for a CONTINUE, each with its marker in the queue after
the operation it emits; a call stack that is full or empty is the HEW_PROGRAM fault with cause 2. R140: execution after
address 1,023 without a branch is the HEW_PROGRAM fault with cause PC_OVF (3); a jump at that address goes on at its target.
R141: X, Y and Z step within their limits: +1 from the limit gives 0 and −1 from 0 the limit, each wrap setting its flag (F12,
F13, F14); while XY_CARRY is 1, Y steps in X's direction on every X wrap and on no other step, and while YZ_CARRY is 1, Z in
Y's on every Y wrap. Nothing else of the context's registers and flags changes. -/
def Obligations.HewerHaltsWaitsAndWraps : Prop :=
  (∀ (h : Nat) (s : State), h < 16 → s.up →
      let x := s.dev.hew h
      let c := x.main
      let i := hewInstr s.mem s.dev h c.pc
      s.dev.get (K.HEW_STATE h) = 2 → s.dev.get (K.SEQ_STATE (s.dev.get (K.HEW_SEQ h))) ∈ [1, 2] → c.run = true → c.waiting = false →
      c.pend = none → c.pc < 1023 → (hEmit i = true → c.ops < 64) →
      let op := emitOp s.mem s.dev h i c
      let c1 := (if hEmit i then op.2 else c).steps (s.dev.get (K.ADDR_MODE h)) i
      let ends (c' : HewCtx) : HewCtx :=
        let q := if hEmit i then c'.queue ++ [{ op.1 with flags := c'.flags }] else c'.queue
        { c' with count := c'.count + 1, queue := q }
      let marked (c' : HewCtx) : List HewOp := (ends c').queue ++ [⟨0, 0, 0, c'.flags, 0, false⟩]
      let seen (fl : Nat) : Dev := (s.dev.set (K.HEW_PC_LAST h) c.pc).set (K.HEW_FLAGS h) fl
      let stuck := (seen c1.flags).setHew h { x with main := ends c1 }
      (hOpc i = 0x01 →
        let c2 : HewCtx := { c1 with flags := setBit c1.flags 15 }
        let d : Dev := ((seen c2.flags).setHew h { x with main := { ends c2 with run := false, queue := marked c2 } }).set (K.HEW_STATE h) 4
        (bit i 0 = false → exec (.halt h) s = .next (s.withDev d)) ∧
        (bit i 0 = true → exec (.halt h) s = .next (s.withDev (d.event (212 + h) Config.causeHalt.toNat 0)))) ∧
      (hOpc i = 0x15 →
        let c2 : HewCtx := { ends c1 with pc := c.pc + 1, waiting := true, queue := marked c1 }
        exec (.wseg h) s = .next (s.withDev (((seen c1.flags).setHew h { x with main := c2 }).set (K.HEW_STATE h) 3))) ∧
      (hOpc i = 0x06 → 4 ≤ c.stack.length → exec (.call h) s = .next (s.withBoth (hewFault s.mem stuck h 11 2 c.pc))) ∧
      (hOpc i = 0x07 → c.stack = [] → exec (.ret h) s = .next (s.withBoth (hewFault s.mem stuck h 11 2 c.pc)))) ∧
  (∀ (h : Nat) (s : State), h < 16 → s.up →
      let x := s.dev.hew h
      let c := x.main
      let i := hewInstr s.mem s.dev h c.pc
      s.dev.get (K.HEW_STATE h) = 2 → s.dev.get (K.SEQ_STATE (s.dev.get (K.HEW_SEQ h))) ∈ [1, 2] → c.run = true → c.waiting = false →
      c.pend = none → c.pc = 1023 → (hEmit i = true → c.ops < 64) →
      let op := emitOp s.mem s.dev h i c
      let c1 := (if hEmit i then op.2 else c).steps (s.dev.get (K.ADDR_MODE h)) i
      let q := if hEmit i then c1.queue ++ [{ op.1 with flags := c1.flags }] else c1.queue
      let past : HewCtx := { c1 with count := c1.count + 1, queue := q, pc := 1024 }
      let d := ((s.dev.set (K.HEW_PC_LAST h) 1023).set (K.HEW_FLAGS h) c1.flags)
      let stops := Host.Outcome.next (s.withBoth (hewFault s.mem (d.setHew h { x with main := past }) h 11 3 1023))
      (hOpc i = 0x00 → exec (.nop h) s = stops) ∧
      (hOpc i = 0x03 → bit c1.flags (hRa i) = false → exec (.jfs h) s = stops) ∧
      (hOpc i = 0x04 → bit c1.flags (hRa i) = true → exec (.jfc h) s = stops) ∧
      (hOpc i = 0x11 → c1.reg (hRa i) ≠ 0 → exec (.jrz h) s = stops) ∧
      (hOpc i = 0x12 → c1.reg (hRa i) = 0 → exec (.jrnz h) s = stops) ∧
      (hOpc i = 0x13 → ¬ c1.reg (hRa i) < c1.reg (hRb i) → exec (.jlt h) s = stops) ∧
      (hOpc i = 0x02 → exec (.jmp h) s =
        .next (s.withDev (d.setHew h { x with main := { c1 with count := c1.count + 1, queue := q, pc := hT i } })))) ∧
  (∀ (c : HewCtx) (mode i : Nat), c.regs.length = 10 → (∀ r, c.reg r < 2 ^ (if r = 2 ∨ r = 5 then 8 else 24)) →
      let t := c.steps mode i
      let wraps (v top dir : Nat) : Bool := (dir == 1 && v == top) || (dir == 2 && v == 0)
      let xd := hXstep i
      let xw := wraps (c.reg 0) (c.reg 3) xd
      let yd := if bit mode 0 then (if xw then xd else 0) else hYstep i
      let yw := wraps (c.reg 1) (c.reg 4) yd
      let zd := if bit mode 1 then (if yw then yd else 0) else hZstep i
      let zw := wraps (c.reg 2) (c.reg 5) zd
      let moved (w v top dir new : Nat) : Prop :=
        (dir = 1 → new = if v = top then 0 else (v + 1) % 2 ^ w) ∧ (dir = 2 → new = if v = 0 then top else v - 1) ∧
        (dir ≠ 1 → dir ≠ 2 → new = v)
      moved 24 (c.reg 0) (c.reg 3) xd (t.reg 0) ∧ moved 24 (c.reg 1) (c.reg 4) yd (t.reg 1) ∧
      moved 8 (c.reg 2) (c.reg 5) zd (t.reg 2) ∧ (∀ r, 3 ≤ r → t.reg r = c.reg r) ∧
      bit t.flags 12 = (bit c.flags 12 || xw) ∧ bit t.flags 13 = (bit c.flags 13 || yw) ∧ bit t.flags 14 = (bit c.flags 14 || zw) ∧
      (∀ k, k ∉ [12, 13, 14] → bit t.flags k = bit c.flags k))

/-- R183 to R187, R193, R200, R201: the commands of an Assay unit and the end of its re-arm interval. DISARM of an ABORTED
unit is the model's reading (log entry 51). R183, R192, R193, R272: final capture bytes go to the spill region, oldest first;
the bytes of DDR4 outside them are unchanged. While the controller is FAILED they are discarded and their bursts counted. -/
def Obligations.AssayCapturesAndEvicts : Prop :=
  (∀ (r : Req) (u : Nat) (s : State), u < 16 →
      let key := K.ASY_CMD u
      let st := s.dev.get (K.ASY_STATE u)
      (s.admits r key 1 1 → s.dev.loading [K.MASK_TEMPLATE u] = false → s.dev.gate [47 + u / 8] (some u) = .ok () →
        (∀ a, asyArmChecks s.dev u = .error a → exec (.asyArm r u) s =
          .next (s.withDev ((s.dev.set (K.REC_BYTES u) (asyR s.dev u)).refuse r 2 (key / 256) (key % 256) a))) ∧
        (asyArmChecks s.dev u = .ok () → ∃ d, exec (.asyArm r u) s = .next (s.answer r key d) ∧ d.get (K.ASY_STATE u) = 1 ∧
          d.get (K.REC_BYTES u) = asyR s.dev u ∧ d.get (K.CAP_WR u) = 0 ∧ (d.asy u).ring = [] ∧ (d.asy u).post = [] ∧
          (∀ k, k ∉ [K.ASY_STATE u, K.REC_BYTES u, K.CAP_WR u, K.ONCHIP_PEAK u, K.ASY_STATUS u] → d.get k = s.dev.get k))) ∧
      (s.admits r key 1 2 →
        (st = 0 → exec (.asyDisarm r u) s = .next (s.refusal r key .state)) ∧
        (st ≠ 0 → exec (.asyDisarm r u) s = .next (s.answerBoth r key (asyEnd s.mem s.dev u 0))) ∧
        (st = 1 → ∃ d, exec (.asyDisarm r u) s = .next (s.answer r key d) ∧ d.get (K.ASY_STATE u) = 0 ∧ (d.asy u).ring = [] ∧
          (∀ k, k ∉ [K.ASY_STATE u, K.ASY_STATUS u] → d.get k = s.dev.get k)) ∧
        (st ∈ [4, 5] → ∃ d, exec (.asyDisarm r u) s = .next (s.answer r key d) ∧ d.get (K.ASY_STATE u) = 0)) ∧
      (s.admits r key 1 3 →
        (st = 2 → exec (.force r u) s = .next (s.refusal r key .busy)) ∧
        (st ∉ [1, 2] → exec (.force r u) s = .next (s.refusal r key .state)) ∧
        (st = 1 → bit (s.dev.get (K.ASY_STATUS u)) 1 = true → exec (.force r u) s = .next (s.refusal r key .state)) ∧
        (st = 1 → bit (s.dev.get (K.ASY_STATUS u)) 1 = false →
          exec (.force r u) s = .next (s.answer r key (s.dev.setAsy u { s.dev.asy u with force := true })))) ∧
      (s.up → bit (s.dev.get (K.ASY_STATUS u)) 1 = true → (s.dev.asy u).rearm = 0 → ∃ d, exec (.rearmEnd u) s = .next (s.withDev d) ∧
        bit (d.get (K.ASY_STATUS u)) 1 = false ∧ bit (d.get (K.ASY_STATUS u)) 2 = false ∧ (d.asy u).ring = [] ∧ (d.asy u).qual = 0)) ∧
  (∀ (u n ecc : Nat) (s : State), u < 16 → s.up →
      let a := s.dev.asy u
      let closed := min (s.dev.get (K.CAP_WR u)) (1024 * s.dev.get (K.SPILL_KIB u))
      let k := min n (closed - a.evicted)
      let dst := s.dev.get (K.SPILL_BASE u) + a.evicted
      s.dev.get (K.SPILL_BASE u) + 1024 * s.dev.get (K.SPILL_KIB u) ≤ 2 ^ 40 → a.evicted < closed → a.skip = [] →
      (ecc = 0 → s.dev.get K.DDR_STATE = 3 → bit (s.dev.get (K.ASY_STATUS u)) 4 = false →
        ∃ m d, exec (.eviction u n ecc) s = .next (s.withBoth (m, d)) ∧ (d.asy u).evicted = a.evicted + k ∧
          (∀ o, o < k → Memory.look m (ddrAt (dst + o)) =
            some (Memory.rd s.mem s.dev.fresh (assayAt u (a.evicted + o)))) ∧
          (∀ b, (b < ddrAt dst ∨ ddrAt dst + k ≤ b) → Memory.look m b = Memory.look s.mem b)) ∧
      (ecc = 0 → ((s.dev.get K.DDR_STATE ≠ 3 ∧ s.dev.get K.DDR_STATE ≠ 5) ∨ bit (s.dev.get (K.ASY_STATUS u)) 4 = true) →
        exec (.eviction u n ecc) s = .next s) ∧
      (ecc = 0 → s.dev.get K.DDR_STATE = 5 → bit (s.dev.get (K.ASY_STATUS u)) 4 = false → exec (.eviction u n ecc) s =
        .next (s.withDev ((s.dev.bumpBy K.WRITES_LOST (burstsOf dst k)).setAsy u { a with evicted := a.evicted + k }))) ∧
      (ecc = 2 → exec (.eviction u n ecc) s = .next (s.withBoth (raiseFault s.mem s.dev 12 (0x1500 + u) 0 none [0x1500 + u] []))))

/-- R206, R208 to R211: what START of a Dowser engine needs and leaves, ABORT, and the first checks of R211 with their aborts.
R204, R205: the next step of an engine: while no step of it stands sealed and all it needs is known, each listed channel's
value goes to the parameter searched, in the shadow copy of the claimed set, and the set is sealed; nothing while no seal is
due. -/
def Obligations.DowserSearches : Prop :=
  (∀ (r : Req) (e : Nat) (s : State), e < 4 →
      let n := s.dev.get (K.DWS_SEQ e)
      let t := s.dev.get (K.DWS_TSET e)
      let eye := s.dev.get (K.DWS_KIND e) = 2 ∧ s.dev.get (K.TMU_REF e) ≠ 0xFF
      let shaft := s.dev.get (K.TMU_REF e) / 64
      let refused (a : Abort) : Prop := exec (.dwsStart r e) s = .next (s.refusal r (K.DWS_CMD e) a)
      let live := n < 64 ∧ s.dev.get (K.SEQ_STATE n) ∈ [1, 2]
      let idle := s.dev.get (K.DWS_STATE e) ∉ [2, 3]
      let claimed := ∃ o, o < 4 ∧ o ≠ e ∧ s.dev.get (K.DWS_STATE o) ∈ [2, 3] ∧
        ((s.dev.get (K.DWS_SEQ o) = n ∧ s.dev.get (K.DWS_TSET o) = t) ∨
          ∃ ch, ch ∈ s.dev.dwsListed o ∧ ch ∈ s.dev.dwsListed e)
      let held := eye ∧ (s.dev.tmu shaft).holder ≠ 0
      (s.admits r (K.DWS_CMD e) 1 1 → s.dev.gate [49] none = .ok () →
        (s.dev.canArm = false ∨ ¬ idle ∨ s.dev.domOn 49 = false ∨ ¬ live → refused .state) ∧
        (s.dev.canArm = true → idle → s.dev.domOn 49 = true → live →
          (bit (s.dev.get (K.TSET_SEAL n)) t = true → refused .sealed) ∧
          (bit (s.dev.get (K.TSET_SEAL n)) t = false → (claimed ∨ held) → refused .busy) ∧
          (bit (s.dev.get (K.TSET_SEAL n)) t = false → ¬ claimed → ¬ held →
            (s.dev.dwsListed e = [] ∨ 3 < s.dev.get (K.DWS_KIND e) ∨
              (∃ ch, ch ∈ s.dev.dwsListed e ∧ ∀ c, (ch, c) ∉ (Table.at s.dev.runs {} n).gang)) → refused .range) ∧
          (bit (s.dev.get (K.TSET_SEAL n)) t = false → ¬ claimed → ¬ held → s.dev.get (K.X_HI e) ≤ s.dev.get (K.X_LO e) → refused .range)) ∧
        (∀ a, dwsStartChecks s.mem s.dev e = .error a → refused a) ∧
        (dwsStartChecks s.mem s.dev e = .ok () →
          exec (.dwsStart r e) s = .next (s.answer r (K.DWS_CMD e) (s.dev.dwsStarted e))) ∧
        (dwsStartChecks s.mem s.dev e = .ok () → t < 32 → (∀ p, p ∈ (Table.at s.dev.runs {} n).gang → p.1 < 256) →
          ∃ d, exec (.dwsStart r e) s = .next (s.answer r (K.DWS_CMD e) d) ∧ d.get (K.DWS_STATE e) = 2 ∧ d.get (K.DWS_STEPS e) = 0 ∧
            d.get (K.IDLE_PASSES e) = 0 ∧ Table.at d.domLen 0 (K.DWS_RESULT e) = 0 ∧ bit (d.get (K.TSET_SEAL n)) t = true ∧
            (d.dws e).isSealed = true ∧ (d.dws e).sealPend = false ∧ (d.dws e).seq = n ∧ (d.dws e).tset = t ∧
            (d.dws e).chans.map (·.chan) = s.dev.dwsListed e ∧ (eye → (d.tmu shaft).holder = 3 + e) ∧
            (s.dev.get (K.DWS_KIND e) ≠ 3 → s.dev.get (K.DWS_PARAM e) % 16 ≤ 6 → d.get (K.TSET_PERIOD n t) = s.dev.get (K.ACT_PERIOD n t)) ∧
            (∀ p, p ∈ (Table.at s.dev.runs {} n).gang → p.1 ∉ s.dev.dwsListed e →
              d.get (K.EDGE_A p.1 t) = s.dev.get (K.ACT_EDGE_A p.1 t) ∧ d.get (K.EDGE_B p.1 t) = s.dev.get (K.ACT_EDGE_B p.1 t) ∧
              d.get (K.FMT p.1 t) = s.dev.get (K.ACT_FMT p.1 t)))) ∧
      (s.admits r (K.DWS_CMD e) 1 2 →
        (s.dev.get (K.DWS_STATE e) ∉ [2, 3] → exec (.dwsAbort r e) s = .next (s.refusal r (K.DWS_CMD e) .state)) ∧
        (s.dev.get (K.DWS_STATE e) ∈ [2, 3] → ∃ m d, exec (.dwsAbort r e) s = .next (s.answerBoth r (K.DWS_CMD e) (m, d)) ∧
          d.get (K.DWS_STATE e) = 5 ∧ d.get (K.DWS_CAUSE e) = 1))) ∧
  (∀ (e : Nat) (s : State), e < 4 → s.up →
      let w := s.dev.dws e
      let n := s.dev.get (K.DWS_SEQ e)
      let t := s.dev.get (K.DWS_TSET e)
      let par := s.dev.get (K.DWS_PARAM e) % 16
      (s.dev.get (K.DWS_STATE e) = 2 → w.sealPend = true → w.final = false → s.dev.dwsKnown e = false →
        exec (.dwsStepSeal e) s = .next (s.withDev (s.dev.dwsSealStep e))) ∧
      (s.dev.get (K.DWS_STATE e) = 2 → w.sealPend = true → w.final = false → s.dev.dwsKnown e = false →
        s.dev.seqLive n = true → n < 64 → t < 32 → s.dev.get (K.DWS_KIND e) ≠ 3 → (w.chans.map (·.chan)).Nodup →
        (∀ c, c ∈ w.chans → c.chan < 256 ∧ c.value < 2 ^ 21) →
        ∃ d, exec (.dwsStepSeal e) s = .next (s.withDev d) ∧ (d.dws e).isSealed = true ∧ (d.dws e).sealPend = false ∧
          bit (d.get (K.TSET_SEAL n)) t = true ∧
          (∀ c, c ∈ w.chans →
            (par ≤ 2 → bits (d.get (K.EDGE_A c.chan t)) (21 * par) 21 = c.value) ∧
            (par ∈ [3, 4, 5, 6] → bits (d.get (K.EDGE_B c.chan t)) (21 * (if par = 6 then 1 else par - 3)) 21 = c.value))) ∧
      (w.sealPend = false → s.dev.dwsKnown e = false → exec (.dwsStepSeal e) s = .next s))

/-- R276, R289, R290: a read is checked and answered with the object's value; a broadcast read is discarded. What a lane
counts is brought up to date first, and a figure that only a lane's hardware knows is answered with some value. R289, R12: a
port has at most 32 requests outstanding, one more is refused with BUSY; a request behind one of its port that still waits to
take effect, or behind the write it must follow, is held, and served when its turn comes. -/
def Obligations.ReadsAnswerTheValue : Prop :=
  ((∀ (r : Req) (idx sub : Nat) (s : State), s.ready r → r.bcast = true →
      exec (.dictRead r idx sub) s = .next (s.withDev (s.dev.bump K.BCAST_DISCARDED))) ∧
    (∀ (r : Req) (idx sub : Nat) (s : State), s.ready r → r.bcast = false → idx < 0x4000 →
      let key := idx * 256 + sub
      let lane := 0x0220 ≤ key / 256 ∧ key / 256 ≤ 0x022F
      let queue := 0x0B00 ≤ idx ∧ idx ≤ 0x0BFF ∧ sub = 0x10
      let answered (d : Dev) : Prop :=
        exec (.dictRead r idx sub) s = .next (s.withDev (d.respond r 1 idx sub (toBytes (valueLen key) (d.value key))))
      (∀ a, s.dev.preRead idx sub = some a → exec (.dictRead r idx sub) s = .next (s.withDev (s.dev.refuse r 1 idx sub a))) ∧
      (s.dev.preRead idx sub = none → ¬queue → s.dev.measured key = false →
        (¬lane → key ≠ K.STORE_PEAK → answered s.dev) ∧
        (¬lane → key = K.STORE_PEAK → answered { s.dev with ovm := { s.dev.ovm with fullEv := false } }) ∧
        (lane → answered (s.dev.laneMeasure (key / 256 - 0x0220)))) ∧
      (s.dev.preRead idx sub = none → ¬queue → s.dev.measured key = true → ∃ v, v < 2 ^ 64 ∧ exec (.dictRead r idx sub) s =
        .next (s.withDev (({ s.dev with fresh := s.dev.fresh + 1 } : Dev).respond r 1 idx sub (toBytes (valueLen key) (s.dev.get key + v))))))) ∧
  (∀ (r : Req) (idx sub len v : Nat) (s : State), s.up →
      let hold (c : Instr) : State := s.withDev { s.dev with held := s.dev.held ++ [(r.port, c)] }
      let read := Instr.dictRead r idx sub
      let write := Instr.dictWrite r idx sub len v
      (s.dev.turn = false → 32 ≤ s.dev.outstanding r.port →
        exec read s = .next (s.withDev (s.dev.refuse r 1 idx sub .busy)) ∧
        exec write s = .next (s.withDev (s.dev.refuse r 2 idx sub .busy))) ∧
      (s.dev.turn = false → s.dev.outstanding r.port < 32 → s.dev.outstanding r.port ≠ 0 →
        exec read s = .next (hold read) ∧ exec write s = .next (hold write)) ∧
      (s.dev.turn = false → s.dev.outstanding r.port < 32 → s.dev.behind write = true → exec write s = .next (hold write)) ∧
      (s.dev.turn = true → idx < 0x4000 →
        let t := s.withDev { s.dev with turn := false }
        (∀ a, s.dev.preRead idx sub = some a → r.bcast = false → exec read s = .next (t.withDev (t.dev.refuse r 1 idx sub a))) ∧
        (rowsAt idx = [] → idx * 256 + sub ≠ K.FAULT_CLEAR → exec write s = .next (t.withDev (t.dev.refuse r 2 idx sub .noObject)))))

/-- R278: the checks of a DICT_WRITE in their order, each with its abort code; an ARM refused for the chip's state or shed
level reports its figures all the same (R54, R200). -/
def Obligations.WritesAreCheckedInOrder : Prop :=
  ∀ (r : Req) (idx sub len v : Nat) (s : State), s.ready r → s.dev.behind (.dictWrite r idx sub len v) = false →
    idx < 0x4000 → sub < 256 → idx * 256 + sub ≠ K.FAULT_CLEAR →
    let refused (a : Abort) : Prop := exec (.dictWrite r idx sub len v) s = .next (s.withDev (s.dev.refuse r 2 idx sub a))
    let st := s.dev.get K.CHIP_STATE
    (rowsAt idx = [] → refused .noObject) ∧
    (rowsAt idx ≠ [] → rowOf idx sub = none → refused .noSubindex) ∧
    (∀ row, rowsAt idx ≠ [] → rowOf idx sub = some row →
      let locked := st < 2 ∧ (reachableLocked idx = false ∨ (0x0600 ≤ idx ∧ idx ≤ 0x06FF))
      let fixed := row.acc ∈ [Acc.ro, Acc.const]
      let fits := row.ty.len = some len
      let inRange := v < 2 ^ (8 * len) ∧ row.ok (idx - groupBase idx) v = true ∧ row.ty.holds v = true
      let inFault := st = 6 ∧ ¬(0x0600 ≤ idx ∧ idx ≤ 0x07FF) ∧ stopCommand (idx * 256 + sub) v = false
      let shed := s.dev.shedSuspends (idx * 256 + sub) v = true
      let noted (a : Abort) : Prop := exec (.dictWrite r idx sub len v) s =
        .next (s.withDev ((armNote s.mem s.dev (idx * 256 + sub) v).refuse r 2 idx sub a))
      (locked → refused .locked) ∧
      (¬locked → fixed → refused .access) ∧
      (¬locked → ¬fixed → ¬fits → refused .length) ∧
      (¬locked → ¬fixed → fits → ¬inRange → refused .range) ∧
      (¬locked → ¬fixed → fits → inRange → inFault → noted .fault) ∧
      (¬locked → ¬fixed → fits → inRange → ¬inFault → shed → noted .shed) ∧
      (¬locked → ¬fixed → fits → inRange → ¬inFault → ¬shed → row.acc = .rws → s.dev.ownerStopped (idx * 256 + sub) = false →
        refused .state))

/-- R277: a write to an RWC object clears the bits written 1; a counter is cleared by any value but 0. -/
def Obligations.RwcWritesClear : Prop :=
  ∀ (r : Req) (idx sub len v : Nat) (row : Row) (s : State), idx < 0x4000 → sub < 256 → s.admits r (idx * 256 + sub) len v →
    rowOf idx sub = some row → row.acc = Acc.rwc →
    let key := idx * 256 + sub
    let is (d : Dev) : Prop := exec (.dictWrite r idx sub len v) s = .next (s.answer r key d)
    ((∃ f, row.ty = Ty.bits f) → is (s.dev.set key (s.dev.get key - (s.dev.get key &&& v)))) ∧
    ((∀ f, row.ty ≠ Ty.bits f) → v = 0 → is s.dev) ∧
    ((∀ f, row.ty ≠ Ty.bits f) → v ≠ 0 → ¬(0x0B00 ≤ idx ∧ idx ≤ 0x0BFF ∧ sub = 9) → ¬(0x1200 ≤ idx ∧ idx ≤ 0x123F ∧ sub = 0x28) →
      is (s.dev.set key 0)) ∧
    (0x1200 ≤ idx → idx ≤ 0x123F → sub = 0x28 → (∀ f, row.ty ≠ Ty.bits f) → v ≠ 0 →
      is ({ s.dev with dirRead := s.dev.dirRead.filter (· != idx - 0x1200) }.set key 0)) ∧
    (0x0B00 ≤ idx → idx ≤ 0x0BFF → sub = 9 → (∀ f, row.ty ≠ Ty.bits f) → v ≠ 0 →
      is (s.dev.set key (s.dev.tarn (idx - 0x0B00)).count))

/-- R281: LAST_ABORT names the refused transaction, whatever it held before; the refusal is counted and answered (R279), a
broadcast one is not answered (R290), and no other object changes but the count of frames sent of the port that answers. -/
def Obligations.LastAbortNamesTheRefusal : Prop :=
  ∀ (d : Dev) (r : Req) (type idx sub : Nat) (a : Abort), type < 256 → idx < 65536 → sub < 256 → r.src < 256 → r.tag < 256 → r.port < 6 →
    d.get K.ABORT_COUNT + 1 < 2 ^ 32 →
    let e := d.refuse r type idx sub a
    bits (e.get K.LAST_ABORT) 48 16 = a.code ∧ bits (e.get K.LAST_ABORT) 32 16 = idx ∧ bits (e.get K.LAST_ABORT) 24 8 = sub ∧
    bits (e.get K.LAST_ABORT) 16 8 = type ∧ bits (e.get K.LAST_ABORT) 8 8 = r.src ∧ e.get K.LAST_ABORT % 256 = r.tag ∧
    e.get K.ABORT_COUNT = d.get K.ABORT_COUNT + 1 ∧
    e.egress = (if r.bcast then d.egress else d.egress ++ [.response r type a.code idx sub []]) ∧
    (∀ key, key ≠ K.LAST_ABORT → key ≠ K.ABORT_COUNT → key ≠ portKey r.port 0x11 → e.get key = d.get key)

/-- R408 to R411: raising an event sets its status bit, whatever its routing, and, where it does not go to a cluster, counts
it once, places a NOTICE in the buffer when it is enabled, routed to a node and delivered, and leaves every other object. -/
def Obligations.EventsAreRecorded : Prop :=
  ∀ (d : Dev) (n cause info : Nat), n < 320 →
    let e := d.event n cause info
    let old := bit (d.get (K.EVT_STATUS (n / 64))) (n % 64)
    let on := bit (d.get (K.EVT_ENABLE (n / 64))) (n % 64)
    let route := d.get (K.EVT_ROUTE n)
    bit (e.get (K.EVT_STATUS (n / 64))) (n % 64) = true ∧
    (bits route 14 2 ≠ 2 → e.get (K.EVT_COUNT n) = min (2 ^ 32 - 1) (d.get (K.EVT_COUNT n) + 1) ∧
      ∀ key, key ≠ K.EVT_STATUS (n / 64) → key ≠ K.EVT_COUNT n → key ≠ K.NOTICE_SEQ → key ≠ K.NOTICE_DROPS →
        e.get key = d.get key) ∧
    ((on = false ∨ (old = true ∧ bit route 13 = false) ∨ bits route 14 2 ∈ [0, 3]) → e.notices = d.notices ∧ e.egress = d.egress) ∧
    (on = true → (old = false ∨ bit route 13 = true) → bits route 14 2 = 1 → d.notices.length < 64 →
      ∃ x, e.notices = d.notices ++ [x] ∧ x.event = n ∧ x.cause = cause ∧ x.info = info ∧ x.target = route % 64 ∧
        x.seq = (d.get K.NOTICE_SEQ + 1) % 2 ^ 32 ∧ x.stamp = d.tb0)

/-- R291 to R294: the phases of a domain transfer. -/
def Obligations.DomainTransfers : Prop :=
  ∀ (r : Req) (idx sub : Nat) (s : State), s.ready r → r.bcast = false → idx < 0x4000 → sub < 256 →
    let key := idx * 256 + sub
    let refused (c : Instr) (phase : Nat) (a : Abort) : Prop := exec c s = .next (s.withDev (s.dev.refuse r 3 idx sub a phase))
    let checks := s.dev.preBlock s.mem idx sub
    let ended (d : Dev) : Prop := d.xferOf key = none
    -- opening
    (∀ n, checks true true = none → s.dev.loadState key = true → s.dev.xferRoom key = true →
      (domLenOk key n = true → ∃ m d, exec (.openWrite r idx sub n) s = .next (s.withBoth (m, d)) ∧
        d.xferOf key = some ⟨key, true, n, 0⟩ ∧ d.get K.OPEN_BLOCKS = s.dev.xfers.length + 1 ∧
        (∀ o, o < 2 ^ 33 → Memory.look m (domAt key o) = Memory.look s.mem (domAt key o))) ∧
      (domLenOk key n = false → refused (.openWrite r idx sub n) 1 .length)) ∧
    (∀ n, checks true true = none → s.dev.loadState key = true → s.dev.xferRoom key = false →
      refused (.openWrite r idx sub n) 1 .busy) ∧
    (∀ n l, checks true false = none → s.dev.xferRoom key = true → 1 ≤ n → n ≤ 2 ^ 32 →
      readContent s.mem s.dev key n = .ok l → ∃ m d, exec (.openRead r idx sub n) s = .next (s.withBoth (m, d)) ∧
        d.xferOf key = some ⟨key, false, l.length, 0⟩) ∧
    (∀ n, checks true false = none → s.dev.xferRoom key = true → (n = 0 ∨ 2 ^ 32 < n) →
      refused (.openRead r idx sub n) 2 .length) ∧
    (∀ n a, checks true true = some a → refused (.openWrite r idx sub n) 1 a) ∧
    (∀ n a, checks true false = some a → refused (.openRead r idx sub n) 2 a) ∧
    -- segments, the end of a transfer, and requests without one
    (checks false false = none →
      (∀ x, s.dev.xferOf key = some x → x.write = true → ¬(0x2000 ≤ idx ∧ idx ≤ 0x203F) → ∀ (o n : Nat) (l : List Byte),
        (o = x.done → 1 ≤ l.length → l.length ≤ 8192 → o + l.length ≤ x.total →
          exec (.data r idx sub o n l) s = .next (s.withBoth
            (Memory.wrN s.mem (stageAt key o) l, (s.dev.xferMoved x l.length).respond r 3 idx sub [] 3))) ∧
        (o ≠ x.done → ∃ m d, exec (.data r idx sub o n l) s = .next (s.withBoth (m, d)) ∧ ended d ∧
          bits (d.get K.LAST_ABORT) 48 16 = 5)) ∧
      (∀ x, s.dev.xferOf key = some x → x.write = false → ∀ (o n : Nat) (l : List Byte), o = x.done → 1 ≤ n → n ≤ 8192 →
        o + n ≤ x.total → exec (.data r idx sub o n l) s = .next (s.withDev
          ((s.dev.xferMoved x n).respond r 3 idx sub (Memory.rdN s.mem s.dev.fresh (stageAt key o) n) 3))) ∧
      (∀ x, s.dev.xferOf key = some x → x.write = true → x.done < x.total →
        ∃ m d, exec (.close r idx sub) s = .next (s.withBoth (m, d)) ∧ ended d ∧ bits (d.get K.LAST_ABORT) 48 16 = 4) ∧
      (∀ x, s.dev.xferOf key = some x → x.write = true → x.total ≤ x.done → (0x2100 ≤ idx ∧ idx ≤ 0x210F ∨ (0x2300 ≤ idx ∧ idx ≤ 0x230F)) →
        s.Inv → x.total ≤ 2 ^ 32 →
        ∃ m d, exec (.close r idx sub) s = .next (s.withBoth (m, d)) ∧ ended d ∧
          (∀ o, o < x.total → Memory.look m (domAt key o) = some (Memory.rd s.mem s.dev.fresh (stageAt key o)))) ∧
      (∀ x, s.dev.xferOf key = some x → x.write = false → ∃ m d, exec (.close r idx sub) s = .next (s.withBoth (m, d)) ∧ ended d) ∧
      (∀ x, s.dev.xferOf key = some x → ∃ m d, exec (.cancel r idx sub) s = .next (s.withBoth (m, d)) ∧ ended d) ∧
      (s.dev.xferOf key = none → ∀ c ∈ [(Instr.data r idx sub 0 0 [], 3), (.close r idx sub, 4), (.cancel r idx sub, 5)],
        (Table.find s.dev.endedBy key = none → refused c.1 c.2 .state) ∧
        (Table.find s.dev.endedBy key = some 0x0B → refused c.1 c.2 .fault) ∧
        (Table.find s.dev.endedBy key = some 0x0E →
          exec c.1 s = .next (s.withDev (({ s.dev with endedBy := Table.del s.dev.endedBy key } : Dev).refuse r 3 idx sub .timeout c.2))))) ∧
    -- one second without a request
    (∀ x, s.dev.xferOf key = some x → ∃ m d, exec (.blockTimeout idx sub) s = .next (s.withBoth (m, d)) ∧ ended d ∧
      Table.find d.endedBy key = some 0x0E) ∧
    (s.dev.xferOf key = none → exec (.blockTimeout idx sub) s = .next s)

/-- R322, R323, R271: BULK reaches DDR4 after its checks, in order; the bytes outside the segment are unchanged; a read that
meets an uncorrectable word raises it. -/
def Obligations.BulkReachesDdr4 : Prop :=
  ∀ (r : Req) (a : Nat) (posted : Bool) (l : List Byte) (n : Nat) (s : State), s.ready r → r.bcast = false →
    (bulkCheck s.mem s.dev r a l.length true posted = .ok () → a + l.length ≤ 2 ^ 40 →
      ∃ m d, exec (.bulkWrite r a posted l) s = .next (s.withBoth (m, d)) ∧
        (∀ o, o < l.length → Memory.look m (ddrAt (a + o)) = l[o]?) ∧
        (∀ x, (x < ddrAt a ∨ ddrAt a + l.length ≤ x) → Memory.look m x = Memory.look s.mem x)) ∧
    (∀ e, bulkCheck s.mem s.dev r a l.length true posted = .error e → posted = false →
      exec (.bulkWrite r a posted l) s = .next (s.withDev (s.dev.refuse r 6 0 0 e))) ∧
    (∀ e, bulkCheck s.mem s.dev r a l.length true posted = .error e → posted = true →
      exec (.bulkWrite r a posted l) s = .next (s.withDev (((s.dev.refuse { r with bcast := true } 6 0 0 e).bump
        (portKey r.port 0x13)).event (236 + laneBase r.port) 7 0))) ∧
    (bulkCheck s.mem s.dev r a n false false = .ok () → s.dev.ddrBad a n = true →
      let hit := s.dev.badBursts a n
      let q := hit.foldl (fun (p : Memory × Dev) b => ddrUncorr p.1 p.2 (p.2.ddrChanOf b) (s.dev.badBurstAt a n b))
        (s.mem, if s.dev.get K.DDR_STATE = 3 then s.dev.ddrTraffic 3 a n false [] hit else s.dev)
      exec (.bulkRead r a n) s = .next (s.withBoth (q.1, ({ q.2 with fresh := q.2.fresh + 1 } : Dev).respond r 6 0 0
        (Memory.rdN q.1 q.2.fresh (ddrAt a) n)))) ∧
    (bulkCheck s.mem s.dev r a n false false = .ok () → s.dev.ddrBad a n = false →
      exec (.bulkRead r a n) s = .next (s.withDev (({ s.dev.ddrTraffic 3 a n false with fresh := s.dev.fresh + 1 } : Dev).respond r 6 0 0
        (Memory.rdN s.mem s.dev.fresh (ddrAt a) n)))) ∧
    (∀ e, bulkCheck s.mem s.dev r a n false false = .error e →
      exec (.bulkRead r a n) s = .next (s.withDev (s.dev.refuse r 6 0 0 e))) ∧
    (2 ≤ s.dev.get K.CHIP_STATE → s.dev.get K.DDR_STATE ≠ 3 → 1 ≤ n → n ≤ s.dev.bulkMax r.port →
      exec (.bulkRead r a n) s = .next (s.withDev (s.dev.refuse r 6 0 0 .state))) ∧
    (2 ≤ s.dev.get K.CHIP_STATE → s.dev.get K.DDR_STATE = 3 → 1 ≤ n → n ≤ s.dev.bulkMax r.port → s.dev.get K.CAPACITY < a + n →
      exec (.bulkRead r a n) s = .next (s.withDev (s.dev.refuse r 6 0 0 .range)))

/-- R312 to R316, R320: frames are accepted in order of FSEQ, resent until acknowledged, and forwarded within credit. -/
def Obligations.FramesAreSequenced : Prop :=
  ∀ (p : Nat) (f : Frame) (s : State), p < 2 → s.up → s.dev.turn = false →
    let x := s.dev.port p
    (s.dev.portState p ≠ 5 → exec (.transFrameReceived p f) s = .next s ∧ exec (.ackOnly p f) s = .next s ∧
      exec (.replayTimeout p) s = .next s ∧ exec (.pauseOn p) s = .next s ∧ exec (.pauseOff p) s = .next s) ∧
    (s.dev.portState p = 5 →
      (f.intact = false → exec (.transFrameReceived p f) s = .next (s.withDev (s.dev.crcError p)) ∧
        exec (.ackOnly p f) s = .next (s.withDev (s.dev.crcError p))) ∧
      (f.intact = true → f.badKind = true → exec (.transFrameReceived p f) s = .next (s.withDev (s.dev.bump (portKey p 0x0F))) ∧
        exec (.ackOnly p f) s = .next (s.withDev (s.dev.bump (portKey p 0x0F)))) ∧
      (f.intact = true → f.badKind = false → f.kind = 2 → f.op = 1 →
        exec (.ackOnly p f) s = .next (s.withDev (s.dev.header p f)) ∧ exec (.transFrameReceived p f) s = .next s) ∧
      (f.intact = true → f.badKind = false → f.kind = 1 →
        let e := s.dev.header p f
        let y := e.port p
        let delta := (f.fseq + 65536 - y.ack) % 65536
        (delta = 1 → exec (.transFrameReceived p f) s =
          .next (s.withDev (((e.setPort p { y with ack := f.fseq, ackDue := true }).received p f).route p f))) ∧
        ((delta = 0 ∨ 32768 ≤ delta) → exec (.transFrameReceived p f) s = .next (s.withDev e)) ∧
        (1 < delta → delta < 32768 → exec (.transFrameReceived p f) s = .next (s.withDev (e.ctrl p 1 0 true))) ∧
        exec (.ackOnly p f) s = .next s) ∧
      (x.replay = [] ∨ x.narrow.isSome → exec (.replayTimeout p) s = .next s) ∧
      (x.replay ≠ [] → x.narrow = none → x.resends + 1 < 8 →
        exec (.replayTimeout p) s = .next (s.withDev ((s.dev.setPort p { x with resends := x.resends + 1 }).resend p))) ∧
      (x.replay ≠ [] → x.narrow = none → x.resends + 1 = 8 → ∃ d, exec (.replayTimeout p) s = .next (s.withDev d) ∧
        d.portState p = 2 ∧ (d.port p).replay = x.replay ∧ d.get (portKey p 0x10) = 256 * 5 + 6) ∧
      (s.dev.portMajor p = 1 →
        exec (.pauseOn p) s = .next (s.withDev (((s.dev.bump (portKey p 0x12)).setPort p { x with paused := true }).bump (portKey p 0x14))) ∧
        exec (.pauseOff p) s =
          .next (s.withDev (((s.dev.bump (portKey p 0x12)).setPort p { x with paused := false }).drainPort p))) ∧
      (s.dev.portMajor p = 2 → ∀ c ∈ [Instr.pauseOn p, .pauseOff p], exec c s = .next (s.withDev (s.dev.bump (portKey p 0x12)))) ∧
      (f.intact = true → f.kind = 2 → (s.dev.header p f).portState p = 5 → (s.dev.header p f).portMajor p = 1 →
        let e := s.dev.header p f
        (f.op = 2 → exec (.ackOnly p f) s = .next (s.withDev ((e.setPort p { e.port p with paused := true }).bump (portKey p 0x14)))) ∧
        (f.op = 3 → exec (.ackOnly p f) s = .next (s.withDev ((e.setPort p { e.port p with paused := false }).drainPort p))) ∧
        (f.op = 4 → exec (.ackOnly p f) s = .next (s.withBoth (widthAsked s.mem e p (f.body.headD 0 % 16)))) ∧
        (f.op = 5 → exec (.ackOnly p f) s = .next (s.withBoth (widthAnswered s.mem e p (f.body.headD 0 % 16)))) ∧
        (f.op = 6 → exec (.ackOnly p f) s = .next (s.withDev (e.rejoinAsked p (f.body.headD 0 % 16)))) ∧
        (f.op = 7 → exec (.ackOnly p f) s = .next (s.withDev (e.rejoinAnswered p (f.body.headD 0 % 16)))))) ∧
    (∀ g l, x.fwd = g :: l →
      let goes := s.dev.mayGo p g.body = true ∧ s.dev.canSend p (8 * g.body.length) = true
      (s.dev.portState p ≠ 5 → exec (.frameForward p) s =
        .next (s.withDev (((s.dev.setPort p { x with fwd := l }).bump K.FWD_DISCARDED).pauseCheck (1 - p)))) ∧
      (s.dev.portState p = 5 → ¬goes → exec (.frameForward p) s = .next s) ∧
      (s.dev.portState p = 5 → goes → ∃ d fr out after, exec (.frameForward p) s = .next (s.withDev d) ∧
        d.egress = s.dev.egress ++ .forward p g :: out ∧ d.wire = s.dev.wire ++ (p, fr) :: after ∧ fr.body = g.body ∧
        (d.port p).fwd = l ∧ (d.port p).fseq = (x.fseq + 1) % 65536 ∧ (d.port p).replay = x.replay ++ [fr])) ∧
    (x.fwd = [] → exec (.frameForward p) s = .next s)

/-- R321, R411: enumeration along the chain, by requests from upstream, and the oldest notice that may be sent. -/
def Obligations.EnumerationAndNotices : Prop :=
  (∀ (r : Req) (n : Nat) (s : State), s.ready r →
    (r.port = 0 →
      exec (.enumClear r) s = .next (s.withDev ((s.dev.set K.NODE_ID 0).enumOn r 1 0)) ∧
      (s.dev.get K.NODE_ID = 0 → 1 ≤ n → n < 63 → ∃ d, exec (.enumAssign r n) s = .next (s.withDev d) ∧ d.get K.NODE_ID = n ∧
        ∃ l, d.egress = s.dev.egress ++ .enumId 0 n (toBytes 4 0xCAE1 ++ toBytes 4 0x2564 ++ toBytes 8 Config.serial.toNat) :: l ∧
          (s.dev.portState 1 = 5 → l = [.enum 1 2 (n + 1)]) ∧ (s.dev.portState 1 ≠ 5 → l = [])) ∧
      (s.dev.get K.NODE_ID = 0 → 63 ≤ n → exec (.enumAssign r n) s = .next (s.withDev (s.dev.bump K.ENUM_REFUSED))) ∧
      (s.dev.get K.NODE_ID ≠ 0 → exec (.enumAssign r n) s = .next (s.withDev (s.dev.enumOn r 2 n)))) ∧
    (r.port = 1 → exec (.enumClear r) s = .next s ∧ exec (.enumAssign r n) s = .next s)) ∧
  (∀ s : State, s.up →
    let me := s.dev.get K.NODE_ID
    let ready (n : Notice) : Prop := n.target ≠ me ∧ s.dev.canSend (if n.target < me then 0 else 1) 48 = true ∧
      s.dev.mayGo (if n.target < me then 0 else 1) (noticeWords me n) = true
    (me = 0 → exec .noticeSend s = .next s) ∧
    ((∀ n ∈ s.dev.notices, ¬ready n) → exec .noticeSend s = .next s) ∧
    (∀ n l, s.dev.notices = n :: l → me ≠ 0 → ready n →
      let p := if n.target < me then 0 else 1
      ∃ d fr, exec .noticeSend s = .next (s.withDev d) ∧ d.notices = l ∧
        d.wire = s.dev.wire ++ [(p, fr)] ∧ fr.body = noticeWords me n ∧ (d.port p).replay = (s.dev.port p).replay ++ [fr] ∧
        d.egress = s.dev.egress ++ [.notice p n.target n.event n.cause n.info n.seq n.stamp]))

/-- R239 to R248: the commands of a Tarn queue. Words come out in the order they went in; an empty queue underruns. -/
def Obligations.QueuesKeepTheirOrder : Prop :=
  ∀ (r : Req) (q : Nat) (s : State), q < 256 →
    let key := K.Q_CMD q
    let st := s.dev.get (K.Q_STATE q)
    let t := s.dev.tarn q
    let need_ := s.dev.poolUsed + tarnWords (s.dev.get (K.Q_SIZE q))
    let empty (v : Nat) : Dev := ({ s.dev with tarns := Table.put s.dev.tarns q { bank := t.bank } } : Dev).set (K.Q_STATE q) v
    (s.admits r key 1 1 →
      (st = 1 → exec (.qEnable r q) s = .next (s.refusal r key .state)) ∧
      (st ≠ 1 → s.dev.domOn 46 = true → 0 < tarnWords (s.dev.get (K.Q_SIZE q)) → need_ ≤ 1048576 →
        exec (.qEnable r q) s = .next (s.answer r key (empty 1))) ∧
      (st ≠ 1 → s.dev.domOn 46 = true → 1048576 < need_ → exec (.qEnable r q) s = .next (s.refusal r key .range))) ∧
    (s.admits r key 1 2 →
      (st ≠ 1 → exec (.qDisable r q) s = .next (s.refusal r key .state)) ∧
      (st = 1 → s.dev.qBinding q ≠ 0 → exec (.qDisable r q) s = .next (s.refusal r key .busy)) ∧
      (st = 1 → s.dev.qBinding q = 0 → exec (.qDisable r q) s = .next (s.answer r key (empty 0)))) ∧
    (s.admits r key 1 3 →
      (st ≠ 1 → exec (.qFlush r q) s = .next (s.refusal r key .state)) ∧
      (st = 1 → s.dev.qBinding q ≠ 0 → exec (.qFlush r q) s = .next (s.refusal r key .busy)) ∧
      (st = 1 → s.dev.qBinding q = 0 → ∃ d : Dev, exec (.qFlush r q) s = .next (s.answer r key d) ∧ (d.tarn q).words = [] ∧
        d.objs = s.dev.objs)) ∧
    -- pushing: the word goes behind every other
    (∀ v, st = 1 → s.dev.qLogged q = false → s.dev.qGraphOut q = false → s.dev.qTram q 20 = false → s.dev.qStaged q = false →
      s.dev.get (K.Q_WEIR q) = 0 →
      ∀ c ∈ [(Instr.qPush r q v, K.Q_PUSH q, false), (.qPushEnd r q v, K.Q_PUSH_END q, true)], s.admits r c.2.1 8 v →
        (0 < s.dev.qSpace q → ∃ d : Dev, exec c.1 s = .next (s.answer r c.2.1 d) ∧
          (d.tarn q).words = t.words ++ [(v % 2 ^ 64, c.2.2)] ∧ (∀ o, o ≠ q → d.tarn o = s.dev.tarn o)) ∧
        (s.dev.qSpace q = 0 → exec c.1 s = .next (s.refusal r c.2.1 .busy))) ∧
    -- popping: the oldest word leaves
    (s.ready r → r.bcast = false → s.dev.preRead (0x0B00 + q) 0x10 = none → 0 < tarnWords (s.dev.get (K.Q_SIZE q)) →
      (st ≠ 1 → exec (.qPop r q) s = .next (s.withDev (s.dev.refuse r 1 (0x0B00 + q) 0x10 .state))) ∧
      (st = 1 → s.dev.qSump q = false → s.dev.qStream q = false → s.dev.qGraphIn q = false → s.dev.qTram q 16 = false →
        (∀ w l, t.words = w :: l → ∃ d : Dev, exec (.qPop r q) s =
          .next (s.withDev (d.respond r 1 (0x0B00 + q) 0x10 (toBytes 8 w.1))) ∧ (s.dev.get (K.Q_WEIR q) = 0 →
            (d.tarn q).words = l ∧ (∀ o, o ≠ q → d.tarn o = s.dev.tarn o) ∧
            d.get (K.Q_PEAK q) = max (s.dev.get (K.Q_PEAK q)) (d.tarn q).count ∧
            (∀ k, k ≠ K.Q_PEAK q → d.get k = s.dev.get k))) ∧
        -- a word of the write port that takes the room may cross the Weir
        (∀ w l, (t.swap (s.dev.qHalf q)).drain = w :: l →
          let u := ({ t.swap (s.dev.qHalf q) with drain := l, lastPop := w.1, lastEnd := w.2 } : Tarn).swap (s.dev.qHalf q)
          t.count < s.dev.get (K.Q_WEIR q) → s.dev.get (K.Q_WEIR q) ≤ u.count →
          exec (.qPop r q) s = .next (s.withDev ((((({ s.dev with tarns := Table.put s.dev.tarns q u } : Dev).keepMax (K.Q_PEAK q) u.count).setB
            (K.Q_STICKY q) 1 true).event (272 + q / 16) 1 q).respond r 1 (0x0B00 + q) 0x10 (toBytes 8 w.1)))) ∧
        (t.words = [] → ∃ d : Dev, exec (.qPop r q) s =
          .next (s.withDev (d.respond r 1 (0x0B00 + q) 0x10 (toBytes 8 t.lastPop))) ∧
          bit (d.get (K.Q_STICKY q)) 0 = true ∧ (s.dev.get (K.Q_UNDERRUNS q) + 1 < 2 ^ 32 →
            d.get (K.Q_UNDERRUNS q) = s.dev.get (K.Q_UNDERRUNS q) + 1)))) ∧
    -- the Weir
    (∀ v, s.admits r (K.Q_WEIR q) 4 v →
      ((v = 0 ∨ t.count < v ∨ st ≠ 1) → exec (.qWeirWrite r q v) s = .next (s.answer r (K.Q_WEIR q) (s.dev.set (K.Q_WEIR q) v))) ∧
      (0 < v → v ≤ t.count → st = 1 → exec (.qWeirWrite r q v) s = .next (s.answer r (K.Q_WEIR q)
        (((s.dev.set (K.Q_WEIR q) v).setB (K.Q_STICKY q) 1 true).event (272 + q / 16) 1 q))))

/-- R170, R171, R173 to R175: records leave the staging buffer for their queues, an ordinary one only while the reserve of 128
records stays free, each queue's in their order; and packets a queue for its Sump region. -/
def Obligations.RecordsReachQueuesAndRegions : Prop :=
  (∀ (k : Nat) (s : State), k < 4 → s.up →
    let b := Table.at s.dev.staging {} k
    let leaves (x : LogRec) (l : List LogRec) : Prop := exec (.stagingDeliver k) s = .next (s.withDev
      (({ s.dev with staging := Table.put s.dev.staging k { b with recs := l } } : Dev).qPut x.queue (packetOf x.raw 4)))
    let room (x : LogRec) : Prop := (if x.kind = 3 ∨ x.kind = 4 then 4 else 516) ≤ s.dev.qSpace x.queue
    ((∀ x ∈ b.recs, ¬room x) → exec (.stagingDeliver k) s = .next s) ∧
    (∀ x l, b.recs = x :: l → room x → leaves x l) ∧
    (∀ x y l, b.recs = x :: y :: l → ¬room x → room y → y.queue ≠ x.queue → leaves y (x :: l)) ∧
    (∀ x y, b.recs = [x, y] → ¬room x → y.queue = x.queue → exec (.stagingDeliver k) s = .next s) ∧
    (b.wait = [] → exec (.startEndAdmit k) s = .next s) ∧
    (∀ x l, b.wait = x :: l →
      (b.ordinary < 896 → exec (.startEndAdmit k) s = .next (s.withDev { s.dev with
        staging := Table.put s.dev.staging k { b with wait := l, recs := b.recs ++ [{ x with resv := false }] } })) ∧
      (896 ≤ b.ordinary → b.reserve < 128 → exec (.startEndAdmit k) s = .next (s.withDev { s.dev with
        staging := Table.put s.dev.staging k { b with wait := l, recs := b.recs ++ [{ x with resv := true }] } })) ∧
      (896 ≤ b.ordinary → 128 ≤ b.reserve → exec (.startEndAdmit k) s = .next s))) ∧
  (∀ (r : Req) (x : Nat) (s : State), x < 16 →
    let st := s.dev.get (K.SUMP_STATE x)
    let q := s.dev.get (K.SUMP_QUEUE x)
    let base := s.dev.get (K.SUMP_BASE x)
    let size := s.dev.get (K.SUMP_KIB x) * 1024
    let wr := s.dev.get (K.SUMP_WR x)
    let key := K.SUMP_CMD x
    (s.admits r key 1 1 →
      (st ≠ 0 → exec (.sumpBind r x) s = .next (s.refusal r key .state)) ∧
      (s.dev.sumpBindChecks x = .ok () → exec (.sumpBind r x) s = .next (s.answer r key
        (((s.dev.set (K.SUMP_WR x) 0).set (K.SUMP_RD x) 0).set (K.SUMP_STATE x) 1)))) ∧
    (s.admits r key 1 2 →
      (st = 0 → exec (.sumpUnbind r x) s = .next (s.refusal r key .state)) ∧
      (st ≠ 0 → s.dev.qLogged q = true → exec (.sumpUnbind r x) s = .next (s.refusal r key .state)) ∧
      (st ≠ 0 → s.dev.qLogged q = false →
        exec (.sumpUnbind r x) s = .next (s.answer r key (s.dev.set (K.SUMP_STATE x) 0)))) ∧
    (∀ v, s.admits r (K.SUMP_RD x) 8 v →
      (s.dev.get (K.SUMP_MODE x) = 1 → v % 8 = 0 → s.dev.get (K.SUMP_RD x) ≤ v → v ≤ wr →
        exec (.sumpRdWrite r x v) s = .next (s.answer r (K.SUMP_RD x) (s.dev.set (K.SUMP_RD x) v))) ∧
      (s.dev.get (K.SUMP_MODE x) = 1 → (v % 8 ≠ 0 ∨ v < s.dev.get (K.SUMP_RD x) ∨ wr < v) →
        exec (.sumpRdWrite r x v) s = .next (s.refusal r (K.SUMP_RD x) .range)) ∧
      (s.dev.get (K.SUMP_MODE x) ≠ 1 → exec (.sumpRdWrite r x v) s = .next (s.refusal r (K.SUMP_RD x) .state))) ∧
    (s.up →
      let ready := s.dev.get K.DDR_STATE = 3
      ((st = 0 ∨ (st = 2 ∧ s.dev.get (K.SUMP_MODE x) = 0) ∨ firstPacket (s.dev.tarn q).held = none ∨ (¬ready ∧ s.dev.get K.DDR_STATE ≠ 5)) → exec (.sumpDrain x) s = .next s) ∧
      let drains := st ≠ 0 ∧ ¬(st = 2 ∧ s.dev.get (K.SUMP_MODE x) = 0)
      (∀ p, drains → ready → firstPacket (s.dev.tarn q).held = some p → 8 * p.length ≤ size → base + size ≤ 2 ^ 40 →
        let stored (at_ : Nat → Nat) : Prop := ∃ (m : Memory) (d : Dev), exec (.sumpDrain x) s = .next (s.withBoth (m, d)) ∧
          d.get (K.SUMP_WR x) = wr + 8 * p.length ∧
          (s.dev.quiet q → (d.tarn q).words = (s.dev.tarn q).words.drop p.length) ∧
          (∀ o, o < 8 * p.length → Memory.look m (ddrAt (base + at_ o)) = (p.flatMap (fun w => toBytes 8 w.1))[o]?) ∧
          (∀ a, (∀ o, o < 8 * p.length → a ≠ ddrAt (base + at_ o)) → Memory.look m a = Memory.look s.mem a)
        let full := exec (.sumpDrain x) s = .next (s.withDev (s.dev.set (K.SUMP_STATE x) 2))
        (s.dev.get (K.SUMP_MODE x) = 0 →
          (wr + 8 * p.length ≤ size → stored (wr + ·)) ∧ (size < wr + 8 * p.length → full)) ∧
        (s.dev.get (K.SUMP_MODE x) ≠ 0 →
          (wr - s.dev.get (K.SUMP_RD x) + 8 * p.length ≤ size → stored (fun o => (wr + o) % size)) ∧
          (size < wr - s.dev.get (K.SUMP_RD x) + 8 * p.length → full))) ∧
      (∀ p, drains → ready → firstPacket (s.dev.tarn q).held = some p → size < 8 * p.length →
        ∃ d : Dev, exec (.sumpDrain x) s = .next (s.withDev d) ∧
          (s.dev.quiet q → (d.tarn q).words = (s.dev.tarn q).words.drop p.length) ∧
          d.get (K.SUMP_WR x) = wr ∧
          (s.dev.get (K.SUMP_DISCARDED x) + 1 < 2 ^ 32 → d.get (K.SUMP_DISCARDED x) = s.dev.get (K.SUMP_DISCARDED x) + 1))))

/-- R249 to R256: a Tram channel fetches, checks, moves and ends. -/
def Obligations.TramChainsRun : Prop :=
  ∀ (r : Req) (c : Nat) (s : State), c < 16 →
    let key := K.TRAM_CMD c
    let st := s.dev.get (K.TRAM_STATE c)
    let t := s.dev.tram c
    (s.admits r key 1 1 → s.dev.gate [46] none = .ok () →
      ((st = 0 ∨ st = 4) → s.dev.domOn 46 = true → s.dev.get K.DDR_STATE = 3 → exec (.tramStart r c) s = .next (s.answer r key
        ((s.dev.setTram c { next := some (s.dev.get (K.CHAIN_HEAD c)) }).setAll
          [(K.CHAIN_STOP_AT c, 0xFFFFFFFFFF), (K.DESC_DONE c, 0), (K.BYTES_DONE c, 0), (K.TRAM_STATE c, 2)]))) ∧
      (st ≠ 0 → st ≠ 4 → exec (.tramStart r c) s = .next (s.refusal r key .state))) ∧
    (s.admits r key 1 2 →
      (st ≠ 2 → st ≠ 4 → exec (.tramRestart r c) s = .next (s.refusal r key .state)) ∧
      (st = 2 → s.dev.atTail c = false → exec (.tramRestart r c) s = .next (s.answer r key s.dev)) ∧
      (st = 2 → s.dev.atTail c = true →
        exec (.tramRestart r c) s = .next (s.answer r key (s.dev.setTram c { t with restart := true }))) ∧
      (st = 4 →
        let a := s.dev.get (K.CHAIN_STOP_AT c)
        let w := Memory.rdVal s.mem s.dev.fresh (ddrAt a) 8
        let e := s.dev.ddrTraffic 3 a 8 false [] [] (c + 1)
        (s.dev.get K.DDR_STATE = 3 → s.dev.ddrBad a 8 = false → exec (.tramRestart r c) s = .next (s.answer r key
          (if bit w 0 then e.bump (K.RESTARTS_IGNORED c)
           else (e.setTram c { next := some (bits w 24 40) }).set (K.TRAM_STATE c) 2))) ∧
        (s.dev.get K.DDR_STATE ≠ 3 → s.dev.get K.DDR_STATE ≠ 5 → exec (.tramRestart r c) s = .next (s.answer r key
          ((s.dev.setTram c { reread := true }).set (K.TRAM_STATE c) 2))) ∧
        (s.dev.get K.DDR_STATE ∈ [3, 5] → s.dev.ddrBad a 8 = true →
          let u := ddrReadBy s.mem s.dev 3 a 8 true (c + 1)
          exec (.tramRestart r c) s = .next (s.answerBoth r key (tramError u.1 u.2 c 7 a))))) ∧
    (s.admits r key 1 3 →
      (st = 2 → exec (.tramAbort r c) s = .next (s.answer r key ((s.dev.setTram c {}).set (K.TRAM_STATE c) 0))) ∧
      (st ≠ 2 → exec (.tramAbort r c) s = .next (s.refusal r key .state))) ∧
    -- the fetch and its checks
    (∀ a, s.up → st = 2 → t.reread = false → t.desc = none → t.next = some a → s.dev.get K.DDR_STATE = 3 → s.dev.ddrBad a 64 = false →
      let e := (s.dev.set (K.CUR_DESC c) a).ddrTraffic 3 a 64 false [] [] (c + 1)
      let x := Memory.rdVal s.mem s.dev.fresh (ddrAt a) 64
      let e' := if bit x 0 then e.set (K.CHAIN_STOP_AT c) a else e
      (s.dev.get K.CAPACITY < a + 64 → exec (.descFetch c) s = .next (s.withBoth (tramError s.mem e c 3 a))) ∧
      (a + 64 ≤ s.dev.get K.CAPACITY → s.dev.descCheck x = 0 →
        exec (.descFetch c) s = .next (s.withDev (e'.setTram c { t with desc := some (x, a), next := none, moved := 0 }))) ∧
      (a + 64 ≤ s.dev.get K.CAPACITY → s.dev.descCheck x ≠ 0 →
        exec (.descFetch c) s = .next (s.withBoth (tramError s.mem e' c (s.dev.descCheck x) a)))) ∧
    (∀ a, s.up → st = 2 → t.reread = false → t.desc = none → t.next = some a → s.dev.get K.DDR_STATE ∈ [3, 5] →
      s.dev.ddrBad a 64 = true →
      let u := ddrReadBy s.mem (s.dev.set (K.CUR_DESC c) a) 3 a 64 true (c + 1)
      exec (.descFetch c) s = .next (s.withBoth (tramError u.1 u.2 c 7 a))) ∧
    -- one element from DDR4 to DDR4 moves as it is, and nothing else of the memories changes
    (∀ x a host, s.up → st = 2 → t.desc = some (x, a) → t.moved = 0 → dSrcEp x = 0 → dDstEp x = 0 → dSwap x = 0 →
      (∀ i, i < 3 → dCount x i = 1) → s.dev.get K.DDR_STATE = 3 → s.dev.ddrBad (dSrc x) (dElem x) = false →
      ∃ (m : Memory) (d : Dev), exec (.descComplete c none host false) s = .next (s.withBoth (m, d)) ∧
        (∀ o, o < dElem x → Memory.look m (ddrAt (dDst x + o)) = some (Memory.rd s.mem s.dev.fresh (ddrAt (dSrc x + o)))) ∧
        (∀ b, (b < ddrAt (dDst x) ∨ ddrAt (dDst x) + dElem x ≤ b) → Memory.look m b = Memory.look s.mem b) ∧
        (dEnd x = true → t.restart = false → d.get (K.TRAM_STATE c) = 4) ∧
        (dEnd x = false → d.get (K.TRAM_STATE c) = 2 ∧ (d.tram c).next = some (dNext x) ∧ (d.tram c).desc = none)) ∧
    (s.up → (t.desc = none ∨ st ≠ 2) → ∀ eccAt host hostAbort, exec (.descComplete c eccAt host hostAbort) s = .next s)

/-- R264, R265: the states of the DDR4 controller. -/
def Obligations.DdrStates : Prop :=
  ∀ (r : Req) (s : State),
    let st := s.dev.get K.DDR_STATE
    (s.admits r K.DDR_CMD 1 1 →
      (st ≠ 1 → exec (.ddrInit r) s = .next (s.refusal r K.DDR_CMD .state)) ∧
      (st = 1 → s.dev.wndBusy = true → exec (.ddrInit r) s = .next (s.refusal r K.DDR_CMD .busy)) ∧
      (st = 1 → s.dev.wndBusy = false → s.dev.latchHeld 0x0740 K.WND_STATE = true →
        exec (.ddrInit r) s = .next (s.refusal r K.DDR_CMD .state)) ∧
      (st = 1 → s.dev.wndBusy = false → s.dev.latchHeld 0x0740 K.WND_STATE = false → exec (.ddrInit r) s = .next (s.answer r K.DDR_CMD ((s.dev.setDdrState 2).wndStart 4 0)))) ∧
    (s.admits r K.DDR_CMD 1 2 →
      ((st ≠ 3 ∨ s.dev.ddrUsers = true) → exec (.srEnter r) s = .next (s.refusal r K.DDR_CMD .state)) ∧
      (st = 3 → s.dev.ddrUsers = false → (∀ p ∈ s.dev.ddr, ∀ b ∈ p.2.wq, s.dev.rmwBad b = false) →
        ∃ d : Dev, exec (.srEnter r) s = .next (s.answer r K.DDR_CMD d) ∧ d.get K.DDR_STATE = 4 ∧
        d.get K.CAPACITY = 0 ∧ (∀ c, c < 8 → (d.ddrCh c).wq = []) ∧ (∀ c, (d.ddrCh c).rq = (s.dev.ddrCh c).rq ∧ (d.ddrCh c).ports = (s.dev.ddrCh c).ports))) ∧
    (s.admits r K.DDR_CMD 1 3 →
      (st ≠ 4 → exec (.srExit r) s = .next (s.refusal r K.DDR_CMD .state)) ∧
      (st = 4 → ∃ d : Dev, exec (.srExit r) s = .next (s.answer r K.DDR_CMD d) ∧ d.get K.DDR_STATE = 3 ∧
        (∀ c, c < 8 → d.get (K.REF_DEBT c) = 0))) ∧
    (s.admits r K.DDR_CMD 1 4 →
      ((st ≠ 3 ∨ s.dev.ddrUsers = true) → exec (.release r) s = .next (s.refusal r K.DDR_CMD .state)) ∧
      (st = 3 → s.dev.ddrUsers = false → ∃ (m : Memory) (d : Dev), exec (.release r) s = .next (s.answerBoth r K.DDR_CMD (m, d)) ∧ d.get K.DDR_STATE = 1 ∧
        d.ddr = [] ∧ (∀ a, a < 2 ^ 64 → Memory.look m (ddrAt a) = none) ∧
        (∀ a, a / 2 ^ 64 ≠ 1 → Memory.look m a = Memory.look s.mem a)))

/-- R267 to R272: admission, issue, refresh, scrubbing and ALERT_n of a DDR4 channel. -/
def Obligations.DdrChannelsServeBursts : Prop :=
  ∀ (c port ecc rank : Nat) (s : State), c < 8 → s.up →
    let x := s.dev.ddrCh c
    let fail := s.dev.get K.DDR_STATE = 5
    -- admission
    (s.dev.inService c = true → ¬fail →
      (∀ b, x.readPick s.dev.scrubHeld = some b → b.port = port → exec (.burstAdmit c port) s = .next (s.withDev (admitRead s.dev c b))) ∧
      (∀ b, x.writePick = some b → b.port = port → (∀ a, x.readPick s.dev.scrubHeld = some a → a.port ≠ port) →
        exec (.burstAdmit c port) s = .next (s.withBoth (admitWrite s.mem s.dev c b))) ∧
      ((∀ b ∈ x.ports, b.port ≠ port) → exec (.burstAdmit c port) s = .next s) ∧
      (64 ≤ x.rq.length → 64 ≤ x.wq.length → exec (.burstAdmit c port) s = .next s)) ∧
    -- issue: real-time reads first, then row hits; in drain mode writes go ahead
    (s.dev.inService c = true → ¬fail →
      (∀ b k, x.drain = false → s.dev.pickRead c = some (b, k) →
        exec (.burstIssue c ecc) s = .next (s.withBoth (issueRead s.mem s.dev c ecc b k))) ∧
      (∀ b, (x.drain = true ∨ s.dev.pickRead c = none) → s.dev.pickWrite c = some b →
        exec (.burstIssue c ecc) s = .next (s.withBoth (issueWrite s.mem s.dev c ecc b))) ∧
      (∀ b, x.rq.find? (·.port == 0) = some b → s.dev.rankOpen c b.addr = true → (s.dev.pickRead c).map (·.1) = some b)) ∧
    (¬(s.dev.inService c = true) → ¬fail → exec (.burstAdmit c port) s = .next s ∧ exec (.burstIssue c ecc) s = .next s) ∧
    (∀ b l, fail → x.rq = b :: l →
      (b.seen = false → exec (.burstIssue c ecc) s =
        .next (s.withBoth (readUncorr s.mem (s.dev.setDdrCh c { x with rq := l }) c b))) ∧
      (b.seen = true → exec (.burstIssue c ecc) s = .next (s.withDev (s.dev.setDdrCh c { x with rq := l })))) ∧
    (∀ b, fail → x.ports.find? (fun b => b.port == port && !b.write) = some b → b.seen = false →
      exec (.burstAdmit c port) s = .next (s.withBoth (readUncorr s.mem (s.dev.setDdrCh c { x with ports := x.ports.erase b }) c b))) ∧
    -- what an uncorrectable read does to its reader (R271)
    (∀ (m : Memory) (d : Dev) (b : Burst),
      (b.port = 0 → ∀ l ∈ b.lines, l ∈ (ddrReaderHit m d b).2.badLode) ∧
      (b.port = 3 → b.src ≠ 0 → d.get (K.TRAM_STATE (b.src - 1)) = 2 → ddrReaderHit m d b = tramError m d (b.src - 1) 7 b.addr) ∧
      (b.port = 4 → b.src ≠ 0 → d.get (K.GRAPH_STATE ((b.src - 1) / 1024)) = 2 →
        ddrReaderHit m d b = graphFault m d ((b.src - 1) / 1024) 15 ((b.src - 1) % 1024)) ∧
      (b.port = 5 → ddrReaderHit m d b = (m, d))) ∧
    -- a burst that waits becomes urgent
    (2 ≤ port → port ≤ 4 → exec (.portAgeExpiry c port) s =
      .next (s.withDev (s.dev.setDdrCh c { x with ports := markUrgent port x.ports }))) ∧
    ((port < 2 ∨ 4 < port) → exec (.portAgeExpiry c port) s = .next s) ∧
    -- refresh
    (rank < 2 → s.dev.inService c = true → rank < s.dev.ddrRanks → s.dev.get (K.REF_DEBT c) < 2 ^ 16 →
      (∃ d : Dev, exec (.trefiTick c rank) s = .next (s.withDev d) ∧ d.refDebt c rank = min 8 (s.dev.refDebt c rank + 1) ∧
        d.refDebt c (1 - rank) = s.dev.refDebt c (1 - rank)) ∧
      (8 ≤ s.dev.refDebt c rank → s.dev.get (K.REF_URGENT c) + 1 < 2 ^ 32 → ∃ d : Dev, exec (.refIssue c rank) s = .next (s.withDev d) ∧
        d.refDebt c rank = s.dev.refDebt c rank - 1 ∧ d.get (K.REF_URGENT c) = s.dev.get (K.REF_URGENT c) + 1) ∧
      (s.dev.refDebt c rank < 8 → -8 < s.dev.refDebt c rank → s.dev.rtPanic = false →
        (x.rq ++ x.wq).all (fun b => s.dev.rankOf b.addr != rank) = true → ∃ d : Dev, exec (.refIssue c rank) s = .next (s.withDev d) ∧
        d.refDebt c rank = s.dev.refDebt c rank - 1) ∧
      (s.dev.refDebt c rank < 8 → (s.dev.refDebt c rank ≤ -8 ∨ s.dev.rtPanic = true) → exec (.refIssue c rank) s = .next s)) ∧
    -- scrubbing
    (s.dev.inService c = true → s.dev.get K.SCRUB_INTERVAL ≠ 0 → s.dev.get K.SHED_LEVEL = 0 →
      let a := s.dev.byteAddr c (64 * x.scrub)
      let free := x.rq = [] ∧ x.ports.all (·.write) = true ∧ x.drain = false ∧ s.dev.rtPanic = false ∧ s.dev.rankOpen c a = true
      let queued := x.queuedBytes a = 2 ^ 64 - 1
      let idle := free ∧ ¬queued
      -- the write queue holds the whole burst: it serves the read, and the pass goes on (R268)
      (free → queued → exec (.scrubIntervalExpiry c ecc) s =
        .next (s.withDev (((s.dev.bump (K.RAW_FULL c)).portBytes c 5).scrubNext c))) ∧
      (idle → ecc = 0 → s.dev.burstBad a = false → exec (.scrubIntervalExpiry c ecc) s = .next (s.withDev (s.dev.scrubNext c))) ∧
      (idle → ecc = 1 → s.dev.burstBad a = false →
        exec (.scrubIntervalExpiry c ecc) s = .next (s.withBoth (ddrCorr s.mem (s.dev.scrubNext c) c a))) ∧
      (idle → (ecc = 2 ∨ s.dev.burstBad a = true) →
        exec (.scrubIntervalExpiry c ecc) s = .next (s.withBoth (ddrUncorr s.mem (s.dev.scrubNext c) c a))) ∧
      (¬free → (∀ b ∈ x.ports ++ x.rq, b.port ≠ 5) → exec (.scrubIntervalExpiry c ecc) s = .next (s.withDev (s.dev.setDdrCh c
        { x with ports := x.ports ++ [{ port := 5, addr := a, write := false, be := 2 ^ 64 - 1 }] })))) ∧
    ((s.dev.get K.SCRUB_INTERVAL = 0 ∨ 1 ≤ s.dev.get K.SHED_LEVEL) → exec (.scrubIntervalExpiry c ecc) s = .next s) ∧
    -- ALERT_n
    (∀ n, s.dev.inService c = true → s.dev.get K.DDR_FEATURES % 4 ≠ 0 → 1 ≤ n → n ≤ 3 →
      exec (.alertN c n true) s = .next (s.withDev ((s.dev.bumpBy (K.ALERT_RETRIES c) n).setPwr
        { (s.dev.bumpBy (K.ALERT_RETRIES c) n).pwr with alert := clrBit s.dev.pwr.alert c })) ∧
      exec (.alertN c n false) s = .next (s.withBoth (raiseFault s.mem ((s.dev.bumpBy (K.ALERT_RETRIES c) 3).setPwr
        { (s.dev.bumpBy (K.ALERT_RETRIES c) 3).pwr with alert := setBit s.dev.pwr.alert c }) 23 (0x0901 + c) 0 none [0x0900] [])))

/-- R213, R214, R225, R226, R237: the commands of clusters, graphs and result streams. -/
def Obligations.ClustersGraphsAndStreams : Prop :=
  (∀ (r : Req) (k : Nat) (s : State), k < 4 →
    let key := K.CLUSTER_CMD k
    let st := s.dev.get (K.CLUSTER_STATE k)
    (s.admits r key 1 1 →
      ((st ≠ 1 ∨ ∃ g ∈ s.dev.runGraphs, s.dev.maskHas g k = true) → exec (.clusterOffline r k) s = .next (s.refusal r key .state)) ∧
      (st = 1 → (∀ g ∈ s.dev.runGraphs, s.dev.maskHas g k = false) → ∃ d : Dev,
        exec (.clusterOffline r k) s = .next (s.answer r key d) ∧ d.get (K.CLUSTER_STATE k) = 3 ∧
          ∀ g, ∀ f ∈ (d.graph g).flows, ∀ c, f.home = some c → c / 4 ≠ k)) ∧
    (s.admits r key 1 2 →
      (s.dev.underTest [42 + k] none = true → exec (.clusterOnline r k) s = .next (s.refusal r key .busy)) ∧
      (s.dev.underTest [42 + k] none = false → (st ≠ 3 ∨ s.dev.marked [42 + k] none = true) →
        exec (.clusterOnline r k) s = .next (s.refusal r key .state)) ∧
      (s.dev.underTest [42 + k] none = false → st = 3 → s.dev.marked [42 + k] none = false →
        exec (.clusterOnline r k) s = .next (s.answer r key ((s.dev.set (K.CLUSTER_STATE k) 1).event 270 1 k))))) ∧
  (∀ (r : Req) (g : Nat) (s : State), g < 64 →
    let key := K.GRAPH_CMD g
    let st := s.dev.get (K.GRAPH_STATE g)
    (s.admits r key 1 1 →
      (∀ a, graphChecks s.mem s.dev g = .error a → exec (.graphStart r g) s = .next (s.refusal r key a)) ∧
      (graphChecks s.mem s.dev g = .ok () → ∃ d : Dev, exec (.graphStart r g) s = .next (s.answer r key d) ∧
        d.get (K.GRAPH_STATE g) = 2 ∧ d.get (K.INSTANCES g) = 0 ∧ d.get (K.OPS_DONE g) = 0 ∧ d.get (K.GRAPH_FAULT g) = 0 ∧
        d.graph g = { nodes := startNodes s.mem s.dev g, cmem := graphField s.mem s.dev g 384 32 })) ∧
    (s.admits r key 1 2 →
      (st ∉ [2, 4] → exec (.graphStop r g) s = .next (s.refusal r key .state)) ∧
      (st ∈ [2, 4] → (∃ i, i < 4 ∧ bits (s.dev.get (K.IN_CFG g i)) 28 4 = 2 ∧ s.dev.qLogged (s.dev.get (K.IN_CFG g i) % 256) = true) →
        exec (.graphStop r g) s = .next (s.refusal r key .state)) ∧
      (st ∈ [2, 4] → (∀ i, i < 4 → bits (s.dev.get (K.IN_CFG g i)) 28 4 ≠ 2 ∨ s.dev.qLogged (s.dev.get (K.IN_CFG g i) % 256) = false) →
        ∃ d : Dev, exec (.graphStop r g) s = .next (s.answer r key d) ∧ d.get (K.GRAPH_STATE g) = 0 ∧ d.graph g = {} ∧
          (∀ o ∈ d.ovm.ready, o.graph ≠ g) ∧ (∀ p ∈ d.ovm.running, p.2.graph ≠ g) ∧
          (∀ k, k ≠ K.GRAPH_STATE g → d.get k = s.dev.get k))) ∧
    (s.admits r key 1 3 →
      ((st ≠ 2 ∨ (s.dev.graph g).drain = true) → exec (.graphDrain r g) s = .next (s.refusal r key .state)) ∧
      (st = 2 → (s.dev.graph g).drain = false → (s.dev.graph g).insts ≠ [] → exec (.graphDrain r g) s =
        .next (s.answer r key (s.dev.setGraph g { s.dev.graph g with drain := true }))) ∧
      (st = 2 → (s.dev.graph g).drain = false → (s.dev.graph g).insts = [] → ∃ d : Dev,
        exec (.graphDrain r g) s = .next (s.answer r key d) ∧ d.get (K.GRAPH_STATE g) = 4 ∧ (d.graph g).flows = [] ∧
          (d.graph g).insts = [] ∧ bit (d.get (K.EVT_STATUS 4)) 12 = true))) ∧
  (∀ (r : Req) (x : Nat) (s : State), x < 32 →
    let key := K.STREAM_CMD x
    let st := s.dev.get (K.STREAM_STATE x)
    let q := s.dev.get (K.STREAM_QUEUE x)
    let taken := s.dev.qSump q || s.dev.qGraphIn q || s.dev.qStream q
    (s.admits r key 1 1 →
      (st ≠ 0 → exec (.streamBind r x) s = .next (s.refusal r key .state)) ∧
      (st = 0 → 256 ≤ q → exec (.streamBind r x) s = .next (s.refusal r key .range)) ∧
      (st = 0 → q < 256 → taken = true → exec (.streamBind r x) s = .next (s.refusal r key .busy)) ∧
      (st = 0 → q < 256 → taken = false → exec (.streamBind r x) s =
        .next (s.answer r key ((s.dev.set (K.STREAM_ITEMS x) 0).set (K.STREAM_STATE x) 1)))) ∧
    (s.admits r key 1 2 →
      (st ≠ 1 → exec (.streamUnbind r x) s = .next (s.refusal r key .state)) ∧
      (st = 1 → exec (.streamUnbind r x) s = .next (s.answer r key (s.dev.set (K.STREAM_STATE x) 0)))))

/-- R217, R218, R227 to R235: records become instances, operations are dispatched and complete, items leave in order. -/
def Obligations.GraphWorkFlows : Prop :=
  (∀ (g i : Nat) (s : State), g < 64 → i < 4 → s.up →
    let cfg := s.dev.get (K.IN_CFG g i)
    let q := cfg % 256
    let gr := s.dev.graph g
    let raw := wordsRaw ((s.dev.tarn q).words.take 4)
    (bits cfg 28 4 ∉ [1, 2, 3] → exec (.inputRecord g i) s = .next s) ∧
    (bits cfg 28 4 = 1 → (s.dev.get (K.GRAPH_STATE g) ≠ 2 ∨ i ∉ usedInputs gr.nodes ∨ firstPacket (s.dev.tarn q).held = none ∨ gr.drain = true) →
      exec (.inputRecord g i) s = .next s) ∧
    (∀ p, bits cfg 28 4 = 1 → s.dev.get (K.GRAPH_STATE g) = 2 → i ∈ usedInputs gr.nodes → firstPacket (s.dev.tarn q).held = some p →
      gr.drain = false → s.dev.classFree g = true → gr.flows.length < s.dev.get (K.FLOW_QUOTA g) →
      ∃ d : Dev, exec (.inputRecord g i) s = .next (s.withDev d) ∧ (s.dev.quiet q → (d.tarn q).words = (s.dev.tarn q).words.drop p.length) ∧
        (d.graph g).insts.length = gr.insts.length + 1 ∧ (d.graph g).nextI = gr.nextI + 1) ∧
    (∀ p, bits cfg 28 4 = 1 → s.dev.get (K.GRAPH_STATE g) = 2 → i ∈ usedInputs gr.nodes → firstPacket (s.dev.tarn q).held = some p →
      gr.drain = false → s.dev.classFree g = false →
      ∃ d : Dev, exec (.inputRecord g i) s = .next (s.withDev d) ∧ (d.graph g).insts = gr.insts ∧ i ∈ (d.graph g).waits) ∧
    (∀ p, bits cfg 28 4 = 1 → bit cfg 27 = false → s.dev.get (K.GRAPH_STATE g) = 2 → i ∈ usedInputs gr.nodes →
      firstPacket (s.dev.tarn q).held = some p → gr.drain = false → s.dev.classFree g = true →
      s.dev.get (K.FLOW_QUOTA g) ≤ gr.flows.length → (∀ f ∈ gr.flows, ¬(f.input = i ∧ f.key = 0)) →
      s.dev.get (K.FLOWS_REFUSED g) + 1 < 2 ^ 32 →
      ∃ d : Dev, exec (.inputRecord g i) s = .next (s.withDev d) ∧ (s.dev.quiet q → (d.tarn q).words = (s.dev.tarn q).words.drop p.length) ∧
        (d.graph g).insts = gr.insts ∧ (d.graph g).flows = gr.flows ∧
        d.get (K.FLOWS_REFUSED g) = s.dev.get (K.FLOWS_REFUSED g) + 1) ∧
    (bits cfg 28 4 = 2 → s.dev.get (K.GRAPH_STATE g) = 2 → i ∈ usedInputs gr.nodes → 4 ≤ (s.dev.tarn q).count → bits raw 129 3 ≠ 3 →
      (∀ x ∈ gr.insts, ¬(x.input = i ∧ x.key = bits raw 72 7 ∧ x.ended = false)) → (i, bits raw 72 7) ∉ gr.refused →
      exec (.inputRecord g i) s = .next (s.withDev ((s.dev.qTake q 4).bump (K.ORPHAN_RECORDS g))))) ∧
  (∀ (g id : Nat) (s : State), g < 64 → s.up →
    (∀ x, (s.dev.graph g).insts.find? (fun x => x.id == id) = some x → s.dev.get (K.GRAPH_STATE g) = 2 → x.openP ≠ [] →
      exec (.parcelWaitExpiry g id) s = .next (s.withDev (s.dev.closeParcel g x false))) ∧
    ((s.dev.graph g).insts.find? (fun x => x.id == id) = none → exec (.parcelWaitExpiry g id) s = .next s)) ∧
  (∀ (c : Nat) (s : State), c < 16 → s.up →
    ((Table.find s.dev.ovm.running c ≠ none ∨ s.dev.get (K.CLUSTER_STATE (c / 4)) ≠ 1 ∨ s.dev.get K.OVM_STATE = 3) →
      exec (.operationDispatch c) s = .next s) ∧
    (∀ o stolen, Table.find s.dev.ovm.running c = none → s.dev.get (K.CLUSTER_STATE (c / 4)) = 1 → s.dev.get K.OVM_STATE ≠ 3 →
      s.dev.pickOp c = some (o, stolen) → ∃ d : Dev, exec (.operationDispatch c) s = .next (s.withDev d) ∧
        Table.find d.ovm.running c =
          some { o with on := c, resv := if s.dev.isHead o.graph o.inst = true then 0 else 262144 } ∧
        d.ovm.ready = s.dev.ovm.ready.filter (fun x => x.id != o.id)) ∧
    (∀ ecc trap kernel, Table.find s.dev.ovm.running c = none → exec (.operationComplete c ecc trap kernel) s = .next s ∧
      exec (.opTimeout c) s = .next s) ∧
    (∀ o, Table.find s.dev.ovm.running c = some o → o.graph < 64 →
      (o.result = none → exec (.opTimeout c) s = .next (s.withBoth (graphFault s.mem s.dev o.graph 14 o.node))) ∧
      (o.result ≠ none → exec (.opTimeout c) s = .next s) ∧
      (∀ trap kernel, exec (.operationComplete c 2 trap kernel) s = .next (s.withBoth (cmemEcc s.mem s.dev (c / 4) o.node))) ∧
      (∀ x node kernel, o.result = none → (s.dev.graph o.graph).insts.find? (fun x => x.id == o.inst) = some x →
        (s.dev.graph o.graph).nodes[o.node]? = some node → node.op = 7 → node.out < 8 → s.dev.isHead o.graph x.id = true →
        ∃ (d : Dev) (w : OutItem), exec (.operationComplete c 0 false kernel) s = .next (s.withDev d) ∧
          (d.graph o.graph).outq = (s.dev.graph o.graph).outq ++ [w] ∧ w.out = node.out ∧ w.by_ = some c ∧ w.words.length = 5 ∧
          Table.find d.ovm.running c ≠ none) ∧
      (∀ x node kernel, o.result = none → (s.dev.graph o.graph).insts.find? (fun x => x.id == o.inst) = some x →
        (s.dev.graph o.graph).nodes[o.node]? = some node → node.op ∈ [3, 4, 5, 6, 7] → 8 ≤ node.out →
        s.dev.get (K.OPS_DONE o.graph) + 1 < 2 ^ 32 →
        ∃ d : Dev, exec (.operationComplete c 0 false kernel) s = .next (s.withDev d) ∧ Table.find d.ovm.running c = none ∧
          d.get (K.OPS_DONE o.graph) = s.dev.get (K.OPS_DONE o.graph) + 1))) ∧
  (∀ (g : Nat) (s : State), g < 64 → s.up →
    let outq := (s.dev.graph g).outq
    (∀ k i, pickItem s.dev g [] [] 0 outq = some k → outq[k]? = some i →
      let q := s.dev.get (K.OUT_Q g i.out)
      let n := min i.words.length (s.dev.qSpace q)
      let rest := if n < i.words.length then outq.set k { i with words := i.words.drop n, begun := true, head := i.head - n } else outq.eraseIdx k
      let d := (s.dev.setGraph g { s.dev.graph g with outq := rest }).qPut q
        ((i.words.zipIdx.map (fun p => (p.1, p.2 + 1 == i.words.length))).take n)
      (i.by_ = none → exec (.itemWrite g) s = .next (s.withDev d)) ∧
      (∀ c, i.by_ = some c → (∃ j ∈ rest, j.by_ = some c) → exec (.itemWrite g) s = .next (s.withDev d)) ∧
      (∀ c, i.by_ = some c → (∀ j ∈ rest, j.by_ ≠ some c) → exec (.itemWrite g) s = .next (s.withDev (d.opFinish c)))) ∧
    (pickItem s.dev g [] [] 0 outq = none → exec (.itemWrite g) s = .next s)) ∧
  (∀ (id : Nat) (s : State), s.up →
    ((∀ o ∈ s.dev.ovm.ready, ¬(o.id = id ∧ o.urgent = false)) → exec (.agePromotion id) s = .next s) ∧
    ((∃ o ∈ s.dev.ovm.ready, o.id = id ∧ o.urgent = false) → s.dev.get K.AGED_OPS + 1 < 2 ^ 32 →
      ∃ d : Dev, exec (.agePromotion id) s = .next (s.withDev d) ∧ (∀ o ∈ d.ovm.ready, o.id = id → o.urgent = true) ∧
        d.ovm.ready.length = s.dev.ovm.ready.length ∧ d.get K.AGED_OPS = s.dev.get K.AGED_OPS + 1))

/-- R305 to R311, R318: a port comes up by its stages: DETECT, TRAIN, LOCK, EXCHANGE, ACTIVE, with BACKOFF between tries. -/
def Obligations.PortsComeUp : Prop :=
  ∀ (r : Req) (p : Nat) (s : State), p < 6 →
    let key := portKey p 1
    let st := s.dev.portState p
    let x := s.dev.port p
    -- the commands
    (s.admits r key 1 1 →
      (st ≠ 0 → exec (.portEnable r p) s = .next (s.refusal r key .state)) ∧
      (st = 0 → s.dev.domOn (portDomain p) = false → exec (.portEnable r p) s = .next (s.refusal r key .state)) ∧
      (st = 0 → s.dev.domOn (portDomain p) = true → ∃ d : Dev, exec (.portEnable r p) s = .next (s.answer r key d) ∧
        d.portState p = 1 ∧ d.port p = {} ∧ d.get (portKey p 0x0B) = 1 ∧
        (∀ l ∈ laneList p, d.get (K.LANE_STATE l) = if s.dev.get (K.LANE_STATE l) = 7 then 7 else 1))) ∧
    (s.admits r key 1 2 →
      (r.port = p → exec (.portDisable r p) s = .next (s.refusal r key .state)) ∧
      (2 ≤ p → s.dev.syncStopped = false → exec (.portDisable r p) s = .next (s.refusal r key .state)) ∧
      (r.port ≠ p → p < 2 → ∃ d : Dev, exec (.portDisable r p) s = .next (s.answer r key d) ∧ d.portState p = 0 ∧ d.port p = {})) ∧
    (s.admits r key 1 3 →
      (st ≠ 5 → exec (.portRetrain r p) s = .next (s.refusal r key .state)) ∧
      (st = 5 → ∃ d : Dev, exec (.portRetrain r p) s = .next (s.answer r key d) ∧ d.portState p = 2 ∧ (d.port p).replay = x.replay ∧
        (d.port p).retrain = true ∧ d.get (portKey p 0x07) = s.dev.get (portKey p 0x07))) ∧
    (s.up →
      -- receivers found
      (∀ lanes,
        let mask := s.dev.shedMask p (maskOf ((setBits (laneCount p) lanes).filter (fun j =>
          s.dev.get (K.LANE_STATE (laneBase p + j)) == 1 || (s.dev.get (K.LANE_STATE (laneBase p + j)) == 0 && st == 1))))
        (mask = 0 → exec (.receiverDetect p lanes) s = .next s) ∧
        (mask ≠ 0 → st = 1 → ∃ d : Dev, exec (.receiverDetect p lanes) s = .next (s.withDev d) ∧ d.portState p = 2 ∧
          (d.port p).detected = mask ∧ (d.port p).rate = s.dev.get (portKey p 5) ∧
          (∀ j, j < laneCount p → bit mask j = false → s.dev.get (K.LANE_STATE (laneBase p + j)) = 0 →
            d.get (K.LANE_STATE (laneBase p + j)) = 1)) ∧
        (mask ≠ 0 → st ∉ [1, 5] → exec (.receiverDetect p lanes) s = .next s)) ∧
      -- a stage that takes too long
      ((st ∈ [1, 2, 4] ∨ (st = 3 ∧ widthMask p x.locked = 0)) → ∃ d : Dev, exec (.stageTimeout p) s = .next (s.withDev d) ∧
        d.portState p = 6 ∧ d.get (portKey p 0x10) = 256 * st + 1 ∧ d.port p = {}) ∧
      (st = 3 → widthMask p x.locked ≠ 0 → exec (.stageTimeout p) s = .next (s.withDev (s.dev.lockDone p))) ∧
      (st ∈ [0, 6] → exec (.stageTimeout p) s = .next s) ∧
      (st = 5 → ∃ d : Dev, exec (.stageTimeout p) s = .next (s.withDev d) ∧ d.objs = s.dev.objs ∧
        ∀ l ∈ laneList p, s.dev.get (K.LANE_STATE l) = 5 → (Table.at d.lanes {} l).wait = true) ∧
      -- the next try, with twice the wait
      (st ∉ [5, 6] → exec (.backoffExpiry p) s = .next s) ∧
      (st = 5 → ∃ d : Dev, exec (.backoffExpiry p) s = .next (s.withDev d) ∧
        ∀ l ∈ laneList p, s.dev.get (K.LANE_STATE l) = 5 → (Table.at s.dev.lanes {} l).wait = true →
          (Table.at d.lanes {} l).wait = false ∧ (Table.at d.lanes {} l).next = min 1000 (2 * (Table.at s.dev.lanes {} l).next) ∧
          d.get (K.TX_TAPS l) = fld 10 5 8 + fld 4 6 55) ∧
      (st = 6 → s.dev.get K.SHED_LEVEL < 4 → ∃ d : Dev, exec (.backoffExpiry p) s = .next (s.withDev d) ∧ d.portState p = 1 ∧
        d.get (portKey p 0x0B) = min 1000 (2 * s.dev.get (portKey p 0x0B))) ∧
      -- the versions settle
      (∀ c : Caps, (st ≠ 4 → exec (.capabilitiesFrame p c) s = .next s) ∧
        (st = 4 →
          (bit c.majors 1 = false → bit c.majors 2 = false → ∃ d : Dev, exec (.capabilitiesFrame p c) s = .next (s.withDev d) ∧
            d.portState p = 6 ∧ d.get (portKey p 0x10) = 256 * 4 + 2) ∧
          (bit c.majors 2 = true → ((p = 0 ∧ c.role ∈ [1, 3]) ∨ (p = 1 ∧ c.role = 2)) →
            ∃ d : Dev, exec (.capabilitiesFrame p c) s = .next (s.withDev d) ∧ d.portState p = 5 ∧
              (d.port p).rate = x.rate ∧ d.get (portKey p 0x07) = 512 + min c.minor2 3) ∧
          (bit c.majors 2 = true → 2 ≤ p → c.role = 4 → c.round / 2 ≤ 112000000 →
            ∃ d : Dev, exec (.capabilitiesFrame p c) s = .next (s.withDev d) ∧ d.portState p = 5 ∧
              d.get (portKey p 0x20) = c.round / 2 ∧ d.get (portKey p 0x21) = 128000000 - c.round / 2))))

/-- R306, R308, R318: training words, adapted receivers and lanes that lock. -/
def Obligations.LanesTrainAndLock : Prop :=
  ∀ (lane word : Nat) (s : State), lane < 16 → s.up →
    let p := portOfLane lane
    let j := lane - laneBase p
    let x := s.dev.port p
    let t := s.dev.get (K.TX_TAPS lane)
    (s.dev.laneTrains lane = false → exec (.trainingFrame lane word) s = .next s) ∧
    -- a request to raise the pre-cursor tap moves one unit from the main tap, within the limits
    (s.dev.laneTrains lane = true → bits word 33 3 = 0 → bits word 38 2 = 1 → bits word 36 2 = 0 →
      ∃ d : Dev, exec (.trainingFrame lane word) s = .next (s.withDev d) ∧ bits (d.get (K.TX_TAPS lane)) 10 5 = bits t 10 5 ∧
        (t % 16 < 15 → 24 < bits t 4 6 → d.get (K.TX_TAPS lane) % 16 = t % 16 + 1 ∧ bits (d.get (K.TX_TAPS lane)) 4 6 = bits t 4 6 - 1 ∧
          (Table.at d.lanes {} lane).sts = 1) ∧
        ((t % 16 = 15 ∨ bits t 4 6 ≤ 24) → d.get (K.TX_TAPS lane) % 16 = t % 16 ∧ bits (d.get (K.TX_TAPS lane)) 4 6 = bits t 4 6 ∧
          (Table.at d.lanes {} lane).sts = 3)) ∧
    (s.dev.laneTrains lane = true → bits word 33 3 = 3 →
      ∃ d : Dev, exec (.trainingFrame lane word) s = .next (s.withDev d) ∧
        d.get (K.TX_TAPS lane) = fld 10 5 12 + fld 4 6 47 + fld 0 4 4) ∧
    -- a pass asks the partner for changes, or reports an adapted receiver (log entry 21)
    (∀ pre post preset, s.dev.laneTrains lane = false → exec (.laneAdapt lane pre post preset) s = .next s) ∧
    (∀ pre post preset, s.dev.laneTrains lane = true → s.dev.get K.WND_STATE = 2 → exec (.laneAdapt lane pre post preset) s =
      .next (s.withDev { s.dev with wnd := { s.dev.wnd with adapts := s.dev.wnd.adapts ++ [(lane, pre, post, preset)] } })) ∧
    (∀ pre post preset, s.dev.laneTrains lane = true → s.dev.get K.WND_STATE ≠ 2 → pre < 4 → post < 4 → preset < 8 →
      ∃ (d : Dev) (w : Nat), exec (.laneAdapt lane pre post preset) s = .next (s.withDev d) ∧
        d.egress = s.dev.egress ++ [.train lane w] ∧ bits w 38 2 = pre ∧ bits w 36 2 = post ∧ bits w 33 3 = preset ∧
        (bit w 43 = true ↔ pre = 0 ∧ post = 0 ∧ preset = 0) ∧ (bit (d.port p).adapted j = true ↔ pre = 0 ∧ post = 0 ∧ preset = 0)) ∧
    -- locks
    (s.dev.portState p = 3 → s.dev.get (K.LANE_STATE lane) = 3 → x.detected &&& setBit x.locked j = x.detected →
      widthMask p (setBit x.locked j) ≠ 0 → ∃ d : Dev, exec (.laneLock lane) s = .next (s.withDev d) ∧
        d.get (portKey p 0x04) = widthMask p (setBit x.locked j) ∧
        (x.retrain = false → d.portState p = 4) ∧ (x.retrain = true → d.portState p = 5)) ∧
    (s.dev.portState p = 3 → s.dev.get (K.LANE_STATE lane) = 3 → x.detected &&& setBit x.locked j ≠ x.detected →
      exec (.laneLock lane) s = .next (s.withDev ((s.dev.laneLinked lane).setPort p { x with locked := setBit x.locked j }))) ∧
    (s.dev.portState p ∈ [4, 5] → s.dev.get (K.LANE_STATE lane) = 5 → (Table.at s.dev.lanes {} lane).wait = true →
      exec (.laneLock lane) s = .next s) ∧
    (s.dev.portState p ∈ [4, 5] → s.dev.get (K.LANE_STATE lane) = 5 → (Table.at s.dev.lanes {} lane).wait = false →
      ∃ d : Dev, exec (.laneLock lane) s = .next (s.withDev d) ∧
      d.get (K.LANE_STATE lane) = 6 ∧ bit (d.port p).locked j = true) ∧
    (s.dev.portState p ∉ [3, 4, 5] → exec (.laneLock lane) s = .next s)

/-- R306, R317, R318: a Gwynter port narrows to the lanes locked at both ends, and widens again on a rejoin. -/
def Obligations.WidthFollowsTheLanes : Prop :=
  (∀ (lane : Nat) (s : State), lane < 8 → s.up →
    let p := portOfLane lane
    let j := lane - laneBase p
    let x := s.dev.port p
    let left := clrBit x.locked j
    let e := ((s.dev.bump (K.LOCK_LOSSES lane)).event (236 + lane) 1 0).setPort p
      { x with locked := left, adapted := clrBit x.adapted j, partner := clrBit x.partner j, rejoin := none }
    (bit x.locked j = false → exec (.blockLockLost lane) s = .next s) ∧
    (bit x.locked j = true → s.dev.portState p = 5 → s.dev.get (K.LANE_STATE lane) = 6 →
      exec (.blockLockLost lane) s = .next (s.withDev (e.toRetrain lane))) ∧
    (bit x.locked j = true → s.dev.portState p ≠ 5 → s.dev.get (K.LANE_STATE lane) ≠ 6 →
      exec (.blockLockLost lane) s = .next (s.withDev e)) ∧
    (bit x.locked j = true → s.dev.portState p = 5 → s.dev.get (K.LANE_STATE lane) ≠ 6 → widthMask p left = 0 →
      exec (.blockLockLost lane) s = .next (s.withBoth (portLost s.mem e p))) ∧
    (bit x.locked j = true → s.dev.portState p = 5 → s.dev.get (K.LANE_STATE lane) ≠ 6 → widthMask p left ≠ 0 →
      ∃ d : Dev, exec (.blockLockLost lane) s = .next (s.withDev d) ∧ (d.port p).narrow = some left ∧
        d.egress = s.dev.egress ++ [.ctrl p 4 left false])) ∧
  (∀ (p mask : Nat) (s : State), p < 2 → s.up → s.dev.portState p = 5 →
    let x := s.dev.port p
    let up := s.dev.get (portKey p 0x04)
    let inter := mask &&& x.locked
    let e := (s.dev.bump (portKey p 0x12)).ctrl p 5 inter false
    (x.narrow = none → up &&& inter = up → exec (.widthReq p mask) s = .next (s.withDev e)) ∧
    ((x.narrow ≠ none ∨ up &&& inter ≠ up) → exec (.widthReq p mask) s = .next (s.withBoth (narrowEnd s.mem e p inter))) ∧
    (∀ own, x.narrow = some own →
      exec (.widthAck p mask) s = .next (s.withBoth (narrowEnd s.mem (s.dev.bump (portKey p 0x12)) p (mask &&& own &&& x.locked)))) ∧
    (x.narrow = none → exec (.widthAck p mask) s = .next (s.withDev (s.dev.bump (portKey p 0x12)))) ∧
    -- rejoin
    (x.narrow = none → mask ≠ 0 → widthMask p (mask &&& x.locked) = mask → s.dev.get (portKey p 0x0D) + 1 < 2 ^ 32 →
      ∃ d : Dev, exec (.rejoinReq p mask) s = .next (s.withDev d) ∧ d.egress = s.dev.egress ++ [.ctrl p 7 mask false] ∧
        d.get (portKey p 0x04) = mask ∧ d.get (portKey p 0x03) = popCount 4 mask ∧ (d.port p).rejoin = none) ∧
    ((x.narrow ≠ none ∨ mask = 0 ∨ widthMask p (mask &&& x.locked) ≠ mask) →
      exec (.rejoinReq p mask) s = .next (s.withDev (s.dev.bump (portKey p 0x12)))) ∧
    (x.rejoin = some mask → ∃ d : Dev, exec (.rejoinAck p mask) s = .next (s.withDev d) ∧ d.get (portKey p 0x04) = mask ∧
      d.get (portKey p 0x03) = popCount 4 mask ∧ (d.port p).rejoin = none) ∧
    (x.rejoin ≠ some mask → exec (.rejoinAck p mask) s = .next (s.withDev (s.dev.bump (portKey p 0x12))))) ∧
  (∀ (lane : Nat) (s : State), lane < 16 → s.up →
    let p := portOfLane lane
    let x := s.dev.port p
    let w := widthMask p x.locked
    ((s.dev.get (K.LANE_STATE lane) ≠ 6 ∨ 2 ≤ p) → exec (.stabilityHoldEnd lane) s = .next s) ∧
    (s.dev.get (K.LANE_STATE lane) = 6 → p < 2 → s.dev.portState p = 5 → x.narrow = none → x.rejoin = none →
      s.dev.get (portKey p 0x03) < popCount 4 w →
      exec (.stabilityHoldEnd lane) s = .next (s.withDev ((s.dev.setPort p { x with rejoin := some w }).ctrl p 6 w false))))

/-- R332 to R334: loopback with its PRBS counters, bit errors sent on purpose, and eye scans. -/
def Obligations.LoopbackAndEyeScans : Prop :=
  ∀ (r : Req) (lane : Nat) (s : State), lane < 16 →
    let key := K.LANE_CMD lane
    let p := portOfLane lane
    let st := s.dev.get (K.LANE_STATE lane)
    let eye := s.dev.get (K.EYE_STATE lane)
    (s.admits r key 1 1 →
      (s.dev.domOn (portDomain p) = false → exec (.loopEnter r lane) s = .next (s.refusal r key .state)) ∧
      (s.dev.domOn (portDomain p) = true → s.dev.portState p = 0 → ∃ d : Dev,
        exec (.loopEnter r lane) s = .next (s.answer r key d) ∧ d.get (K.LANE_STATE lane) = 7 ∧ d.get (K.PRBS_LOCKED lane) = 0 ∧
          d.get (K.PRBS_BITS lane) = 0 ∧ d.get (K.PRBS_ERRORS lane) = 0 ∧ d.get (K.INJECTED lane) = 0) ∧
      (s.dev.domOn (portDomain p) = true → s.dev.portState p = 5 → p < 2 → st = 6 → ∃ d : Dev,
        exec (.loopEnter r lane) s = .next (s.answer r key d) ∧ d.get (K.LANE_STATE lane) = 7) ∧
      (s.dev.domOn (portDomain p) = true → s.dev.portState p ∉ [0, 5] → exec (.loopEnter r lane) s = .next (s.refusal r key .state))) ∧
    (s.admits r key 1 2 →
      (st ≠ 7 → exec (.loopExit r lane) s = .next (s.refusal r key .state)) ∧
      (st = 7 → ∃ d : Dev, exec (.loopExit r lane) s = .next (s.answer r key d) ∧
        d.get (K.LANE_STATE lane) = (if s.dev.portState p = 0 then 0 else 1) ∧ d.get (K.PRBS_LOCKED lane) = 0)) ∧
    (s.admits r key 1 5 →
      (st ≠ 7 → exec (.inject r lane) s = .next (s.refusal r key .state)) ∧
      (st = 7 → exec (.inject r lane) s = .next (s.answer r key (s.dev.injectBit lane)))) ∧
    (s.admits r key 1 3 →
      (st ∉ [4, 6] → exec (.eyeStart r lane) s = .next (s.refusal r key .state)) ∧
      (st ∈ [4, 6] → eye ∈ [2, 3] → exec (.eyeStart r lane) s = .next (s.refusal r key .state)) ∧
      (st ∈ [4, 6] → eye ∉ [2, 3] → exec (.eyeStart r lane) s = .next (s.answer r key
        (({ s.dev with eyes := Table.put s.dev.eyes lane {} } : Dev).setAll [(K.EYE_STATE lane, 2), (K.EYE_BITS lane, 0), (K.EYE_ERRS lane, 0)])))) ∧
    (s.admits r key 1 4 →
      (eye ∉ [2, 3] → exec (.eyeAbort r lane) s = .next (s.refusal r key .state)) ∧
      (eye ∈ [2, 3] → exec (.eyeAbort r lane) s = .next (s.answer r key ((s.dev.set (K.EYE_STATE lane) 5).event (236 + lane) 2 0)))) ∧
    (s.up →
      (∀ on, (st = 7 → exec (.prbsCheckerLock lane on) s = .next (s.withDev ((s.dev.laneMeasure lane).set (K.PRBS_LOCKED lane) (b2n on)))) ∧
        (st ≠ 7 → exec (.prbsCheckerLock lane on) s = .next s)) ∧
      (st = 7 → bit (s.dev.get (K.LOOP_CFG lane)) 0 = true → s.dev.get (K.PRBS_LOCKED lane) = 1 →
        exec (.periodicInject lane) s =
          .next (s.withDev ((s.dev.bumpBy (K.PRBS_BITS lane) (s.dev.get (K.INJ_PERIOD lane))).injectBit lane))) ∧
      (st = 7 → bit (s.dev.get (K.LOOP_CFG lane)) 0 = true → s.dev.get (K.PRBS_LOCKED lane) ≠ 1 →
        exec (.periodicInject lane) s = .next (s.withDev (s.dev.injectBit lane))) ∧
      ((st ≠ 7 ∨ bit (s.dev.get (K.LOOP_CFG lane)) 0 = false) → exec (.periodicInject lane) s = .next s) ∧
      (∀ mism, (eye ≠ 2 → exec (.eyePointDone lane mism) s = .next s) ∧
        (eye = 2 → bits (s.dev.get (K.EYE_CFG lane)) 16 2 = 0 →
          s.dev.get (K.EYE_BITS lane) + 1000000 * s.dev.get (K.EYE_DWELL lane) < 2 ^ 64 → s.dev.get (K.EYE_ERRS lane) + mism < 2 ^ 32 →
          ∃ d : Dev, exec (.eyePointDone lane mism) s = .next (s.withDev d) ∧ d.get (K.EYE_STATE lane) = 4 ∧
            d.get (K.EYE_BITS lane) = s.dev.get (K.EYE_BITS lane) + 1000000 * s.dev.get (K.EYE_DWELL lane) ∧
            d.get (K.EYE_ERRS lane) = s.dev.get (K.EYE_ERRS lane) + mism) ∧
        (eye = 2 → bits (s.dev.get (K.EYE_CFG lane)) 16 2 = 1 → Table.at s.dev.eyes {} lane = {} → s.dev.get (K.EYE_THRESH lane) < mism →
          ∃ d : Dev, exec (.eyePointDone lane mism) s = .next (s.withDev d) ∧ d.get (K.EYE_STATE lane) = 4) ∧
        (eye = 2 → bits (s.dev.get (K.EYE_CFG lane)) 16 2 = 1 → Table.at s.dev.eyes {} lane = {} → mism ≤ s.dev.get (K.EYE_THRESH lane) →
          s.dev.get K.SHED_LEVEL = 0 → ∃ d : Dev, exec (.eyePointDone lane mism) s = .next (s.withDev d) ∧
            d.get (K.EYE_STATE lane) = 2 ∧ Table.at d.eyes {} lane = { neg := false, step := 1, lo := some 0, hi := some 0 })))

/-- A step with a command at the front of the queue is that command's effect on the state with the queue's rest. With none
waiting, which the spec does not speak of, the oldest request held back is served once its turn has come (R289, log entry 34),
and else one Wellhead clock passes (DESIGN CHOICE, log entry 3). -/
def Obligations.StepRunsTheFrontCommand : Prop :=
  (∀ (c : Instr) (rest : List Instr) (s : State), s.pending = c :: rest → step s = exec c { s with pending := rest }) ∧
  (∀ s : State, s.pending = [] → s.dev.takeHeld = none → step s = .next (s.withDev s.dev.tick)) ∧
  (∀ (s : State) (c : Instr) (d : Dev), s.pending = [] → s.dev.takeHeld = some (c, d) → step s = exec c (s.withDev d)) ∧
  Sys2Proof.core.step = step

/-- R336, R337, R339, R341, R345: clocks that pass while no command waits: TB1 counts every fourth, a disciplined base gains
2.5 ns times 1 + RATE × 2^-40, one with a step waiting takes it at this clock: an INIT value as it is, a step of the link
added (one Wellhead clock an idle step is the model's choice, log entry 3). -/
def Obligations.IdleStepsRunTheTimeBases : Prop :=
  ∀ s : State, s.pending = [] → s.up → s.dev.takeHeld = none →
    let u (v : Int) : Int := v * 2 ^ 41 / 1024000000
    let gain (b : Nat) : Nat := 5 * (2 ^ 40 + toSigned 64 (s.dev.get (K.RATE b))).toNat
    let fits (v : Int) : Prop := 0 ≤ v ∧ v < 2 ^ 48 * 1000000000 * 2 ^ 41
    ∃ t, step s = .next t ∧ t.fuses = s.fuses ∧ t.mem = s.mem ∧ t.dev.clk = s.dev.clk + 1 ∧
      ((∀ b ∈ [0, 2, 3], (s.dev.exchOf b).jump = none) → (s.dev.clk + 1) % 400 ≠ 0 →
        (s.dev.get K.WND_STATE = 2 ∨ (s.dev.wnd.therm = none ∧ s.dev.wnd.adapts = [])) → t.dev.objs = s.dev.objs) ∧
      (s.dev.pwr.refLost = false → s.dev.tb1Sub = 3 → s.dev.tb1 + 1 < 2 ^ 64 → t.dev.tb1 = s.dev.tb1 + 1) ∧
      (s.dev.tb1Sub ≠ 3 ∨ s.dev.pwr.refLost = true → t.dev.tb1 = s.dev.tb1) ∧
      (∀ b ∈ [0, 2, 3],
        ((s.dev.exchOf b).jump = none → Table.at t.dev.tbs 0 b = Table.at s.dev.tbs 0 b + gain b) ∧
        (s.dev.get (K.RATE b) = 0 → gain b = 5 * 2 ^ 40) ∧
        (∀ v, (s.dev.exchOf b).jump = some (true, v) → fits (u v) → ((Table.at t.dev.tbs 0 b : Nat) : Int) = u v) ∧
        (∀ v, (s.dev.exchOf b).jump = some (false, v) → fits (((Table.at s.dev.tbs 0 b : Nat) : Int) + u v) →
          ((Table.at t.dev.tbs 0 b : Nat) : Int) = ((Table.at s.dev.tbs 0 b : Nat) : Int) + u v + gain b))

/-- R6 and log entries 1 and 5: the state after reset: every object at its default, nothing in flight, nothing waiting. -/
def Obligations.ResetIsTheDefault : Prop :=
  State.reset.Inv ∧ State.reset.up ∧ State.reset.pending = [] ∧ (∀ key, State.reset.dev.get key = dfltOf key) ∧
  (∀ a, Memory.look State.reset.mem a = unwritten a) ∧ (∀ n, State.reset.dev.seqLive n = false ∨ 64 ≤ n) ∧
  State.reset.dev.get K.CHIP_STATE = 2 ∧ State.reset.dev.get K.NODE_ID = 0

/-- Every step keeps the memories in their canonical form, whatever command it runs and in whatever state. -/
def Obligations.EveryStepKeepsTheMemoryForm : Prop :=
  ∀ s t : State, s.Inv → step s = .next t → t.Inv

/-- Every command completes and leaves the queue of waiting commands alone; so a queue of n commands is empty after n steps of
the machine. -/
def Obligations.EveryCommandCompletes : Prop :=
  (∀ (c : Instr) (s : State), ∃ t, exec c s = .next t ∧ t.pending = s.pending) ∧
  (∀ s : State, ∃ t : State, Host.Core.run Sys2Proof.core s.pending.length s = .next t ∧ t.pending = [])

/-- R276, R278: a command of software is the DICT_WRITE of its command object: both have the same outcome from every state. -/
def Obligations.CommandsAreDictionaryWrites : Prop :=
  ∀ (c : Instr) (r : Req) (key len v : Nat) (s : State), asWrite c = some (r, key, len, v) →
    exec c s = exec (.dictWrite r (key / 256) (key % 256) len v) s
end

