-- ==== Sys2Proof/Laws/Memory.lean ====
section
/-! SUPPORT. The byte store: a byte written is read back, every other byte is as it was, and every operation keeps the one
canonical form. -/

namespace Sys2Proof.Machine

/-- Every listed address of a store lies above `lo`, and no entry is one an unlisted address would read as. -/
def Memory.above : Nat → Memory → Prop
  | _, [] => True
  | lo, (a, v) :: m => lo < a ∧ unwritten a ≠ some v ∧ Memory.above a m

theorem Memory.above_mono {lo lo' : Nat} (h : lo' ≤ lo) : ∀ {m : Memory}, Memory.above lo m → Memory.above lo' m
  | [], _ => trivial
  | (_, _) :: _, ⟨h1, h2, h3⟩ => ⟨by omega, h2, h3⟩

/-- Canonical form, said by the first entry and what stands above it. -/
theorem Memory.wf_cons (a : Nat) (v : Byte) (m : Memory) :
    Memory.wf ((a, v) :: m) = true ↔ unwritten a ≠ some v ∧ Memory.above a m := by
  induction m generalizing a v with
  | nil => simp [Memory.wf, Memory.above]
  | cons c m ih =>
    obtain ⟨b, w⟩ := c
    simp only [Memory.wf, Bool.and_eq_true, ih, Memory.above, bne_iff_ne, decide_eq_true_eq]
    tauto

theorem Memory.wf_of_above {lo : Nat} : ∀ {m : Memory}, Memory.above lo m → Memory.wf m = true
  | [], _ => rfl
  | (a, v) :: m, ⟨_, h2, h3⟩ => (Memory.wf_cons a v m).mpr ⟨h2, h3⟩

theorem Memory.put_above {lo a : Nat} (v : Byte) (h : lo < a) :
    ∀ {m : Memory}, Memory.above lo m → Memory.above lo (Memory.put m a v)
  | [], _ => by
    unfold Memory.put
    split
    · trivial
    · rename_i h1; exact ⟨h, h1, trivial⟩
  | (b, w) :: m, ⟨h1, h2, h3⟩ => by
    unfold Memory.put
    split
    · split
      · exact ⟨h1, h2, h3⟩
      · rename_i h4 h5; exact ⟨h, h5, h4, h2, h3⟩
    · split
      · rename_i h4 h5
        subst h5
        split
        · exact Memory.above_mono (by omega) h3
        · rename_i h6; exact ⟨h, h6, h3⟩
      · rename_i h4 h5; exact ⟨h1, h2, Memory.put_above v (by omega) h3⟩

/-- A write keeps the canonical form. -/
theorem Memory.wf_put (m : Memory) (a : Nat) (v : Byte) (h : Memory.wf m = true) : Memory.wf (Memory.put m a v) = true := by
  match m, h with
  | [], _ =>
    unfold Memory.put
    split
    · rfl
    · rename_i h1; exact (Memory.wf_cons a v []).mpr ⟨h1, trivial⟩
  | (b, w) :: m, h =>
    obtain ⟨h1, h2⟩ := (Memory.wf_cons b w m).mp h
    unfold Memory.put
    split
    · split
      · exact h
      · rename_i h3 h4; exact (Memory.wf_cons a v _).mpr ⟨h4, h3, h1, h2⟩
    · split
      · rename_i h3 h4
        subst h4
        split
        · exact Memory.wf_of_above h2
        · rename_i h5; exact (Memory.wf_cons a v m).mpr ⟨h5, h2⟩
      · exact (Memory.wf_cons b w _).mpr ⟨h1, Memory.put_above v (by omega) h2⟩

theorem Memory.filter_above (p : Host.Cell → Bool) : ∀ {lo : Nat} {m : Memory}, Memory.above lo m → Memory.above lo (m.filter p)
  | _, [], _ => trivial
  | lo, (a, v) :: m, ⟨h1, h2, h3⟩ => by
    rw [List.filter_cons]
    split
    · exact ⟨h1, h2, Memory.filter_above p h3⟩
    · exact Memory.above_mono (by omega) (Memory.filter_above p h3)

/-- Leaving entries out keeps the canonical form. -/
theorem Memory.wf_filter (p : Host.Cell → Bool) (m : Memory) (h : Memory.wf m = true) : Memory.wf (m.filter p) = true := by
  match m, h with
  | [], _ => rfl
  | (a, v) :: m, h =>
    obtain ⟨h1, h2⟩ := (Memory.wf_cons a v m).mp h
    rw [List.filter_cons]
    split
    · exact (Memory.wf_cons a v _).mpr ⟨h1, Memory.filter_above p h2⟩
    · exact Memory.wf_of_above (Memory.filter_above p h2)

/-- Making bytes as if never written keeps the canonical form. -/
theorem Memory.wf_drop (m : Memory) (lo n : Nat) (h : Memory.wf m = true) : Memory.wf (Memory.drop m lo n) = true :=
  Memory.wf_filter _ m h

/-- Writing consecutive bytes keeps the canonical form. -/
theorem Memory.wf_wrN (l : List Byte) : ∀ (m : Memory) (a : Nat), Memory.wf m = true → Memory.wf (Memory.wrN m a l) = true := by
  induction l with
  | nil => intro m a h; exact h
  | cons b l ih => intro m a h; exact ih _ _ (Memory.wf_put m a b h)

/-- A fold of steps that each keep the canonical form keeps it. -/
theorem Memory.wf_foldl {α β : Type} (f : Memory × β → α → Memory × β) (l : List α)
    (hf : ∀ p x, Memory.wf p.1 = true → Memory.wf (f p x).1 = true) :
    ∀ p : Memory × β, Memory.wf p.1 = true → Memory.wf (l.foldl f p).1 = true := by
  induction l with
  | nil => intro p h; exact h
  | cons x l ih => intro p h; exact ih _ (hf p x h)

/-- Nothing is listed at an address below every entry. -/
theorem Memory.look_above {lo a : Nat} (h : a ≤ lo) : ∀ {m : Memory}, Memory.above lo m → Memory.look m a = unwritten a
  | [], _ => rfl
  | (b, w) :: m, ⟨h1, _, h3⟩ => by
    have : b ≠ a := by omega
    rw [Memory.look, if_neg this, Memory.look_above (show a ≤ b by omega) h3]

/-- Every other byte is as it was, whatever the store. -/
theorem Memory.look_put_ne (v : Byte) {a x : Nat} (h : x ≠ a) : ∀ m : Memory, Memory.look (Memory.put m a v) x = Memory.look m x
  | [] => by
    unfold Memory.put
    split
    · rfl
    · simp [Memory.look, Ne.symm h]
  | (b, w) :: m => by
    unfold Memory.put
    split
    · split
      · rfl
      · simp [Memory.look, Ne.symm h]
    · split
      · rename_i h1 h2
        subst h2
        split
        · simp [Memory.look, Ne.symm h]
        · simp [Memory.look, Ne.symm h]
      · simp only [Memory.look]
        split
        · rfl
        · exact Memory.look_put_ne v h m

/-- A byte written is read back. -/
theorem Memory.look_put_same (m : Memory) (a : Nat) (v : Byte) (h : Memory.wf m = true) :
    Memory.look (Memory.put m a v) a = some v := by
  induction m with
  | nil =>
    unfold Memory.put
    split
    · assumption
    · simp [Memory.look]
  | cons c m ih =>
    obtain ⟨b, w⟩ := c
    obtain ⟨h1, h2⟩ := (Memory.wf_cons b w m).mp h
    unfold Memory.put
    split
    · rename_i h3
      split
      · rename_i h4
        have : b ≠ a := by omega
        rw [Memory.look, if_neg this, Memory.look_above (show a ≤ b by omega) h2, h4]
      · simp [Memory.look]
    · split
      · rename_i h3 h4
        subst h4
        split
        · rename_i h5; rw [Memory.look_above (lo := a) (by omega) h2, h5]
        · simp [Memory.look]
      · rename_i h3 h4
        have : b ≠ a := by omega
        simp [Memory.look, this, ih (Memory.wf_of_above h2)]

/-- A byte written where no unlisted byte has a value is read back, whatever the store. -/
theorem Memory.look_put_same_of_none (v : Byte) {a : Nat} (h : unwritten a = none) :
    ∀ m : Memory, Memory.look (Memory.put m a v) a = some v
  | [] => by simp [Memory.put, h, Memory.look]
  | (b, w) :: m => by
    unfold Memory.put
    split
    · simp [h, Memory.look]
    · split
      · simp [h, Memory.look]
      · rename_i h1 h2
        have : b ≠ a := by omega
        simp [Memory.look, this, Memory.look_put_same_of_none v h m]

/-- Bytes outside a written range are as they were. -/
theorem Memory.look_wrN_out (l : List Byte) : ∀ (m : Memory) (a x : Nat), x < a ∨ a + l.length ≤ x →
    Memory.look (Memory.wrN m a l) x = Memory.look m x := by
  induction l with
  | nil => intro m a x _; rfl
  | cons b l ih =>
    intro m a x h
    simp only [List.length_cons] at h
    rw [Memory.wrN, ih _ _ _ (by omega), Memory.look_put_ne b (by omega)]

/-- Bytes of a written range are read back. -/
theorem Memory.look_wrN_in (l : List Byte) : ∀ (m : Memory) (a o : Nat), Memory.wf m = true → o < l.length →
    Memory.look (Memory.wrN m a l) (a + o) = l[o]? := by
  induction l with
  | nil => intro m a o _ h; simp at h
  | cons b l ih =>
    intro m a o hm h
    rw [Memory.wrN]
    cases o with
    | zero => rw [Memory.look_wrN_out _ _ _ _ (by omega)]; simpa using Memory.look_put_same m a b hm
    | succ o =>
      have h1 : o < l.length := by simpa using h
      have := ih (Memory.put m a b) (a + 1) o (Memory.wf_put m a b hm) h1
      rw [show a + (o + 1) = a + 1 + o by omega, this]; simp

/-- As `look_wrN_in`, of a range where no unlisted byte has a value, whatever the store. -/
theorem Memory.look_wrN_in_of_none (l : List Byte) : ∀ (m : Memory) (a o : Nat), (∀ k, k < l.length → unwritten (a + k) = none) →
    o < l.length → Memory.look (Memory.wrN m a l) (a + o) = l[o]? := by
  induction l with
  | nil => intro m a o _ h; simp at h
  | cons b l ih =>
    intro m a o hm h
    rw [Memory.wrN]
    cases o with
    | zero =>
      rw [Memory.look_wrN_out _ _ _ _ (by omega)]
      simpa using Memory.look_put_same_of_none b (by simpa using hm 0 (by simp)) m
    | succ o =>
      have h1 : o < l.length := by simpa using h
      have := ih (Memory.put m a b) (a + 1) o
        (fun k hk => by have := hm (k + 1) (by simpa using hk); rwa [show a + 1 + k = a + (k + 1) by omega]) h1
      rw [show a + (o + 1) = a + 1 + o by omega, this]; simp

/-- What is read of a store some entries of which are left out. -/
theorem Memory.look_filter_keep (p : Host.Cell → Bool) (x : Nat) (h : ∀ v, p (x, v) = true) :
    ∀ m : Memory, Memory.look (m.filter p) x = Memory.look m x
  | [] => rfl
  | (b, w) :: m => by
    rw [List.filter_cons]
    by_cases hb : b = x
    · subst hb; simp [h, Memory.look]
    · split
      · simp [Memory.look, hb, Memory.look_filter_keep p x h m]
      · simp [Memory.look, hb, Memory.look_filter_keep p x h m]

theorem Memory.look_filter_out (p : Host.Cell → Bool) (x : Nat) (h : ∀ v, p (x, v) = false) :
    ∀ m : Memory, Memory.look (m.filter p) x = unwritten x
  | [] => rfl
  | (b, w) :: m => by
    rw [List.filter_cons]
    by_cases hb : b = x
    · subst hb; simp [h, Memory.look_filter_out p b h m]
    · split
      · simp [Memory.look, hb, Memory.look_filter_out p x h m]
      · exact Memory.look_filter_out p x h m

/-- A dropped byte reads as if never written; every other is as it was. -/
theorem Memory.look_drop (m : Memory) (lo n x : Nat) :
    Memory.look (Memory.drop m lo n) x = if lo ≤ x ∧ x < lo + n then unwritten x else Memory.look m x := by
  unfold Memory.drop
  split
  · exact Memory.look_filter_out _ _ (by intro v; simp; omega) m
  · exact Memory.look_filter_keep _ _ (by intro v; simp; omega) m

/-- DDR4 holds nothing defined that nothing has written. -/
theorem unwritten_ddr (a : Nat) (h : a < 2 ^ 64) : unwritten (ddrAt a) = none := by
  have : ddrAt a / 2 ^ 64 = 1 := by simp only [ddrAt, spaceBase]; omega
  unfold unwritten
  rw [this]; rfl

/-- A defined byte is read as it is. -/
theorem Memory.rd_of_look {m : Memory} {fresh a : Nat} {v : Byte} (h : Memory.look m a = some v) : Memory.rd m fresh a = v := by
  simp [Memory.rd, h]

@[simp] theorem Memory.rdN_length (m : Memory) (fresh : Nat) : ∀ n a, (Memory.rdN m fresh a n).length = n
  | 0, _ => rfl
  | n + 1, a => by simp [Memory.rdN, Memory.rdN_length m fresh n]

/-- Byte o of a range read. -/
theorem Memory.rdN_get (m : Memory) (fresh : Nat) : ∀ n a o, o < n → (Memory.rdN m fresh a n)[o]? = some (Memory.rd m fresh (a + o))
  | n + 1, a, 0, _ => by simp [Memory.rdN]
  | n + 1, a, o + 1, h => by
    have := Memory.rdN_get m fresh n (a + 1) o (by omega)
    simp only [Memory.rdN, List.getElem?_cons_succ, this]
    congr 2; omega

end Sys2Proof.Machine
end

