-- ==== Sys2Proof/Laws/State.lean ====
section
/-! SUPPORT. What each update of the device leaves of each field: one lemma per field, so that no proof unfolds a record
update; and the reading of an object after a write of one. -/

namespace Sys2Proof.Machine

/-! `Dev.set` writes `objs` alone. -/
@[simp] theorem Dev.set_fresh (d : Dev) (k v : Nat) : (d.set k v).fresh = d.fresh := rfl
@[simp] theorem Dev.set_egress (d : Dev) (k v : Nat) : (d.set k v).egress = d.egress := rfl
@[simp] theorem Dev.set_wire (d : Dev) (k v : Nat) : (d.set k v).wire = d.wire := rfl
@[simp] theorem Dev.set_held (d : Dev) (k v : Nat) : (d.set k v).held = d.held := rfl
@[simp] theorem Dev.set_turn (d : Dev) (k v : Nat) : (d.set k v).turn = d.turn := rfl
@[simp] theorem Dev.set_fw (d : Dev) (k v : Nat) : (d.set k v).fw = d.fw := rfl
@[simp] theorem Dev.set_xfers (d : Dev) (k v : Nat) : (d.set k v).xfers = d.xfers := rfl
@[simp] theorem Dev.set_endedBy (d : Dev) (k v : Nat) : (d.set k v).endedBy = d.endedBy := rfl
@[simp] theorem Dev.set_domLen (d : Dev) (k v : Nat) : (d.set k v).domLen = d.domLen := rfl
@[simp] theorem Dev.set_runs (d : Dev) (k v : Nat) : (d.set k v).runs = d.runs := rfl
@[simp] theorem Dev.set_slices (d : Dev) (k v : Nat) : (d.set k v).slices = d.slices := rfl
@[simp] theorem Dev.set_wins (d : Dev) (k v : Nat) : (d.set k v).wins = d.wins := rfl
@[simp] theorem Dev.set_chans (d : Dev) (k v : Nat) : (d.set k v).chans = d.chans := rfl
@[simp] theorem Dev.set_siteRuns (d : Dev) (k v : Nat) : (d.set k v).siteRuns = d.siteRuns := rfl
@[simp] theorem Dev.set_staging (d : Dev) (k v : Nat) : (d.set k v).staging = d.staging := rfl
@[simp] theorem Dev.set_hewers (d : Dev) (k v : Nat) : (d.set k v).hewers = d.hewers := rfl
@[simp] theorem Dev.set_assays (d : Dev) (k v : Nat) : (d.set k v).assays = d.assays := rfl
@[simp] theorem Dev.set_dowsers (d : Dev) (k v : Nat) : (d.set k v).dowsers = d.dowsers := rfl
@[simp] theorem Dev.set_tmus (d : Dev) (k v : Nat) : (d.set k v).tmus = d.tmus := rfl
@[simp] theorem Dev.set_almSeq (d : Dev) (k v : Nat) : (d.set k v).almSeq = d.almSeq := rfl
@[simp] theorem Dev.set_peers (d : Dev) (k v : Nat) : (d.set k v).peers = d.peers := rfl
@[simp] theorem Dev.set_tarns (d : Dev) (k v : Nat) : (d.set k v).tarns = d.tarns := rfl
@[simp] theorem Dev.set_latched (d : Dev) (k v : Nat) : (d.set k v).latched = d.latched := rfl
@[simp] theorem Dev.set_ring (d : Dev) (k v : Nat) : (d.set k v).ring = d.ring := rfl
@[simp] theorem Dev.set_wrapped (d : Dev) (k v : Nat) : (d.set k v).wrapped = d.wrapped := rfl
@[simp] theorem Dev.set_notices (d : Dev) (k v : Nat) : (d.set k v).notices = d.notices := rfl
@[simp] theorem Dev.set_trigIn (d : Dev) (k v : Nat) : (d.set k v).trigIn = d.trigIn := rfl
@[simp] theorem Dev.set_tbus (d : Dev) (k v : Nat) : (d.set k v).tbus = d.tbus := rfl
@[simp] theorem Dev.set_trigOut (d : Dev) (k v : Nat) : (d.set k v).trigOut = d.trigOut := rfl
@[simp] theorem Dev.set_ovm (d : Dev) (k v : Nat) : (d.set k v).ovm = d.ovm := rfl
@[simp] theorem Dev.set_tbs (d : Dev) (k v : Nat) : (d.set k v).tbs = d.tbs := rfl
@[simp] theorem Dev.set_tb1 (d : Dev) (k v : Nat) : (d.set k v).tb1 = d.tb1 := rfl
@[simp] theorem Dev.set_tb1Sub (d : Dev) (k v : Nat) : (d.set k v).tb1Sub = d.tb1Sub := rfl
@[simp] theorem Dev.set_trams (d : Dev) (k v : Nat) : (d.set k v).trams = d.trams := rfl
@[simp] theorem Dev.set_ddr (d : Dev) (k v : Nat) : (d.set k v).ddr = d.ddr := rfl
@[simp] theorem Dev.set_badLode (d : Dev) (k v : Nat) : (d.set k v).badLode = d.badLode := rfl
@[simp] theorem Dev.set_badDdr (d : Dev) (k v : Nat) : (d.set k v).badDdr = d.badDdr := rfl
@[simp] theorem Dev.set_ports (d : Dev) (k v : Nat) : (d.set k v).ports = d.ports := rfl
@[simp] theorem Dev.set_lanes (d : Dev) (k v : Nat) : (d.set k v).lanes = d.lanes := rfl
@[simp] theorem Dev.set_eyes (d : Dev) (k v : Nat) : (d.set k v).eyes = d.eyes := rfl
@[simp] theorem Dev.set_clk (d : Dev) (k v : Nat) : (d.set k v).clk = d.clk := rfl
@[simp] theorem Dev.set_exch (d : Dev) (k v : Nat) : (d.set k v).exch = d.exch := rfl
@[simp] theorem Dev.set_resid (d : Dev) (k v : Nat) : (d.set k v).resid = d.resid := rfl
@[simp] theorem Dev.set_tsq (d : Dev) (k v : Nat) : (d.set k v).tsq = d.tsq := rfl
@[simp] theorem Dev.set_master (d : Dev) (k v : Nat) : (d.set k v).master = d.master := rfl
@[simp] theorem Dev.set_almNext (d : Dev) (k v : Nat) : (d.set k v).almNext = d.almNext := rfl
@[simp] theorem Dev.set_jtag (d : Dev) (k v : Nat) : (d.set k v).jtag = d.jtag := rfl
@[simp] theorem Dev.set_wnd (d : Dev) (k v : Nat) : (d.set k v).wnd = d.wnd := rfl
@[simp] theorem Dev.set_ssqs (d : Dev) (k v : Nat) : (d.set k v).ssqs = d.ssqs := rfl
@[simp] theorem Dev.set_wls (d : Dev) (k v : Nat) : (d.set k v).wls = d.wls := rfl
@[simp] theorem Dev.set_pwr (d : Dev) (k v : Nat) : (d.set k v).pwr = d.pwr := rfl
@[simp] theorem Dev.set_dirRead (d : Dev) (k v : Nat) : (d.set k v).dirRead = d.dirRead := rfl
@[simp] theorem Dev.set_heard (d : Dev) (k v : Nat) : (d.set k v).heard = d.heard := rfl
@[simp] theorem Dev.set_galLost (d : Dev) (k v : Nat) : (d.set k v).galLost = d.galLost := rfl
@[simp] theorem Dev.set_pllOf (d : Dev) (k v : Nat) : (d.set k v).pllOf = d.pllOf := rfl
@[simp] theorem Dev.set_sigs (d : Dev) (k v : Nat) : (d.set k v).sigs = d.sigs := rfl
@[simp] theorem Dev.set_unlock (d : Dev) (k v : Nat) : (d.set k v).unlock = d.unlock := rfl

/-! `Dev.setPwr` writes `pwr` alone. -/
@[simp] theorem Dev.setPwr_objs (d : Dev) (x : Power) : (d.setPwr x).objs = d.objs := rfl
@[simp] theorem Dev.setPwr_fresh (d : Dev) (x : Power) : (d.setPwr x).fresh = d.fresh := rfl
@[simp] theorem Dev.setPwr_egress (d : Dev) (x : Power) : (d.setPwr x).egress = d.egress := rfl
@[simp] theorem Dev.setPwr_wire (d : Dev) (x : Power) : (d.setPwr x).wire = d.wire := rfl
@[simp] theorem Dev.setPwr_held (d : Dev) (x : Power) : (d.setPwr x).held = d.held := rfl
@[simp] theorem Dev.setPwr_turn (d : Dev) (x : Power) : (d.setPwr x).turn = d.turn := rfl
@[simp] theorem Dev.setPwr_fw (d : Dev) (x : Power) : (d.setPwr x).fw = d.fw := rfl
@[simp] theorem Dev.setPwr_xfers (d : Dev) (x : Power) : (d.setPwr x).xfers = d.xfers := rfl
@[simp] theorem Dev.setPwr_endedBy (d : Dev) (x : Power) : (d.setPwr x).endedBy = d.endedBy := rfl
@[simp] theorem Dev.setPwr_domLen (d : Dev) (x : Power) : (d.setPwr x).domLen = d.domLen := rfl
@[simp] theorem Dev.setPwr_runs (d : Dev) (x : Power) : (d.setPwr x).runs = d.runs := rfl
@[simp] theorem Dev.setPwr_slices (d : Dev) (x : Power) : (d.setPwr x).slices = d.slices := rfl
@[simp] theorem Dev.setPwr_wins (d : Dev) (x : Power) : (d.setPwr x).wins = d.wins := rfl
@[simp] theorem Dev.setPwr_chans (d : Dev) (x : Power) : (d.setPwr x).chans = d.chans := rfl
@[simp] theorem Dev.setPwr_siteRuns (d : Dev) (x : Power) : (d.setPwr x).siteRuns = d.siteRuns := rfl
@[simp] theorem Dev.setPwr_staging (d : Dev) (x : Power) : (d.setPwr x).staging = d.staging := rfl
@[simp] theorem Dev.setPwr_hewers (d : Dev) (x : Power) : (d.setPwr x).hewers = d.hewers := rfl
@[simp] theorem Dev.setPwr_assays (d : Dev) (x : Power) : (d.setPwr x).assays = d.assays := rfl
@[simp] theorem Dev.setPwr_dowsers (d : Dev) (x : Power) : (d.setPwr x).dowsers = d.dowsers := rfl
@[simp] theorem Dev.setPwr_tmus (d : Dev) (x : Power) : (d.setPwr x).tmus = d.tmus := rfl
@[simp] theorem Dev.setPwr_almSeq (d : Dev) (x : Power) : (d.setPwr x).almSeq = d.almSeq := rfl
@[simp] theorem Dev.setPwr_peers (d : Dev) (x : Power) : (d.setPwr x).peers = d.peers := rfl
@[simp] theorem Dev.setPwr_tarns (d : Dev) (x : Power) : (d.setPwr x).tarns = d.tarns := rfl
@[simp] theorem Dev.setPwr_latched (d : Dev) (x : Power) : (d.setPwr x).latched = d.latched := rfl
@[simp] theorem Dev.setPwr_ring (d : Dev) (x : Power) : (d.setPwr x).ring = d.ring := rfl
@[simp] theorem Dev.setPwr_wrapped (d : Dev) (x : Power) : (d.setPwr x).wrapped = d.wrapped := rfl
@[simp] theorem Dev.setPwr_notices (d : Dev) (x : Power) : (d.setPwr x).notices = d.notices := rfl
@[simp] theorem Dev.setPwr_trigIn (d : Dev) (x : Power) : (d.setPwr x).trigIn = d.trigIn := rfl
@[simp] theorem Dev.setPwr_tbus (d : Dev) (x : Power) : (d.setPwr x).tbus = d.tbus := rfl
@[simp] theorem Dev.setPwr_trigOut (d : Dev) (x : Power) : (d.setPwr x).trigOut = d.trigOut := rfl
@[simp] theorem Dev.setPwr_ovm (d : Dev) (x : Power) : (d.setPwr x).ovm = d.ovm := rfl
@[simp] theorem Dev.setPwr_tbs (d : Dev) (x : Power) : (d.setPwr x).tbs = d.tbs := rfl
@[simp] theorem Dev.setPwr_tb1 (d : Dev) (x : Power) : (d.setPwr x).tb1 = d.tb1 := rfl
@[simp] theorem Dev.setPwr_tb1Sub (d : Dev) (x : Power) : (d.setPwr x).tb1Sub = d.tb1Sub := rfl
@[simp] theorem Dev.setPwr_trams (d : Dev) (x : Power) : (d.setPwr x).trams = d.trams := rfl
@[simp] theorem Dev.setPwr_ddr (d : Dev) (x : Power) : (d.setPwr x).ddr = d.ddr := rfl
@[simp] theorem Dev.setPwr_badLode (d : Dev) (x : Power) : (d.setPwr x).badLode = d.badLode := rfl
@[simp] theorem Dev.setPwr_badDdr (d : Dev) (x : Power) : (d.setPwr x).badDdr = d.badDdr := rfl
@[simp] theorem Dev.setPwr_ports (d : Dev) (x : Power) : (d.setPwr x).ports = d.ports := rfl
@[simp] theorem Dev.setPwr_lanes (d : Dev) (x : Power) : (d.setPwr x).lanes = d.lanes := rfl
@[simp] theorem Dev.setPwr_eyes (d : Dev) (x : Power) : (d.setPwr x).eyes = d.eyes := rfl
@[simp] theorem Dev.setPwr_clk (d : Dev) (x : Power) : (d.setPwr x).clk = d.clk := rfl
@[simp] theorem Dev.setPwr_exch (d : Dev) (x : Power) : (d.setPwr x).exch = d.exch := rfl
@[simp] theorem Dev.setPwr_resid (d : Dev) (x : Power) : (d.setPwr x).resid = d.resid := rfl
@[simp] theorem Dev.setPwr_tsq (d : Dev) (x : Power) : (d.setPwr x).tsq = d.tsq := rfl
@[simp] theorem Dev.setPwr_master (d : Dev) (x : Power) : (d.setPwr x).master = d.master := rfl
@[simp] theorem Dev.setPwr_almNext (d : Dev) (x : Power) : (d.setPwr x).almNext = d.almNext := rfl
@[simp] theorem Dev.setPwr_jtag (d : Dev) (x : Power) : (d.setPwr x).jtag = d.jtag := rfl
@[simp] theorem Dev.setPwr_wnd (d : Dev) (x : Power) : (d.setPwr x).wnd = d.wnd := rfl
@[simp] theorem Dev.setPwr_ssqs (d : Dev) (x : Power) : (d.setPwr x).ssqs = d.ssqs := rfl
@[simp] theorem Dev.setPwr_wls (d : Dev) (x : Power) : (d.setPwr x).wls = d.wls := rfl
@[simp] theorem Dev.setPwr_dirRead (d : Dev) (x : Power) : (d.setPwr x).dirRead = d.dirRead := rfl
@[simp] theorem Dev.setPwr_heard (d : Dev) (x : Power) : (d.setPwr x).heard = d.heard := rfl
@[simp] theorem Dev.setPwr_galLost (d : Dev) (x : Power) : (d.setPwr x).galLost = d.galLost := rfl
@[simp] theorem Dev.setPwr_pllOf (d : Dev) (x : Power) : (d.setPwr x).pllOf = d.pllOf := rfl
@[simp] theorem Dev.setPwr_sigs (d : Dev) (x : Power) : (d.setPwr x).sigs = d.sigs := rfl
@[simp] theorem Dev.setPwr_unlock (d : Dev) (x : Power) : (d.setPwr x).unlock = d.unlock := rfl

/-! `Dev.setPort` writes `ports` alone. -/
@[simp] theorem Dev.setPort_objs (d : Dev) (p : Nat) (x : Port) : (d.setPort p x).objs = d.objs := rfl
@[simp] theorem Dev.setPort_fresh (d : Dev) (p : Nat) (x : Port) : (d.setPort p x).fresh = d.fresh := rfl
@[simp] theorem Dev.setPort_egress (d : Dev) (p : Nat) (x : Port) : (d.setPort p x).egress = d.egress := rfl
@[simp] theorem Dev.setPort_wire (d : Dev) (p : Nat) (x : Port) : (d.setPort p x).wire = d.wire := rfl
@[simp] theorem Dev.setPort_held (d : Dev) (p : Nat) (x : Port) : (d.setPort p x).held = d.held := rfl
@[simp] theorem Dev.setPort_turn (d : Dev) (p : Nat) (x : Port) : (d.setPort p x).turn = d.turn := rfl
@[simp] theorem Dev.setPort_fw (d : Dev) (p : Nat) (x : Port) : (d.setPort p x).fw = d.fw := rfl
@[simp] theorem Dev.setPort_xfers (d : Dev) (p : Nat) (x : Port) : (d.setPort p x).xfers = d.xfers := rfl
@[simp] theorem Dev.setPort_endedBy (d : Dev) (p : Nat) (x : Port) : (d.setPort p x).endedBy = d.endedBy := rfl
@[simp] theorem Dev.setPort_domLen (d : Dev) (p : Nat) (x : Port) : (d.setPort p x).domLen = d.domLen := rfl
@[simp] theorem Dev.setPort_runs (d : Dev) (p : Nat) (x : Port) : (d.setPort p x).runs = d.runs := rfl
@[simp] theorem Dev.setPort_slices (d : Dev) (p : Nat) (x : Port) : (d.setPort p x).slices = d.slices := rfl
@[simp] theorem Dev.setPort_wins (d : Dev) (p : Nat) (x : Port) : (d.setPort p x).wins = d.wins := rfl
@[simp] theorem Dev.setPort_chans (d : Dev) (p : Nat) (x : Port) : (d.setPort p x).chans = d.chans := rfl
@[simp] theorem Dev.setPort_siteRuns (d : Dev) (p : Nat) (x : Port) : (d.setPort p x).siteRuns = d.siteRuns := rfl
@[simp] theorem Dev.setPort_staging (d : Dev) (p : Nat) (x : Port) : (d.setPort p x).staging = d.staging := rfl
@[simp] theorem Dev.setPort_hewers (d : Dev) (p : Nat) (x : Port) : (d.setPort p x).hewers = d.hewers := rfl
@[simp] theorem Dev.setPort_assays (d : Dev) (p : Nat) (x : Port) : (d.setPort p x).assays = d.assays := rfl
@[simp] theorem Dev.setPort_dowsers (d : Dev) (p : Nat) (x : Port) : (d.setPort p x).dowsers = d.dowsers := rfl
@[simp] theorem Dev.setPort_tmus (d : Dev) (p : Nat) (x : Port) : (d.setPort p x).tmus = d.tmus := rfl
@[simp] theorem Dev.setPort_almSeq (d : Dev) (p : Nat) (x : Port) : (d.setPort p x).almSeq = d.almSeq := rfl
@[simp] theorem Dev.setPort_peers (d : Dev) (p : Nat) (x : Port) : (d.setPort p x).peers = d.peers := rfl
@[simp] theorem Dev.setPort_tarns (d : Dev) (p : Nat) (x : Port) : (d.setPort p x).tarns = d.tarns := rfl
@[simp] theorem Dev.setPort_latched (d : Dev) (p : Nat) (x : Port) : (d.setPort p x).latched = d.latched := rfl
@[simp] theorem Dev.setPort_ring (d : Dev) (p : Nat) (x : Port) : (d.setPort p x).ring = d.ring := rfl
@[simp] theorem Dev.setPort_wrapped (d : Dev) (p : Nat) (x : Port) : (d.setPort p x).wrapped = d.wrapped := rfl
@[simp] theorem Dev.setPort_notices (d : Dev) (p : Nat) (x : Port) : (d.setPort p x).notices = d.notices := rfl
@[simp] theorem Dev.setPort_trigIn (d : Dev) (p : Nat) (x : Port) : (d.setPort p x).trigIn = d.trigIn := rfl
@[simp] theorem Dev.setPort_tbus (d : Dev) (p : Nat) (x : Port) : (d.setPort p x).tbus = d.tbus := rfl
@[simp] theorem Dev.setPort_trigOut (d : Dev) (p : Nat) (x : Port) : (d.setPort p x).trigOut = d.trigOut := rfl
@[simp] theorem Dev.setPort_ovm (d : Dev) (p : Nat) (x : Port) : (d.setPort p x).ovm = d.ovm := rfl
@[simp] theorem Dev.setPort_tbs (d : Dev) (p : Nat) (x : Port) : (d.setPort p x).tbs = d.tbs := rfl
@[simp] theorem Dev.setPort_tb1 (d : Dev) (p : Nat) (x : Port) : (d.setPort p x).tb1 = d.tb1 := rfl
@[simp] theorem Dev.setPort_tb1Sub (d : Dev) (p : Nat) (x : Port) : (d.setPort p x).tb1Sub = d.tb1Sub := rfl
@[simp] theorem Dev.setPort_trams (d : Dev) (p : Nat) (x : Port) : (d.setPort p x).trams = d.trams := rfl
@[simp] theorem Dev.setPort_ddr (d : Dev) (p : Nat) (x : Port) : (d.setPort p x).ddr = d.ddr := rfl
@[simp] theorem Dev.setPort_badLode (d : Dev) (p : Nat) (x : Port) : (d.setPort p x).badLode = d.badLode := rfl
@[simp] theorem Dev.setPort_badDdr (d : Dev) (p : Nat) (x : Port) : (d.setPort p x).badDdr = d.badDdr := rfl
@[simp] theorem Dev.setPort_lanes (d : Dev) (p : Nat) (x : Port) : (d.setPort p x).lanes = d.lanes := rfl
@[simp] theorem Dev.setPort_eyes (d : Dev) (p : Nat) (x : Port) : (d.setPort p x).eyes = d.eyes := rfl
@[simp] theorem Dev.setPort_clk (d : Dev) (p : Nat) (x : Port) : (d.setPort p x).clk = d.clk := rfl
@[simp] theorem Dev.setPort_exch (d : Dev) (p : Nat) (x : Port) : (d.setPort p x).exch = d.exch := rfl
@[simp] theorem Dev.setPort_resid (d : Dev) (p : Nat) (x : Port) : (d.setPort p x).resid = d.resid := rfl
@[simp] theorem Dev.setPort_tsq (d : Dev) (p : Nat) (x : Port) : (d.setPort p x).tsq = d.tsq := rfl
@[simp] theorem Dev.setPort_master (d : Dev) (p : Nat) (x : Port) : (d.setPort p x).master = d.master := rfl
@[simp] theorem Dev.setPort_almNext (d : Dev) (p : Nat) (x : Port) : (d.setPort p x).almNext = d.almNext := rfl
@[simp] theorem Dev.setPort_jtag (d : Dev) (p : Nat) (x : Port) : (d.setPort p x).jtag = d.jtag := rfl
@[simp] theorem Dev.setPort_wnd (d : Dev) (p : Nat) (x : Port) : (d.setPort p x).wnd = d.wnd := rfl
@[simp] theorem Dev.setPort_ssqs (d : Dev) (p : Nat) (x : Port) : (d.setPort p x).ssqs = d.ssqs := rfl
@[simp] theorem Dev.setPort_wls (d : Dev) (p : Nat) (x : Port) : (d.setPort p x).wls = d.wls := rfl
@[simp] theorem Dev.setPort_pwr (d : Dev) (p : Nat) (x : Port) : (d.setPort p x).pwr = d.pwr := rfl
@[simp] theorem Dev.setPort_dirRead (d : Dev) (p : Nat) (x : Port) : (d.setPort p x).dirRead = d.dirRead := rfl
@[simp] theorem Dev.setPort_heard (d : Dev) (p : Nat) (x : Port) : (d.setPort p x).heard = d.heard := rfl
@[simp] theorem Dev.setPort_galLost (d : Dev) (p : Nat) (x : Port) : (d.setPort p x).galLost = d.galLost := rfl
@[simp] theorem Dev.setPort_pllOf (d : Dev) (p : Nat) (x : Port) : (d.setPort p x).pllOf = d.pllOf := rfl
@[simp] theorem Dev.setPort_sigs (d : Dev) (p : Nat) (x : Port) : (d.setPort p x).sigs = d.sigs := rfl
@[simp] theorem Dev.setPort_unlock (d : Dev) (p : Nat) (x : Port) : (d.setPort p x).unlock = d.unlock := rfl

/-! `Dev.setTarn` writes `tarns` alone. -/
@[simp] theorem Dev.setTarn_objs (d : Dev) (q : Nat) (t : Tarn) : (d.setTarn q t).objs = d.objs := rfl
@[simp] theorem Dev.setTarn_fresh (d : Dev) (q : Nat) (t : Tarn) : (d.setTarn q t).fresh = d.fresh := rfl
@[simp] theorem Dev.setTarn_egress (d : Dev) (q : Nat) (t : Tarn) : (d.setTarn q t).egress = d.egress := rfl
@[simp] theorem Dev.setTarn_wire (d : Dev) (q : Nat) (t : Tarn) : (d.setTarn q t).wire = d.wire := rfl
@[simp] theorem Dev.setTarn_held (d : Dev) (q : Nat) (t : Tarn) : (d.setTarn q t).held = d.held := rfl
@[simp] theorem Dev.setTarn_turn (d : Dev) (q : Nat) (t : Tarn) : (d.setTarn q t).turn = d.turn := rfl
@[simp] theorem Dev.setTarn_fw (d : Dev) (q : Nat) (t : Tarn) : (d.setTarn q t).fw = d.fw := rfl
@[simp] theorem Dev.setTarn_xfers (d : Dev) (q : Nat) (t : Tarn) : (d.setTarn q t).xfers = d.xfers := rfl
@[simp] theorem Dev.setTarn_endedBy (d : Dev) (q : Nat) (t : Tarn) : (d.setTarn q t).endedBy = d.endedBy := rfl
@[simp] theorem Dev.setTarn_domLen (d : Dev) (q : Nat) (t : Tarn) : (d.setTarn q t).domLen = d.domLen := rfl
@[simp] theorem Dev.setTarn_runs (d : Dev) (q : Nat) (t : Tarn) : (d.setTarn q t).runs = d.runs := rfl
@[simp] theorem Dev.setTarn_slices (d : Dev) (q : Nat) (t : Tarn) : (d.setTarn q t).slices = d.slices := rfl
@[simp] theorem Dev.setTarn_wins (d : Dev) (q : Nat) (t : Tarn) : (d.setTarn q t).wins = d.wins := rfl
@[simp] theorem Dev.setTarn_chans (d : Dev) (q : Nat) (t : Tarn) : (d.setTarn q t).chans = d.chans := rfl
@[simp] theorem Dev.setTarn_siteRuns (d : Dev) (q : Nat) (t : Tarn) : (d.setTarn q t).siteRuns = d.siteRuns := rfl
@[simp] theorem Dev.setTarn_staging (d : Dev) (q : Nat) (t : Tarn) : (d.setTarn q t).staging = d.staging := rfl
@[simp] theorem Dev.setTarn_hewers (d : Dev) (q : Nat) (t : Tarn) : (d.setTarn q t).hewers = d.hewers := rfl
@[simp] theorem Dev.setTarn_assays (d : Dev) (q : Nat) (t : Tarn) : (d.setTarn q t).assays = d.assays := rfl
@[simp] theorem Dev.setTarn_dowsers (d : Dev) (q : Nat) (t : Tarn) : (d.setTarn q t).dowsers = d.dowsers := rfl
@[simp] theorem Dev.setTarn_tmus (d : Dev) (q : Nat) (t : Tarn) : (d.setTarn q t).tmus = d.tmus := rfl
@[simp] theorem Dev.setTarn_almSeq (d : Dev) (q : Nat) (t : Tarn) : (d.setTarn q t).almSeq = d.almSeq := rfl
@[simp] theorem Dev.setTarn_peers (d : Dev) (q : Nat) (t : Tarn) : (d.setTarn q t).peers = d.peers := rfl
@[simp] theorem Dev.setTarn_latched (d : Dev) (q : Nat) (t : Tarn) : (d.setTarn q t).latched = d.latched := rfl
@[simp] theorem Dev.setTarn_ring (d : Dev) (q : Nat) (t : Tarn) : (d.setTarn q t).ring = d.ring := rfl
@[simp] theorem Dev.setTarn_wrapped (d : Dev) (q : Nat) (t : Tarn) : (d.setTarn q t).wrapped = d.wrapped := rfl
@[simp] theorem Dev.setTarn_notices (d : Dev) (q : Nat) (t : Tarn) : (d.setTarn q t).notices = d.notices := rfl
@[simp] theorem Dev.setTarn_trigIn (d : Dev) (q : Nat) (t : Tarn) : (d.setTarn q t).trigIn = d.trigIn := rfl
@[simp] theorem Dev.setTarn_tbus (d : Dev) (q : Nat) (t : Tarn) : (d.setTarn q t).tbus = d.tbus := rfl
@[simp] theorem Dev.setTarn_trigOut (d : Dev) (q : Nat) (t : Tarn) : (d.setTarn q t).trigOut = d.trigOut := rfl
@[simp] theorem Dev.setTarn_ovm (d : Dev) (q : Nat) (t : Tarn) : (d.setTarn q t).ovm = d.ovm := rfl
@[simp] theorem Dev.setTarn_tbs (d : Dev) (q : Nat) (t : Tarn) : (d.setTarn q t).tbs = d.tbs := rfl
@[simp] theorem Dev.setTarn_tb1 (d : Dev) (q : Nat) (t : Tarn) : (d.setTarn q t).tb1 = d.tb1 := rfl
@[simp] theorem Dev.setTarn_tb1Sub (d : Dev) (q : Nat) (t : Tarn) : (d.setTarn q t).tb1Sub = d.tb1Sub := rfl
@[simp] theorem Dev.setTarn_trams (d : Dev) (q : Nat) (t : Tarn) : (d.setTarn q t).trams = d.trams := rfl
@[simp] theorem Dev.setTarn_ddr (d : Dev) (q : Nat) (t : Tarn) : (d.setTarn q t).ddr = d.ddr := rfl
@[simp] theorem Dev.setTarn_badLode (d : Dev) (q : Nat) (t : Tarn) : (d.setTarn q t).badLode = d.badLode := rfl
@[simp] theorem Dev.setTarn_badDdr (d : Dev) (q : Nat) (t : Tarn) : (d.setTarn q t).badDdr = d.badDdr := rfl
@[simp] theorem Dev.setTarn_ports (d : Dev) (q : Nat) (t : Tarn) : (d.setTarn q t).ports = d.ports := rfl
@[simp] theorem Dev.setTarn_lanes (d : Dev) (q : Nat) (t : Tarn) : (d.setTarn q t).lanes = d.lanes := rfl
@[simp] theorem Dev.setTarn_eyes (d : Dev) (q : Nat) (t : Tarn) : (d.setTarn q t).eyes = d.eyes := rfl
@[simp] theorem Dev.setTarn_clk (d : Dev) (q : Nat) (t : Tarn) : (d.setTarn q t).clk = d.clk := rfl
@[simp] theorem Dev.setTarn_exch (d : Dev) (q : Nat) (t : Tarn) : (d.setTarn q t).exch = d.exch := rfl
@[simp] theorem Dev.setTarn_resid (d : Dev) (q : Nat) (t : Tarn) : (d.setTarn q t).resid = d.resid := rfl
@[simp] theorem Dev.setTarn_tsq (d : Dev) (q : Nat) (t : Tarn) : (d.setTarn q t).tsq = d.tsq := rfl
@[simp] theorem Dev.setTarn_master (d : Dev) (q : Nat) (t : Tarn) : (d.setTarn q t).master = d.master := rfl
@[simp] theorem Dev.setTarn_almNext (d : Dev) (q : Nat) (t : Tarn) : (d.setTarn q t).almNext = d.almNext := rfl
@[simp] theorem Dev.setTarn_jtag (d : Dev) (q : Nat) (t : Tarn) : (d.setTarn q t).jtag = d.jtag := rfl
@[simp] theorem Dev.setTarn_wnd (d : Dev) (q : Nat) (t : Tarn) : (d.setTarn q t).wnd = d.wnd := rfl
@[simp] theorem Dev.setTarn_ssqs (d : Dev) (q : Nat) (t : Tarn) : (d.setTarn q t).ssqs = d.ssqs := rfl
@[simp] theorem Dev.setTarn_wls (d : Dev) (q : Nat) (t : Tarn) : (d.setTarn q t).wls = d.wls := rfl
@[simp] theorem Dev.setTarn_pwr (d : Dev) (q : Nat) (t : Tarn) : (d.setTarn q t).pwr = d.pwr := rfl
@[simp] theorem Dev.setTarn_dirRead (d : Dev) (q : Nat) (t : Tarn) : (d.setTarn q t).dirRead = d.dirRead := rfl
@[simp] theorem Dev.setTarn_heard (d : Dev) (q : Nat) (t : Tarn) : (d.setTarn q t).heard = d.heard := rfl
@[simp] theorem Dev.setTarn_galLost (d : Dev) (q : Nat) (t : Tarn) : (d.setTarn q t).galLost = d.galLost := rfl
@[simp] theorem Dev.setTarn_pllOf (d : Dev) (q : Nat) (t : Tarn) : (d.setTarn q t).pllOf = d.pllOf := rfl
@[simp] theorem Dev.setTarn_sigs (d : Dev) (q : Nat) (t : Tarn) : (d.setTarn q t).sigs = d.sigs := rfl
@[simp] theorem Dev.setTarn_unlock (d : Dev) (q : Nat) (t : Tarn) : (d.setTarn q t).unlock = d.unlock := rfl

/-! `Dev.setRun` writes `runs` alone. -/
@[simp] theorem Dev.setRun_objs (d : Dev) (n : Nat) (r : SeqRun) : (d.setRun n r).objs = d.objs := rfl
@[simp] theorem Dev.setRun_fresh (d : Dev) (n : Nat) (r : SeqRun) : (d.setRun n r).fresh = d.fresh := rfl
@[simp] theorem Dev.setRun_egress (d : Dev) (n : Nat) (r : SeqRun) : (d.setRun n r).egress = d.egress := rfl
@[simp] theorem Dev.setRun_wire (d : Dev) (n : Nat) (r : SeqRun) : (d.setRun n r).wire = d.wire := rfl
@[simp] theorem Dev.setRun_held (d : Dev) (n : Nat) (r : SeqRun) : (d.setRun n r).held = d.held := rfl
@[simp] theorem Dev.setRun_turn (d : Dev) (n : Nat) (r : SeqRun) : (d.setRun n r).turn = d.turn := rfl
@[simp] theorem Dev.setRun_fw (d : Dev) (n : Nat) (r : SeqRun) : (d.setRun n r).fw = d.fw := rfl
@[simp] theorem Dev.setRun_xfers (d : Dev) (n : Nat) (r : SeqRun) : (d.setRun n r).xfers = d.xfers := rfl
@[simp] theorem Dev.setRun_endedBy (d : Dev) (n : Nat) (r : SeqRun) : (d.setRun n r).endedBy = d.endedBy := rfl
@[simp] theorem Dev.setRun_domLen (d : Dev) (n : Nat) (r : SeqRun) : (d.setRun n r).domLen = d.domLen := rfl
@[simp] theorem Dev.setRun_slices (d : Dev) (n : Nat) (r : SeqRun) : (d.setRun n r).slices = d.slices := rfl
@[simp] theorem Dev.setRun_wins (d : Dev) (n : Nat) (r : SeqRun) : (d.setRun n r).wins = d.wins := rfl
@[simp] theorem Dev.setRun_chans (d : Dev) (n : Nat) (r : SeqRun) : (d.setRun n r).chans = d.chans := rfl
@[simp] theorem Dev.setRun_siteRuns (d : Dev) (n : Nat) (r : SeqRun) : (d.setRun n r).siteRuns = d.siteRuns := rfl
@[simp] theorem Dev.setRun_staging (d : Dev) (n : Nat) (r : SeqRun) : (d.setRun n r).staging = d.staging := rfl
@[simp] theorem Dev.setRun_hewers (d : Dev) (n : Nat) (r : SeqRun) : (d.setRun n r).hewers = d.hewers := rfl
@[simp] theorem Dev.setRun_assays (d : Dev) (n : Nat) (r : SeqRun) : (d.setRun n r).assays = d.assays := rfl
@[simp] theorem Dev.setRun_dowsers (d : Dev) (n : Nat) (r : SeqRun) : (d.setRun n r).dowsers = d.dowsers := rfl
@[simp] theorem Dev.setRun_tmus (d : Dev) (n : Nat) (r : SeqRun) : (d.setRun n r).tmus = d.tmus := rfl
@[simp] theorem Dev.setRun_almSeq (d : Dev) (n : Nat) (r : SeqRun) : (d.setRun n r).almSeq = d.almSeq := rfl
@[simp] theorem Dev.setRun_peers (d : Dev) (n : Nat) (r : SeqRun) : (d.setRun n r).peers = d.peers := rfl
@[simp] theorem Dev.setRun_tarns (d : Dev) (n : Nat) (r : SeqRun) : (d.setRun n r).tarns = d.tarns := rfl
@[simp] theorem Dev.setRun_latched (d : Dev) (n : Nat) (r : SeqRun) : (d.setRun n r).latched = d.latched := rfl
@[simp] theorem Dev.setRun_ring (d : Dev) (n : Nat) (r : SeqRun) : (d.setRun n r).ring = d.ring := rfl
@[simp] theorem Dev.setRun_wrapped (d : Dev) (n : Nat) (r : SeqRun) : (d.setRun n r).wrapped = d.wrapped := rfl
@[simp] theorem Dev.setRun_notices (d : Dev) (n : Nat) (r : SeqRun) : (d.setRun n r).notices = d.notices := rfl
@[simp] theorem Dev.setRun_trigIn (d : Dev) (n : Nat) (r : SeqRun) : (d.setRun n r).trigIn = d.trigIn := rfl
@[simp] theorem Dev.setRun_tbus (d : Dev) (n : Nat) (r : SeqRun) : (d.setRun n r).tbus = d.tbus := rfl
@[simp] theorem Dev.setRun_trigOut (d : Dev) (n : Nat) (r : SeqRun) : (d.setRun n r).trigOut = d.trigOut := rfl
@[simp] theorem Dev.setRun_ovm (d : Dev) (n : Nat) (r : SeqRun) : (d.setRun n r).ovm = d.ovm := rfl
@[simp] theorem Dev.setRun_tbs (d : Dev) (n : Nat) (r : SeqRun) : (d.setRun n r).tbs = d.tbs := rfl
@[simp] theorem Dev.setRun_tb1 (d : Dev) (n : Nat) (r : SeqRun) : (d.setRun n r).tb1 = d.tb1 := rfl
@[simp] theorem Dev.setRun_tb1Sub (d : Dev) (n : Nat) (r : SeqRun) : (d.setRun n r).tb1Sub = d.tb1Sub := rfl
@[simp] theorem Dev.setRun_trams (d : Dev) (n : Nat) (r : SeqRun) : (d.setRun n r).trams = d.trams := rfl
@[simp] theorem Dev.setRun_ddr (d : Dev) (n : Nat) (r : SeqRun) : (d.setRun n r).ddr = d.ddr := rfl
@[simp] theorem Dev.setRun_badLode (d : Dev) (n : Nat) (r : SeqRun) : (d.setRun n r).badLode = d.badLode := rfl
@[simp] theorem Dev.setRun_badDdr (d : Dev) (n : Nat) (r : SeqRun) : (d.setRun n r).badDdr = d.badDdr := rfl
@[simp] theorem Dev.setRun_ports (d : Dev) (n : Nat) (r : SeqRun) : (d.setRun n r).ports = d.ports := rfl
@[simp] theorem Dev.setRun_lanes (d : Dev) (n : Nat) (r : SeqRun) : (d.setRun n r).lanes = d.lanes := rfl
@[simp] theorem Dev.setRun_eyes (d : Dev) (n : Nat) (r : SeqRun) : (d.setRun n r).eyes = d.eyes := rfl
@[simp] theorem Dev.setRun_clk (d : Dev) (n : Nat) (r : SeqRun) : (d.setRun n r).clk = d.clk := rfl
@[simp] theorem Dev.setRun_exch (d : Dev) (n : Nat) (r : SeqRun) : (d.setRun n r).exch = d.exch := rfl
@[simp] theorem Dev.setRun_resid (d : Dev) (n : Nat) (r : SeqRun) : (d.setRun n r).resid = d.resid := rfl
@[simp] theorem Dev.setRun_tsq (d : Dev) (n : Nat) (r : SeqRun) : (d.setRun n r).tsq = d.tsq := rfl
@[simp] theorem Dev.setRun_master (d : Dev) (n : Nat) (r : SeqRun) : (d.setRun n r).master = d.master := rfl
@[simp] theorem Dev.setRun_almNext (d : Dev) (n : Nat) (r : SeqRun) : (d.setRun n r).almNext = d.almNext := rfl
@[simp] theorem Dev.setRun_jtag (d : Dev) (n : Nat) (r : SeqRun) : (d.setRun n r).jtag = d.jtag := rfl
@[simp] theorem Dev.setRun_wnd (d : Dev) (n : Nat) (r : SeqRun) : (d.setRun n r).wnd = d.wnd := rfl
@[simp] theorem Dev.setRun_ssqs (d : Dev) (n : Nat) (r : SeqRun) : (d.setRun n r).ssqs = d.ssqs := rfl
@[simp] theorem Dev.setRun_wls (d : Dev) (n : Nat) (r : SeqRun) : (d.setRun n r).wls = d.wls := rfl
@[simp] theorem Dev.setRun_pwr (d : Dev) (n : Nat) (r : SeqRun) : (d.setRun n r).pwr = d.pwr := rfl
@[simp] theorem Dev.setRun_dirRead (d : Dev) (n : Nat) (r : SeqRun) : (d.setRun n r).dirRead = d.dirRead := rfl
@[simp] theorem Dev.setRun_heard (d : Dev) (n : Nat) (r : SeqRun) : (d.setRun n r).heard = d.heard := rfl
@[simp] theorem Dev.setRun_galLost (d : Dev) (n : Nat) (r : SeqRun) : (d.setRun n r).galLost = d.galLost := rfl
@[simp] theorem Dev.setRun_pllOf (d : Dev) (n : Nat) (r : SeqRun) : (d.setRun n r).pllOf = d.pllOf := rfl
@[simp] theorem Dev.setRun_sigs (d : Dev) (n : Nat) (r : SeqRun) : (d.setRun n r).sigs = d.sigs := rfl
@[simp] theorem Dev.setRun_unlock (d : Dev) (n : Nat) (r : SeqRun) : (d.setRun n r).unlock = d.unlock := rfl

/-! `Dev.setSite` writes `siteRuns` alone. -/
@[simp] theorem Dev.setSite_objs (d : Dev) (m : Nat) (r : SiteRun) : (d.setSite m r).objs = d.objs := rfl
@[simp] theorem Dev.setSite_fresh (d : Dev) (m : Nat) (r : SiteRun) : (d.setSite m r).fresh = d.fresh := rfl
@[simp] theorem Dev.setSite_egress (d : Dev) (m : Nat) (r : SiteRun) : (d.setSite m r).egress = d.egress := rfl
@[simp] theorem Dev.setSite_wire (d : Dev) (m : Nat) (r : SiteRun) : (d.setSite m r).wire = d.wire := rfl
@[simp] theorem Dev.setSite_held (d : Dev) (m : Nat) (r : SiteRun) : (d.setSite m r).held = d.held := rfl
@[simp] theorem Dev.setSite_turn (d : Dev) (m : Nat) (r : SiteRun) : (d.setSite m r).turn = d.turn := rfl
@[simp] theorem Dev.setSite_fw (d : Dev) (m : Nat) (r : SiteRun) : (d.setSite m r).fw = d.fw := rfl
@[simp] theorem Dev.setSite_xfers (d : Dev) (m : Nat) (r : SiteRun) : (d.setSite m r).xfers = d.xfers := rfl
@[simp] theorem Dev.setSite_endedBy (d : Dev) (m : Nat) (r : SiteRun) : (d.setSite m r).endedBy = d.endedBy := rfl
@[simp] theorem Dev.setSite_domLen (d : Dev) (m : Nat) (r : SiteRun) : (d.setSite m r).domLen = d.domLen := rfl
@[simp] theorem Dev.setSite_runs (d : Dev) (m : Nat) (r : SiteRun) : (d.setSite m r).runs = d.runs := rfl
@[simp] theorem Dev.setSite_slices (d : Dev) (m : Nat) (r : SiteRun) : (d.setSite m r).slices = d.slices := rfl
@[simp] theorem Dev.setSite_wins (d : Dev) (m : Nat) (r : SiteRun) : (d.setSite m r).wins = d.wins := rfl
@[simp] theorem Dev.setSite_chans (d : Dev) (m : Nat) (r : SiteRun) : (d.setSite m r).chans = d.chans := rfl
@[simp] theorem Dev.setSite_staging (d : Dev) (m : Nat) (r : SiteRun) : (d.setSite m r).staging = d.staging := rfl
@[simp] theorem Dev.setSite_hewers (d : Dev) (m : Nat) (r : SiteRun) : (d.setSite m r).hewers = d.hewers := rfl
@[simp] theorem Dev.setSite_assays (d : Dev) (m : Nat) (r : SiteRun) : (d.setSite m r).assays = d.assays := rfl
@[simp] theorem Dev.setSite_dowsers (d : Dev) (m : Nat) (r : SiteRun) : (d.setSite m r).dowsers = d.dowsers := rfl
@[simp] theorem Dev.setSite_tmus (d : Dev) (m : Nat) (r : SiteRun) : (d.setSite m r).tmus = d.tmus := rfl
@[simp] theorem Dev.setSite_almSeq (d : Dev) (m : Nat) (r : SiteRun) : (d.setSite m r).almSeq = d.almSeq := rfl
@[simp] theorem Dev.setSite_peers (d : Dev) (m : Nat) (r : SiteRun) : (d.setSite m r).peers = d.peers := rfl
@[simp] theorem Dev.setSite_tarns (d : Dev) (m : Nat) (r : SiteRun) : (d.setSite m r).tarns = d.tarns := rfl
@[simp] theorem Dev.setSite_latched (d : Dev) (m : Nat) (r : SiteRun) : (d.setSite m r).latched = d.latched := rfl
@[simp] theorem Dev.setSite_ring (d : Dev) (m : Nat) (r : SiteRun) : (d.setSite m r).ring = d.ring := rfl
@[simp] theorem Dev.setSite_wrapped (d : Dev) (m : Nat) (r : SiteRun) : (d.setSite m r).wrapped = d.wrapped := rfl
@[simp] theorem Dev.setSite_notices (d : Dev) (m : Nat) (r : SiteRun) : (d.setSite m r).notices = d.notices := rfl
@[simp] theorem Dev.setSite_trigIn (d : Dev) (m : Nat) (r : SiteRun) : (d.setSite m r).trigIn = d.trigIn := rfl
@[simp] theorem Dev.setSite_tbus (d : Dev) (m : Nat) (r : SiteRun) : (d.setSite m r).tbus = d.tbus := rfl
@[simp] theorem Dev.setSite_trigOut (d : Dev) (m : Nat) (r : SiteRun) : (d.setSite m r).trigOut = d.trigOut := rfl
@[simp] theorem Dev.setSite_ovm (d : Dev) (m : Nat) (r : SiteRun) : (d.setSite m r).ovm = d.ovm := rfl
@[simp] theorem Dev.setSite_tbs (d : Dev) (m : Nat) (r : SiteRun) : (d.setSite m r).tbs = d.tbs := rfl
@[simp] theorem Dev.setSite_tb1 (d : Dev) (m : Nat) (r : SiteRun) : (d.setSite m r).tb1 = d.tb1 := rfl
@[simp] theorem Dev.setSite_tb1Sub (d : Dev) (m : Nat) (r : SiteRun) : (d.setSite m r).tb1Sub = d.tb1Sub := rfl
@[simp] theorem Dev.setSite_trams (d : Dev) (m : Nat) (r : SiteRun) : (d.setSite m r).trams = d.trams := rfl
@[simp] theorem Dev.setSite_ddr (d : Dev) (m : Nat) (r : SiteRun) : (d.setSite m r).ddr = d.ddr := rfl
@[simp] theorem Dev.setSite_badLode (d : Dev) (m : Nat) (r : SiteRun) : (d.setSite m r).badLode = d.badLode := rfl
@[simp] theorem Dev.setSite_badDdr (d : Dev) (m : Nat) (r : SiteRun) : (d.setSite m r).badDdr = d.badDdr := rfl
@[simp] theorem Dev.setSite_ports (d : Dev) (m : Nat) (r : SiteRun) : (d.setSite m r).ports = d.ports := rfl
@[simp] theorem Dev.setSite_lanes (d : Dev) (m : Nat) (r : SiteRun) : (d.setSite m r).lanes = d.lanes := rfl
@[simp] theorem Dev.setSite_eyes (d : Dev) (m : Nat) (r : SiteRun) : (d.setSite m r).eyes = d.eyes := rfl
@[simp] theorem Dev.setSite_clk (d : Dev) (m : Nat) (r : SiteRun) : (d.setSite m r).clk = d.clk := rfl
@[simp] theorem Dev.setSite_exch (d : Dev) (m : Nat) (r : SiteRun) : (d.setSite m r).exch = d.exch := rfl
@[simp] theorem Dev.setSite_resid (d : Dev) (m : Nat) (r : SiteRun) : (d.setSite m r).resid = d.resid := rfl
@[simp] theorem Dev.setSite_tsq (d : Dev) (m : Nat) (r : SiteRun) : (d.setSite m r).tsq = d.tsq := rfl
@[simp] theorem Dev.setSite_master (d : Dev) (m : Nat) (r : SiteRun) : (d.setSite m r).master = d.master := rfl
@[simp] theorem Dev.setSite_almNext (d : Dev) (m : Nat) (r : SiteRun) : (d.setSite m r).almNext = d.almNext := rfl
@[simp] theorem Dev.setSite_jtag (d : Dev) (m : Nat) (r : SiteRun) : (d.setSite m r).jtag = d.jtag := rfl
@[simp] theorem Dev.setSite_wnd (d : Dev) (m : Nat) (r : SiteRun) : (d.setSite m r).wnd = d.wnd := rfl
@[simp] theorem Dev.setSite_ssqs (d : Dev) (m : Nat) (r : SiteRun) : (d.setSite m r).ssqs = d.ssqs := rfl
@[simp] theorem Dev.setSite_wls (d : Dev) (m : Nat) (r : SiteRun) : (d.setSite m r).wls = d.wls := rfl
@[simp] theorem Dev.setSite_pwr (d : Dev) (m : Nat) (r : SiteRun) : (d.setSite m r).pwr = d.pwr := rfl
@[simp] theorem Dev.setSite_dirRead (d : Dev) (m : Nat) (r : SiteRun) : (d.setSite m r).dirRead = d.dirRead := rfl
@[simp] theorem Dev.setSite_heard (d : Dev) (m : Nat) (r : SiteRun) : (d.setSite m r).heard = d.heard := rfl
@[simp] theorem Dev.setSite_galLost (d : Dev) (m : Nat) (r : SiteRun) : (d.setSite m r).galLost = d.galLost := rfl
@[simp] theorem Dev.setSite_pllOf (d : Dev) (m : Nat) (r : SiteRun) : (d.setSite m r).pllOf = d.pllOf := rfl
@[simp] theorem Dev.setSite_sigs (d : Dev) (m : Nat) (r : SiteRun) : (d.setSite m r).sigs = d.sigs := rfl
@[simp] theorem Dev.setSite_unlock (d : Dev) (m : Nat) (r : SiteRun) : (d.setSite m r).unlock = d.unlock := rfl

/-! Reading an object. -/

theorem Dev.get_set (d : Dev) (k v j : Nat) : (d.set k v).get j = if j = k then v else d.get j := by
  by_cases h : j = k
  · subst h; simp [Dev.set, Dev.get]
  · simp [Dev.set, Dev.get, h, Table.at_put_ne]

@[simp] theorem Dev.get_set_same (d : Dev) (k v : Nat) : (d.set k v).get k = v := by simp [Dev.get_set]

theorem Dev.get_set_ne (d : Dev) (k v j : Nat) (h : j ≠ k) : (d.set k v).get j = d.get j := by simp [Dev.get_set, h]

/-- What `get` reads is the object table and nothing else. -/
theorem Dev.get_of_objs {d e : Dev} (h : d.objs = e.objs) (k : Nat) : d.get k = e.get k := by simp [Dev.get, h]

theorem Dev.setAll_nil (d : Dev) : d.setAll [] = d := rfl
theorem Dev.setAll_cons (d : Dev) (p : Nat × Nat) (l : List (Nat × Nat)) : d.setAll (p :: l) = (d.set p.1 p.2).setAll l := rfl

@[simp] theorem Dev.get_setPwr (d : Dev) (x : Power) (j : Nat) : (d.setPwr x).get j = d.get j := rfl
@[simp] theorem Dev.get_setPort (d : Dev) (p : Nat) (x : Port) (j : Nat) : (d.setPort p x).get j = d.get j := rfl
@[simp] theorem Dev.get_setTarn (d : Dev) (q : Nat) (t : Tarn) (j : Nat) : (d.setTarn q t).get j = d.get j := rfl
@[simp] theorem Dev.get_setRun (d : Dev) (n : Nat) (r : SeqRun) (j : Nat) : (d.setRun n r).get j = d.get j := rfl
@[simp] theorem Dev.get_setSite (d : Dev) (m : Nat) (r : SiteRun) (j : Nat) : (d.setSite m r).get j = d.get j := rfl
@[simp] theorem Dev.get_setHew (d : Dev) (h : Nat) (x : Hewer) (j : Nat) : (d.setHew h x).get j = d.get j := rfl
@[simp] theorem Dev.get_setAsy (d : Dev) (u : Nat) (x : Assay) (j : Nat) : (d.setAsy u x).get j = d.get j := rfl
@[simp] theorem Dev.get_setTram (d : Dev) (c : Nat) (t : Tram) (j : Nat) : (d.setTram c t).get j = d.get j := rfl
@[simp] theorem Dev.get_setDdrCh (d : Dev) (c : Nat) (x : DdrChan) (j : Nat) : (d.setDdrCh c x).get j = d.get j := rfl
@[simp] theorem Dev.get_setGraph (d : Dev) (g : Nat) (x : Graph) (j : Nat) : (d.setGraph g x).get j = d.get j := rfl
@[simp] theorem Dev.get_setTmu (d : Dev) (k : Nat) (t : Tmu) (j : Nat) : (d.setTmu k t).get j = d.get j := rfl
@[simp] theorem Dev.get_setDws (d : Dev) (e : Nat) (w : Dowser) (j : Nat) : (d.setDws e w).get j = d.get j := rfl
@[simp] theorem Dev.get_setWin (d : Dev) (n w : Nat) (x : Window) (j : Nat) : (d.setWin n w x).get j = d.get j := rfl
@[simp] theorem Dev.get_setExch (d : Dev) (b : Nat) (x : Exch) (j : Nat) : (d.setExch b x).get j = d.get j := rfl

/-! Reading an instance of a numbered unit after one was replaced. -/

@[simp] theorem Dev.port_setPort_same (d : Dev) (i : Nat) (x : Port) : (d.setPort i x).port i = x := by simp [Dev.setPort, Dev.port]
theorem Dev.port_setPort_ne (d : Dev) (i j : Nat) (x : Port) (h : j ≠ i) : (d.setPort i x).port j = d.port j := by
  simp [Dev.setPort, Dev.port, Table.at_put_ne _ _ _ _ _ h]
@[simp] theorem Dev.run_setRun_same (d : Dev) (i : Nat) (x : SeqRun) : (d.setRun i x).run i = x := by simp [Dev.setRun, Dev.run]
theorem Dev.run_setRun_ne (d : Dev) (i j : Nat) (x : SeqRun) (h : j ≠ i) : (d.setRun i x).run j = d.run j := by
  simp [Dev.setRun, Dev.run, Table.at_put_ne _ _ _ _ _ h]
@[simp] theorem Dev.site_setSite_same (d : Dev) (i : Nat) (x : SiteRun) : (d.setSite i x).site i = x := by simp [Dev.setSite, Dev.site]
theorem Dev.site_setSite_ne (d : Dev) (i j : Nat) (x : SiteRun) (h : j ≠ i) : (d.setSite i x).site j = d.site j := by
  simp [Dev.setSite, Dev.site, Table.at_put_ne _ _ _ _ _ h]
@[simp] theorem Dev.hew_setHew_same (d : Dev) (i : Nat) (x : Hewer) : (d.setHew i x).hew i = x := by simp [Dev.setHew, Dev.hew]
theorem Dev.hew_setHew_ne (d : Dev) (i j : Nat) (x : Hewer) (h : j ≠ i) : (d.setHew i x).hew j = d.hew j := by
  simp [Dev.setHew, Dev.hew, Table.at_put_ne _ _ _ _ _ h]
@[simp] theorem Dev.asy_setAsy_same (d : Dev) (i : Nat) (x : Assay) : (d.setAsy i x).asy i = x := by simp [Dev.setAsy, Dev.asy]
theorem Dev.asy_setAsy_ne (d : Dev) (i j : Nat) (x : Assay) (h : j ≠ i) : (d.setAsy i x).asy j = d.asy j := by
  simp [Dev.setAsy, Dev.asy, Table.at_put_ne _ _ _ _ _ h]
@[simp] theorem Dev.tram_setTram_same (d : Dev) (i : Nat) (x : Tram) : (d.setTram i x).tram i = x := by simp [Dev.setTram, Dev.tram]
theorem Dev.tram_setTram_ne (d : Dev) (i j : Nat) (x : Tram) (h : j ≠ i) : (d.setTram i x).tram j = d.tram j := by
  simp [Dev.setTram, Dev.tram, Table.at_put_ne _ _ _ _ _ h]
@[simp] theorem Dev.ddrCh_setDdrCh_same (d : Dev) (i : Nat) (x : DdrChan) : (d.setDdrCh i x).ddrCh i = x := by simp [Dev.setDdrCh, Dev.ddrCh]
theorem Dev.ddrCh_setDdrCh_ne (d : Dev) (i j : Nat) (x : DdrChan) (h : j ≠ i) : (d.setDdrCh i x).ddrCh j = d.ddrCh j := by
  simp [Dev.setDdrCh, Dev.ddrCh, Table.at_put_ne _ _ _ _ _ h]
@[simp] theorem Dev.graph_setGraph_same (d : Dev) (i : Nat) (x : Graph) : (d.setGraph i x).graph i = x := by simp [Dev.setGraph, Dev.graph]
theorem Dev.graph_setGraph_ne (d : Dev) (i j : Nat) (x : Graph) (h : j ≠ i) : (d.setGraph i x).graph j = d.graph j := by
  simp [Dev.setGraph, Dev.graph, Table.at_put_ne _ _ _ _ _ h]
@[simp] theorem Dev.tmu_setTmu_same (d : Dev) (i : Nat) (x : Tmu) : (d.setTmu i x).tmu i = x := by simp [Dev.setTmu, Dev.tmu]
theorem Dev.tmu_setTmu_ne (d : Dev) (i j : Nat) (x : Tmu) (h : j ≠ i) : (d.setTmu i x).tmu j = d.tmu j := by
  simp [Dev.setTmu, Dev.tmu, Table.at_put_ne _ _ _ _ _ h]
@[simp] theorem Dev.dws_setDws_same (d : Dev) (i : Nat) (x : Dowser) : (d.setDws i x).dws i = x := by simp [Dev.setDws, Dev.dws]
theorem Dev.dws_setDws_ne (d : Dev) (i j : Nat) (x : Dowser) (h : j ≠ i) : (d.setDws i x).dws j = d.dws j := by
  simp [Dev.setDws, Dev.dws, Table.at_put_ne _ _ _ _ _ h]
@[simp] theorem Dev.exchOf_setExch_same (d : Dev) (i : Nat) (x : Exch) : (d.setExch i x).exchOf i = x := by simp [Dev.setExch, Dev.exchOf]
theorem Dev.exchOf_setExch_ne (d : Dev) (i j : Nat) (x : Exch) (h : j ≠ i) : (d.setExch i x).exchOf j = d.exchOf j := by
  simp [Dev.setExch, Dev.exchOf, Table.at_put_ne _ _ _ _ _ h]

/-- The swap of the banks moves no word out of order (R241). -/
@[simp] theorem Tarn.words_feed (h : Nat) (t : Tarn) : (t.feed h).words = t.words := by
  simp [Tarn.feed, Tarn.words, Tarn.held]

@[simp] theorem Tarn.words_swap (h : Nat) (t : Tarn) : (t.swap h).words = t.words := by
  unfold Tarn.swap
  split
  · rename_i e
    simp only [Bool.and_eq_true, List.isEmpty_iff] at e
    rw [Tarn.words_feed, ← Tarn.words_feed h t]
    simp [Tarn.words, Tarn.held, e.1]
  · exact Tarn.words_feed h t

@[simp] theorem Dev.tarn_setTarn_same (d : Dev) (q : Nat) (t : Tarn) : (d.setTarn q t).tarn q = t.swap (d.qHalf q) := by
  simp [Dev.setTarn, Dev.tarn]
theorem Dev.tarn_setTarn_ne (d : Dev) (q o : Nat) (t : Tarn) (h : o ≠ q) : (d.setTarn q t).tarn o = d.tarn o := by
  simp [Dev.setTarn, Dev.tarn, Table.at_put_ne _ _ _ _ _ h]

/-! The state around its device. -/

@[simp] theorem State.withDev_dev (s : State) (d : Dev) : (s.withDev d).dev = d := rfl
@[simp] theorem State.withDev_mem (s : State) (d : Dev) : (s.withDev d).mem = s.mem := rfl
@[simp] theorem State.withDev_fuses (s : State) (d : Dev) : (s.withDev d).fuses = s.fuses := rfl
@[simp] theorem State.withDev_pending (s : State) (d : Dev) : (s.withDev d).pending = s.pending := rfl
@[simp] theorem State.withDev_same (s : State) : s.withDev s.dev = s := rfl
@[simp] theorem State.withBoth_dev (s : State) (p : Memory × Dev) : (s.withBoth p).dev = p.2 := rfl
@[simp] theorem State.withBoth_mem (s : State) (p : Memory × Dev) : (s.withBoth p).mem = p.1 := rfl
@[simp] theorem State.withBoth_fuses (s : State) (p : Memory × Dev) : (s.withBoth p).fuses = s.fuses := rfl
@[simp] theorem State.withBoth_pending (s : State) (p : Memory × Dev) : (s.withBoth p).pending = s.pending := rfl
@[simp] theorem State.withBoth_same (s : State) (d : Dev) : s.withBoth (s.mem, d) = s.withDev d := rfl

/-! Checks. -/

@[simp] theorem need_true (a : Abort) : need true a = .ok () := rfl
@[simp] theorem need_false (a : Abort) : need false a = .error a := rfl
@[simp] theorem need_then {α : Type} (b : Bool) (a : Abort) (f : Unit → Except Abort α) :
    (need b a >>= f) = if b then f () else .error a := by cases b <;> rfl
@[simp] theorem checked_ok {α β : Type} (x : α) (f : α → Except Abort β) : ((.ok x : Except Abort α) >>= f) = f x := rfl
@[simp] theorem checked_error {α β : Type} (a : Abort) (f : α → Except Abort β) :
    ((.error a : Except Abort α) >>= f) = .error a := rfl
@[simp] theorem map_ok {α β : Type} (x : α) (f : α → β) : (.ok x : Except Abort α).map f = .ok (f x) := rfl
@[simp] theorem map_error {α β : Type} (a : Abort) (f : α → β) : (.error a : Except Abort α).map f = .error a := rfl

end Sys2Proof.Machine
end

