-- ==== Sys2Proof/Laws/Ops.lean ====
section
/-! SUPPORT. What each shared operation can do, once: free values, counters, frames sent, responses and refusals, events.
Each has a lemma that names the fields it may write, and one that says which objects it leaves alone. -/

namespace Sys2Proof.Machine

/-! Free values and counters. -/

@[simp] theorem Dev.free_get (d : Dev) (w k : Nat) : (d.free w).2.get k = d.get k := rfl

/-- A counter writes the object table and the model's own free counter, nothing else. -/
theorem Dev.bumpBy_shape (d : Dev) (key k : Nat) : ∃ o f, d.bumpBy key k = { d with objs := o, fresh := f } := by
  unfold Dev.bumpBy
  split
  · exact ⟨_, d.fresh, rfl⟩
  · exact ⟨_, _, rfl⟩

theorem Dev.bumpBy_get_ne (d : Dev) (key k j : Nat) (h : j ≠ key) : (d.bumpBy key k).get j = d.get j := by
  unfold Dev.bumpBy
  split <;> simp [Dev.get_set_ne _ _ _ _ h]

theorem Dev.bump_shape (d : Dev) (key : Nat) : ∃ o f, d.bump key = { d with objs := o, fresh := f } := d.bumpBy_shape key 1

theorem Dev.bump_get_ne (d : Dev) (key j : Nat) (h : j ≠ key) : (d.bump key).get j = d.get j := d.bumpBy_get_ne key 1 j h

/-- A counter within its width counts exactly. -/
theorem Dev.bumpBy_get_same (d : Dev) (key k : Nat) (h : d.get key + k < 2 ^ objWidth key) :
    (d.bumpBy key k).get key = d.get key + k := by simp [Dev.bumpBy, h]

theorem Dev.bump_get_same (d : Dev) (key : Nat) (h : d.get key + 1 < 2 ^ objWidth key) : (d.bump key).get key = d.get key + 1 :=
  d.bumpBy_get_same key 1 h

theorem Dev.bumpSat_get (d : Dev) (key j : Nat) :
    (d.bumpSat key).get j = if j = key then min (2 ^ objWidth key - 1) (d.get key + 1) else d.get j := by
  simp [Dev.bumpSat, Dev.get_set, satAdd]

theorem Dev.keepMax_shape (d : Dev) (key v : Nat) : ∃ o, d.keepMax key v = { d with objs := o } := by
  unfold Dev.keepMax
  split
  · exact ⟨_, rfl⟩
  · exact ⟨d.objs, rfl⟩

theorem Dev.keepMax_get (d : Dev) (key v j : Nat) : (d.keepMax key v).get j = if j = key then max (d.get key) v else d.get j := by
  unfold Dev.keepMax
  split
  · rename_i h; simp only [Dev.get_set]; split <;> omega
  · split
    · rename_i h1 h2; subst h2; omega
    · rfl

/-! Frames of the device's own. -/

/-- A frame put on a port is kept as sent and counted, nothing else. -/
theorem Dev.transmit_shape (d : Dev) (p : Nat) (f : Frame) :
    ∃ o n x, d.transmit p f = { d with objs := o, fresh := n, ports := x, wire := d.wire ++ [(p, f)] } := by
  obtain ⟨o, n, h⟩ := ({ d with wire := d.wire ++ [(p, f)] } : Dev).bump_shape (portKey p 0x11)
  unfold Dev.transmit
  simp only [h]
  split
  · exact ⟨o, n, _, rfl⟩
  · exact ⟨o, n, d.ports, rfl⟩

theorem Dev.transmit_get_ne (d : Dev) (p j : Nat) (f : Frame) (h : j ≠ portKey p 0x11) : (d.transmit p f).get j = d.get j := by
  unfold Dev.transmit
  simp only
  split
  · exact Dev.bump_get_ne _ _ _ h
  · exact Dev.bump_get_ne _ _ _ h

/-- A sequenced frame takes its number and credits of one port and is kept there until acknowledged. -/
theorem Dev.sendNow_shape (d : Dev) (p kind : Nat) (b : List Nat) :
    ∃ o n x w, d.sendNow p kind b = { d with objs := o, fresh := n, ports := x, wire := w } := by
  unfold Dev.sendNow
  obtain ⟨o, n, x, h⟩ := Dev.transmit_shape (d.setPort p { d.port p with
    fseq := ((d.port p).fseq + 1) % 65536,
    replay := (d.port p).replay ++ [d.frameOf p kind 0 (((d.port p).fseq + 1) % 65536) false b],
    reqSent := (d.port p).reqSent + (if kind = 1 then d.costs p b else (0, 0, 0)).1,
    datSent := (d.port p).datSent + (if kind = 1 then d.costs p b else (0, 0, 0)).2.1,
    notSent := (d.port p).notSent + (if kind = 1 then d.costs p b else (0, 0, 0)).2.2 }) p
    (d.frameOf p kind 0 (((d.port p).fseq + 1) % 65536) false b)
  exact ⟨o, n, _, _, h⟩

theorem Dev.sendNow_get_ne (d : Dev) (p kind j : Nat) (b : List Nat) (h : j ≠ portKey p 0x11) :
    (d.sendNow p kind b).get j = d.get j := Dev.transmit_get_ne _ _ _ _ h

/-- Own frames that wait leave as far as they can: only the port, what was put on it and its count change. -/
theorem drainOwn_shape (k : Nat) (d : Dev) (p : Nat) :
    ∃ o n x w, drainOwn k d p = { d with objs := o, fresh := n, ports := x, wire := w } := by
  induction k generalizing d with
  | zero => exact ⟨d.objs, d.fresh, d.ports, d.wire, rfl⟩
  | succ k ih =>
    unfold drainOwn
    simp only
    split
    · exact ⟨d.objs, d.fresh, d.ports, d.wire, rfl⟩
    · split
      · rename_i i _ _
        generalize (d.port p).own.getD i (1, []) = e
        obtain ⟨o1, n1, x1, w1, h1⟩ := (d.setPort p { d.port p with own := (d.port p).own.eraseIdx i }).sendNow_shape p e.1 e.2
        obtain ⟨o, n, x, w, h⟩ := ih ((d.setPort p { d.port p with own := (d.port p).own.eraseIdx i }).sendNow p e.1 e.2)
        exact ⟨o, n, x, w, by rw [h, h1]; rfl⟩
      · exact ⟨d.objs, d.fresh, d.ports, d.wire, rfl⟩

theorem drainOwn_get_ne (k : Nat) (d : Dev) (p j : Nat) (h : j ≠ portKey p 0x11) : (drainOwn k d p).get j = d.get j := by
  induction k generalizing d with
  | zero => rfl
  | succ k ih =>
    unfold drainOwn
    simp only
    split
    · rfl
    · split
      · exact (ih _).trans (Dev.sendNow_get_ne _ _ _ _ _ h)
      · rfl

/-- Sending touches one port, what was put on it, its FRAMES_TX, and nothing else. -/
theorem Dev.linkSend_shape (d : Dev) (p kind : Nat) (b : List Nat) :
    ∃ o f x w, d.linkSend p kind b = { d with objs := o, fresh := f, ports := x, wire := w } := by
  unfold Dev.linkSend
  split
  · obtain ⟨o, n, x, w, h⟩ := drainOwn_shape
      ((d.setPort p { d.port p with own := (d.port p).own ++ [(kind, b)] }).port p).own.length
      (d.setPort p { d.port p with own := (d.port p).own ++ [(kind, b)] }) p
    exact ⟨o, n, x, w, h⟩
  · exact ⟨d.objs, d.fresh, d.ports, d.wire, rfl⟩

theorem Dev.linkSend_get_ne (d : Dev) (p kind j : Nat) (b : List Nat) (h : j ≠ portKey p 0x11) :
    (d.linkSend p kind b).get j = d.get j := by
  unfold Dev.linkSend
  split
  · exact drainOwn_get_ne _ _ _ _ h
  · rfl

/-- A response appends itself to what was sent, and sends one frame; none to a broadcast (R287, R290). -/
theorem Dev.respond_shape (d : Dev) (r : Req) (type idx sub : Nat) (l : List Byte) (phase : Nat) :
    ∃ o f x w, d.respond r type idx sub l phase = { d with objs := o, fresh := f, ports := x, wire := w, egress := if r.bcast then d.egress else d.egress ++ [.response r type 0 idx sub l] } := by
  unfold Dev.respond
  split
  · exact ⟨d.objs, d.fresh, d.ports, d.wire, rfl⟩
  · obtain ⟨o, f, x, w, e⟩ := ({ d with egress := d.egress ++ [.response r type 0 idx sub l] } : Dev).linkSend_shape r.port 1
      (d.response r type 0 idx sub phase l)
    exact ⟨o, f, x, w, by rw [e]⟩

theorem Dev.respond_get_ne (d : Dev) (r : Req) (type idx sub : Nat) (l : List Byte) (phase j : Nat) (h : j ≠ portKey r.port 0x11) :
    (d.respond r type idx sub l phase).get j = d.get j := by
  unfold Dev.respond
  split
  · rfl
  · exact Dev.linkSend_get_ne _ _ _ _ _ h

/-- A refusal records itself, appends itself to what was sent, and sends one frame; none to a broadcast (R281, R290). -/
theorem Dev.refuse_shape (d : Dev) (r : Req) (type idx sub : Nat) (a : Abort) (phase : Nat) :
    ∃ o f x w, d.refuse r type idx sub a phase = { d with objs := o, fresh := f, ports := x, wire := w, egress := if r.bcast then d.egress else d.egress ++ [.response r type a.code idx sub []] } := by
  unfold Dev.refuse
  obtain ⟨o1, f1, e1⟩ := (d.set K.LAST_ABORT (fld 48 16 a.code + fld 32 16 idx + fld 24 8 sub + fld 16 8 type + fld 8 8 r.src +
    fld 0 8 r.tag)).bump_shape K.ABORT_COUNT
  simp only [e1]
  split
  · exact ⟨o1, f1, d.ports, d.wire, rfl⟩
  · obtain ⟨o, f, x, w, e⟩ := ({ d with objs := o1, fresh := f1, egress := d.egress ++ [.response r type a.code idx sub []] } : Dev).linkSend_shape
      r.port 1 (({ d with objs := o1, fresh := f1 } : Dev).response r type a.code idx sub phase [])
    exact ⟨o, f, x, w, e⟩

theorem Dev.refuse_get_ne (d : Dev) (r : Req) (type idx sub : Nat) (a : Abort) (phase j : Nat) (h1 : j ≠ K.LAST_ABORT)
    (h2 : j ≠ K.ABORT_COUNT) (h3 : j ≠ portKey r.port 0x11) : (d.refuse r type idx sub a phase).get j = d.get j := by
  unfold Dev.refuse
  simp only
  split
  · simp [Dev.bump_get_ne _ _ _ h2, Dev.get_set_ne _ _ _ _ h1]
  · rw [Dev.linkSend_get_ne _ _ _ _ _ h3]
    exact (Dev.bump_get_ne _ _ _ h2).trans (Dev.get_set_ne _ _ _ _ h1)

/-! Events (R408 to R411). -/

/-- The objects that raising an event may write: status and counter registers, the notice counters, and the peak and the
sticky bits of a queue a delivery goes to. -/
def eventKey (key : Nat) : Prop :=
  (key / 256 = 0x610 ∧ key % 256 ≤ 0x10) ∨ (0x630 ≤ key / 256 ∧ key / 256 ≤ 0x632) ∨ key = K.NOTICE_SEQ ∨
  key = K.NOTICE_DROPS ∨ key = K.ROUTE_DROPS ∨ (0xB00 ≤ key / 256 ∧ key / 256 ≤ 0xBFF ∧ (key % 256 = 9 ∨ key % 256 = 10))

theorem Dev.notice_shape (d : Dev) (t e c i : Nat) : ∃ o f n, d.notice t e c i = { d with objs := o, fresh := f, notices := n } := by
  unfold Dev.notice
  simp only
  split
  · exact ⟨_, d.fresh, _, rfl⟩
  · obtain ⟨o, f, h⟩ := ({ d.set K.NOTICE_SEQ ((d.get K.NOTICE_SEQ + 1) % 2 ^ 32) with
      notices := d.notices.drop 1 ++ [⟨t, e, c, i, (d.get K.NOTICE_SEQ + 1) % 2 ^ 32,
        (d.set K.NOTICE_SEQ ((d.get K.NOTICE_SEQ + 1) % 2 ^ 32)).tb0⟩] } : Dev).bump_shape K.NOTICE_DROPS
    exact ⟨o, f, _, h⟩

theorem Dev.notice_get_ne (d : Dev) (t e c i j : Nat) (h : ¬eventKey j) : (d.notice t e c i).get j = d.get j := by
  have h1 : j ≠ K.NOTICE_SEQ := fun x => h (by simp [eventKey, x])
  have h2 : j ≠ K.NOTICE_DROPS := fun x => h (by simp [eventKey, x])
  unfold Dev.notice
  simp only
  split
  · exact Dev.get_set_ne _ _ _ _ h1
  · exact (Dev.bump_get_ne _ _ _ h2).trans (Dev.get_set_ne _ _ _ _ h1)

theorem Dev.qSettle_shape (d : Dev) (q : Nat) (t : Tarn) : ∃ o n, (d.qSettle q t).1 = { d with objs := o, tarns := n } := by
  unfold Dev.qSettle
  simp only
  generalize Tarn.swap (d.qHalf q) t = t
  obtain ⟨o, h⟩ := ({ d with tarns := Table.put d.tarns q t } : Dev).keepMax_shape (K.Q_PEAK q) t.count
  rw [h]
  split <;> exact ⟨_, _, rfl⟩

theorem Dev.qSettle_get_ne (d : Dev) (q : Nat) (t : Tarn) (j : Nat) (h1 : j ≠ K.Q_PEAK q) (h2 : j ≠ K.Q_STICKY q) :
    (d.qSettle q t).1.get j = d.get j := by
  unfold Dev.qSettle
  simp only
  generalize Tarn.swap (d.qHalf q) t = t
  have hk : (({ d with tarns := Table.put d.tarns q t } : Dev).keepMax (K.Q_PEAK q) t.count).get j = d.get j :=
    (Dev.keepMax_get _ _ _ _).trans (if_neg h1)
  split
  · exact (Dev.get_set_ne _ _ _ _ h2).trans hk
  · exact hk

/-- A settled queue: its banks with the swap of the next clock; no other queue changes. -/
theorem Dev.qSettle_tarn (d : Dev) (q : Nat) (t : Tarn) : (d.qSettle q t).1.tarns = Table.put d.tarns q (t.swap (d.qHalf q)) := by
  have h : ∀ e : Dev, ∀ k v, (e.keepMax k v).tarns = e.tarns := by intro e k v; unfold Dev.keepMax; split <;> rfl
  unfold Dev.qSettle
  simp only
  split
  · show (Dev.keepMax _ _ _).tarns = _
    rw [h]
  · rw [h]

theorem Dev.qSettle_tarn_ne (d : Dev) (q : Nat) (t : Tarn) (o : Nat) (ho : o ≠ q) : (d.qSettle q t).1.tarn o = d.tarn o := by
  simp only [Dev.tarn, Dev.qSettle_tarn, Table.at_put_ne _ _ _ _ _ ho]

/-- A queue with no Weir set crosses none (R247). -/
theorem Dev.qSettle_quiet (d : Dev) (q : Nat) (t : Tarn) (h : d.get (K.Q_WEIR q) = 0) : (d.qSettle q t).2 = false := by
  unfold Dev.qSettle
  simp only
  generalize Tarn.swap (d.qHalf q) t = t
  have hne : K.Q_WEIR q ≠ K.Q_PEAK q := by simp only [K.Q_WEIR, K.Q_PEAK]; omega
  have hk : (({ d with tarns := Table.put d.tarns q t } : Dev).keepMax (K.Q_PEAK q) t.count).get (K.Q_WEIR q) = 0 :=
    ((Dev.keepMax_get _ _ _ _).trans (if_neg hne)).trans h
  simp [hk]

theorem Dev.qWrite_shape (d : Dev) (q : Nat) (l : List (Nat × Bool)) :
    ∃ o t, (d.qWrite q l).1 = { d with objs := o, tarns := t } := d.qSettle_shape q _

theorem Dev.qWrite_get_ne (d : Dev) (q : Nat) (l : List (Nat × Bool)) (j : Nat) (h1 : j ≠ K.Q_PEAK q) (h2 : j ≠ K.Q_STICKY q) :
    (d.qWrite q l).1.get j = d.get j := d.qSettle_get_ne q _ j h1 h2

/-- Raising an event writes objects, the notice buffer and the queue it is delivered to, and nothing else. -/
theorem raiseN_shape (fuel : Nat) : ∀ (d : Dev) (e c i : Nat) (force : Bool),
    ∃ o f n t, raiseN fuel d e c i force = { d with objs := o, fresh := f, notices := n, tarns := t } := by
  induction fuel with
  | zero => intro d e c i force; exact ⟨d.objs, d.fresh, d.notices, d.tarns, rfl⟩
  | succ fuel ih =>
    intro d e c i force
    unfold raiseN
    simp only
    have hs : ∃ o, (d.setB (K.EVT_STATUS (e / 64)) (e % 64) true).bumpSat (K.EVT_COUNT e) = { d with objs := o } := ⟨_, rfl⟩
    obtain ⟨o0, h0⟩ := hs
    rw [h0]
    split
    · split
      · obtain ⟨o, f, n, h⟩ := Dev.notice_shape ({ d with objs := o0 } : Dev) (bits (Dev.get { d with objs := o0 } (K.EVT_ROUTE e)) 0 6) e c i
        exact ⟨o, f, n, d.tarns, h⟩
      · split
        · split
          · have hq := Dev.qWrite_shape ({ d with objs := o0 } : Dev)
              (Dev.get { d with objs := o0 } (K.EVT_CLUSTER_Q (bits (Dev.get { d with objs := o0 } (K.EVT_ROUTE e)) 0 6 % 4)))
              (packetOf (noticeRaw e c i 0 (Dev.tb0 { d with objs := o0 })) 4)
            obtain ⟨o1, t1, h1⟩ := hq
            rw [h1]
            split
            · obtain ⟨o2, f2, n2, t2, h2⟩ := ih ({ d with objs := o1, tarns := t1 } : Dev)
                (272 + (Dev.get { d with objs := o0 } (K.EVT_CLUSTER_Q (bits (Dev.get { d with objs := o0 } (K.EVT_ROUTE e)) 0 6 % 4))) / 16) 1
                (Dev.get { d with objs := o0 } (K.EVT_CLUSTER_Q (bits (Dev.get { d with objs := o0 } (K.EVT_ROUTE e)) 0 6 % 4))) false
              exact ⟨o2, f2, n2, t2, h2⟩
            · exact ⟨o1, d.fresh, d.notices, t1, rfl⟩
          · obtain ⟨o, f, h⟩ := ({ d with objs := o0 } : Dev).bump_shape K.ROUTE_DROPS
            exact ⟨o, f, d.notices, d.tarns, h⟩
        · split
          · obtain ⟨o, f, n, h⟩ := Dev.notice_shape ({ d with objs := o0 } : Dev) 0 e c i
            exact ⟨o, f, n, d.tarns, h⟩
          · exact ⟨o0, d.fresh, d.notices, d.tarns, rfl⟩
    · exact ⟨o0, d.fresh, d.notices, d.tarns, rfl⟩

/-- Raising an event leaves every object alone but those of `eventKey`. -/
theorem raiseN_get_ne (fuel : Nat) : ∀ (d : Dev) (e c i : Nat) (force : Bool) (j : Nat), e < 320 → ¬eventKey j →
    (raiseN fuel d e c i force).get j = d.get j := by
  induction fuel with
  | zero => intro d e c i force j _ _; rfl
  | succ fuel ih =>
    intro d e c i force j he hj
    have h1 : j ≠ K.EVT_STATUS (e / 64) := fun x => hj (by subst x; left; simp only [K.EVT_STATUS]; omega)
    have h2 : j ≠ K.EVT_COUNT e := fun x => hj (by subst x; right; left; simp only [K.EVT_COUNT]; omega)
    have h3 : j ≠ K.ROUTE_DROPS := fun x => hj (by simp [eventKey, x])
    have hd : ((d.setB (K.EVT_STATUS (e / 64)) (e % 64) true).bumpSat (K.EVT_COUNT e)).get j = d.get j := by
      rw [Dev.bumpSat_get, if_neg h2]; exact Dev.get_set_ne _ _ _ _ h1
    unfold raiseN
    simp only
    split
    · split
      · rw [Dev.notice_get_ne _ _ _ _ _ _ hj, hd]
      · split
        · split
          · rename_i hq
            generalize hQ : Dev.get ((d.setB (K.EVT_STATUS (e / 64)) (e % 64) true).bumpSat (K.EVT_COUNT e)) (K.EVT_CLUSTER_Q _) = q at hq ⊢
            have h4 : j ≠ K.Q_PEAK q := fun x => hj (by subst x; right; right; right; right; right; simp only [K.Q_PEAK]; omega)
            have h5 : j ≠ K.Q_STICKY q := fun x => hj (by subst x; right; right; right; right; right; simp only [K.Q_STICKY]; omega)
            split
            · rw [ih _ _ _ _ _ _ (by omega) hj, Dev.qWrite_get_ne _ _ _ _ h4 h5, hd]
            · rw [Dev.qWrite_get_ne _ _ _ _ h4 h5, hd]
          · rw [Dev.bump_get_ne _ _ _ h3, hd]
        · split
          · rw [Dev.notice_get_ne _ _ _ _ _ _ hj, hd]
          · exact hd
    · exact hd

theorem Dev.event_shape (d : Dev) (e c i : Nat) : ∃ o f n t, d.event e c i = { d with objs := o, fresh := f, notices := n, tarns := t } :=
  raiseN_shape 257 d e c i false

theorem Dev.event_get_ne (d : Dev) (e c i j : Nat) (he : e < 320) (h : ¬eventKey j) : (d.event e c i).get j = d.get j :=
  raiseN_get_ne 257 d e c i false j he h

/-- A queue written or read by hardware or software: its own objects, events, and its banks (R247). -/
theorem Dev.qPlace_shape (d : Dev) (q : Nat) (x : Tarn) :
    ∃ o f n t, d.qPlace q x = { d with objs := o, fresh := f, notices := n, tarns := t } := by
  unfold Dev.qPlace
  obtain ⟨o, t, h⟩ := d.qSettle_shape q x
  simp only [h]
  split
  · obtain ⟨o1, f1, n1, t1, h1⟩ := Dev.event_shape ({ d with objs := o, tarns := t } : Dev) (272 + q / 16) 1 q
    exact ⟨o1, f1, n1, t1, h1⟩
  · exact ⟨o, d.fresh, d.notices, t, rfl⟩

/-- With no Weir set, a placed queue holds the words given, and no other queue changes. -/
theorem Dev.qPlace_words (d : Dev) (q : Nat) (x : Tarn) (h : d.get (K.Q_WEIR q) = 0) :
    ((d.qPlace q x).tarn q).words = x.words ∧ ∀ o, o ≠ q → (d.qPlace q x).tarn o = d.tarn o := by
  unfold Dev.qPlace
  simp only [d.qSettle_quiet q x h]
  refine ⟨?_, fun o ho => d.qSettle_tarn_ne q x o ho⟩
  simp [Dev.tarn, Dev.qSettle_tarn]

theorem Dev.qPut_shape (d : Dev) (q : Nat) (l : List (Nat × Bool)) :
    ∃ o f n t, d.qPut q l = { d with objs := o, fresh := f, notices := n, tarns := t } := d.qPlace_shape q _

/-- With no Weir set, the words of a written queue are those it held and then the new ones (R239, R247). -/
theorem Dev.qPut_words (d : Dev) (q : Nat) (l : List (Nat × Bool)) (h : d.get (K.Q_WEIR q) = 0) :
    ((d.qPut q l).tarn q).words = (d.tarn q).words ++ l ∧ ∀ o, o ≠ q → (d.qPut q l).tarn o = d.tarn o := by
  refine ⟨(d.qPlace_words q _ h).1.trans ?_, (d.qPlace_words q _ h).2⟩
  simp [Tarn.words, Tarn.held]

/-- Taking words leaves the others in their order, with no Weir set. -/
theorem Dev.qTake_words (d : Dev) (q n : Nat) (h : d.get (K.Q_WEIR q) = 0) :
    ((d.qTake q n).tarn q).words = (d.tarn q).words.drop n := by
  refine (d.qPlace_words q _ h).1.trans ?_
  simp [Tarn.words, Tarn.held, Tarn.count, List.drop_append, Nat.sub_sub]

end Sys2Proof.Machine
end

