-- ==== Sys2Proof/Laws/Exec.lean ====
section
/-! SUPPORT. What the operand forms of the commands come to: a command of software that passes the checks of R278 does what
its own meaning says and is answered, or is refused by it; an event happens to its instance; and one step. -/

namespace Sys2Proof.Machine

/-! Out of reset. -/

theorem onDev_up {s : State} (h : s.up) (f : Memory → Dev → Dev) : onDev s f = .next (s.withDev (f s.mem s.dev)) := by
  have h' : s.dev.pwr.resetLow = false := h
  simp [onDev, h', State.withDev]

theorem onMemDev_up {s : State} (h : s.up) (f : Memory → Dev → Memory × Dev) :
    onMemDev s f = .next (s.withBoth (f s.mem s.dev)) := by
  have h' : s.dev.pwr.resetLow = false := h
  simp [onMemDev, h', State.withBoth]

theorem onLoad_up {s : State} (h : s.up) (f : Fuses → Memory → Dev → Memory × Dev) :
    onLoad s f = .next (s.withBoth (f s.fuses s.mem s.dev)) := by
  have h' : s.dev.pwr.resetLow = false := h
  simp [onLoad, h', State.withBoth]

/-- While RESET_N is low the forms of every command but those of the pins leave the state as it is. -/
theorem onDev_low {s : State} (h : s.dev.pwr.resetLow = true) (f : Memory → Dev → Dev) : onDev s f = .next s := by simp [onDev, h]
theorem onMemDev_low {s : State} (h : s.dev.pwr.resetLow = true) (f : Memory → Dev → Memory × Dev) : onMemDev s f = .next s := by
  simp [onMemDev, h]
theorem onLoad_low {s : State} (h : s.dev.pwr.resetLow = true) (f : Fuses → Memory → Dev → Memory × Dev) :
    onLoad s f = .next s := by simp [onLoad, h]
theorem onFuses_low {s : State} (h : s.dev.pwr.resetLow = true) (f : Fuses → Dev → Fuses × Dev) : onFuses s f = .next s := by
  simp [onFuses, h]
theorem onAll_low {s : State} (h : s.dev.pwr.resetLow = true) (f : Fuses → Memory → Dev → Fuses × Memory × Dev) :
    onAll s f = .next s := by simp [onAll, h]

/-! Events. -/

theorem happen_up {s : State} (h : s.up) (f : Dev → Dev) : happen s true f = .next (s.withDev (f s.dev)) := onDev_up h _
theorem happenDev_up {s : State} (h : s.up) (f : Memory → Dev → Dev) : happenDev s true f = .next (s.withDev (f s.mem s.dev)) :=
  onDev_up h _
theorem happenM_up {s : State} (h : s.up) (f : Memory → Dev → Memory × Dev) :
    happenM s true f = .next (s.withBoth (f s.mem s.dev)) := onMemDev_up h _

/-- An instance below its count exists. -/
theorem inst_true {n k : Nat} (h : n < k) : inst n k = true := by simp [inst, h]

/-! Requests (R289). -/

/-- A request of a port none of whose requests wait is served as it comes, unless a write it must follow waits (R12). -/
theorem taken_ready {s : State} {r : Req} {c : Instr} {type idx sub phase : Nat} {run : State → Host.Outcome State Fault Refusal}
    (h : s.ready r) (hb : s.dev.behind c = false) : taken s r c type idx sub run phase = run s := by
  obtain ⟨h1, h2, h3⟩ := h
  have h1' : s.dev.pwr.resetLow = false := h1
  simp [taken, h1', h2, h3, hb]

/-- A port with 32 requests outstanding is answered BUSY. -/
theorem taken_busy {s : State} {r : Req} {c : Instr} {type idx sub phase : Nat} {run : State → Host.Outcome State Fault Refusal}
    (h : s.up) (ht : s.dev.turn = false) (ho : 32 ≤ s.dev.outstanding r.port) :
    taken s r c type idx sub run phase = .next (s.withDev (s.dev.refuse r type idx sub .busy phase)) := by
  have h1 : s.dev.pwr.resetLow = false := h
  simp [taken, h1, ht, ho, State.withDev]

/-- A request behind one that waits is held. -/
theorem taken_held {s : State} {r : Req} {c : Instr} {type idx sub phase : Nat} {run : State → Host.Outcome State Fault Refusal}
    (h : s.up) (ht : s.dev.turn = false) (ho : s.dev.outstanding r.port < 32)
    (hb : s.dev.outstanding r.port ≠ 0 ∨ s.dev.behind c = true) :
    taken s r c type idx sub run phase = .next (s.withDev { s.dev with held := s.dev.held ++ [(r.port, c)] }) := by
  have h1 : s.dev.pwr.resetLow = false := h
  simp [taken, h1, ht, Nat.not_le.mpr ho, hb, State.withDev]

/-- A held request runs in its turn. -/
theorem taken_turn {s : State} {r : Req} {c : Instr} {type idx sub phase : Nat} {run : State → Host.Outcome State Fault Refusal}
    (h : s.up) (ht : s.dev.turn = true) :
    taken s r c type idx sub run phase = run (s.withDev { s.dev with turn := false }) := by
  have h1 : s.dev.pwr.resetLow = false := h
  simp [taken, h1, ht, State.withDev]

theorem taken_low {s : State} {r : Req} {c : Instr} {type idx sub phase : Nat} {run : State → Host.Outcome State Fault Refusal}
    (h : s.dev.pwr.resetLow = true) : taken s r c type idx sub run phase = .next s := by simp [taken, h]

/-- Only a write of a power domain or of a rail follows another write (R12). -/
theorem behind_other {d : Dev} {r : Req} {idx sub len v : Nat} (h : idx < 0x0500 ∨ 0x056F < idx) :
    d.behind (.dictWrite r idx sub len v) = false := by
  have h1 : (decide (0x0500 ≤ idx) && decide (idx ≤ 0x0533)) = false := by
    rw [Bool.and_eq_false_iff, decide_eq_false_iff_not, decide_eq_false_iff_not]; omega
  have h2 : (decide (0x0550 ≤ idx) && decide (idx ≤ 0x056F)) = false := by
    rw [Bool.and_eq_false_iff, decide_eq_false_iff_not, decide_eq_false_iff_not]; omega
  simp [Dev.behind, h1, h2]

/-! Commands of software. -/

theorem send_ok {s : State} {r : Req} {key len v : Nat} {act : Dev → Except Abort Dev} {d : Dev} (h : s.admits r key len v)
    (ha : act s.dev = .ok d) : send s r true key len v act = .next (s.answer r key d) := by
  unfold send sendAs
  rw [taken_ready h.1 h.2.1, onDev_up h.1.1]
  simp [Dev.serve, h.2.2, ha, State.answer]

theorem send_error {s : State} {r : Req} {key len v : Nat} {act : Dev → Except Abort Dev} {a : Abort} (h : s.admits r key len v)
    (ha : act s.dev = .error a) : send s r true key len v act = .next (s.refusal r key a) := by
  unfold send sendAs
  rw [taken_ready h.1 h.2.1, onDev_up h.1.1]
  simp [Dev.serve, h.2.2, ha, State.refusal]

theorem sendM_ok {s : State} {r : Req} {key len v : Nat} {act : Memory → Dev → Except Abort (Memory × Dev)} {p : Memory × Dev}
    (h : s.admits r key len v) (ha : act s.mem s.dev = .ok p) : sendM s r true key len v act = .next (s.answerBoth r key p) := by
  unfold sendM
  rw [taken_ready h.1 h.2.1, onMemDev_up h.1.1]
  simp [serveM, h.2.2, ha, State.answerBoth]

theorem sendM_error {s : State} {r : Req} {key len v : Nat} {act : Memory → Dev → Except Abort (Memory × Dev)} {a : Abort}
    (h : s.admits r key len v) (ha : act s.mem s.dev = .error a) : sendM s r true key len v act = .next (s.refusal r key a) := by
  unfold sendM
  rw [taken_ready h.1 h.2.1, onMemDev_up h.1.1]
  simp [serveM, h.2.2, ha, State.refusal, State.withBoth, State.withDev]

/-- A command to an instance that does not exist is answered with NO_OBJECT. -/
theorem send_none {s : State} {r : Req} {key len v : Nat} {act : Dev → Except Abort Dev} (h : s.ready r)
    (hb : s.dev.behind (.dictWrite r (key / 256) (key % 256) len v) = false) :
    send s r false key len v act = .next (s.refusal r key .noObject) := by
  unfold send sendAs
  rw [taken_ready h hb]
  exact onDev_up h.1 _

/-- A command that fails a check of R278 is refused with it, whatever its own meaning. -/
theorem send_refused {s : State} {r : Req} {key len v : Nat} {act : Dev → Except Abort Dev} {a : Abort} (h : s.ready r)
    (hb : s.dev.behind (.dictWrite r (key / 256) (key % 256) len v) = false)
    (hp : s.dev.preWrite (key / 256) (key % 256) len v = some a) : send s r true key len v act = .next (s.refusal r key a) := by
  unfold send sendAs
  rw [taken_ready h hb, onDev_up h.1]
  simp [Dev.serve, hp, State.refusal]

/-- A device command answered keeps the memories and the fuses. -/
@[simp] theorem State.answer_mem (s : State) (r : Req) (key : Nat) (d : Dev) : (s.answer r key d).mem = s.mem := rfl
@[simp] theorem State.answer_fuses (s : State) (r : Req) (key : Nat) (d : Dev) : (s.answer r key d).fuses = s.fuses := rfl
@[simp] theorem State.answer_pending (s : State) (r : Req) (key : Nat) (d : Dev) : (s.answer r key d).pending = s.pending := rfl
@[simp] theorem State.refusal_mem (s : State) (r : Req) (key : Nat) (a : Abort) : (s.refusal r key a).mem = s.mem := rfl
@[simp] theorem State.refusal_fuses (s : State) (r : Req) (key : Nat) (a : Abort) : (s.refusal r key a).fuses = s.fuses := rfl
@[simp] theorem State.refusal_pending (s : State) (r : Req) (key : Nat) (a : Abort) : (s.refusal r key a).pending = s.pending := rfl
@[simp] theorem State.answerBoth_mem (s : State) (r : Req) (key : Nat) (p : Memory × Dev) : (s.answerBoth r key p).mem = p.1 := rfl

/-- An effect that did not change the memories is answered as a device command is. -/
@[simp] theorem State.answerBoth_same (s : State) (r : Req) (key : Nat) (d : Dev) :
    s.answerBoth r key (s.mem, d) = s.answer r key d := rfl

/-! One step. -/

theorem step_cons {s : State} {c : Instr} {rest : List Instr} (h : s.pending = c :: rest) :
    step s = exec c { s with pending := rest } := by simp [step, h]

theorem step_nil {s : State} (h : s.pending = []) (hh : s.dev.takeHeld = none) : step s = .next (s.withDev s.dev.tick) := by
  simp [step, h, hh, State.withDev]

theorem step_held {s : State} {c : Instr} {d : Dev} (h : s.pending = []) (hh : s.dev.takeHeld = some (c, d)) :
    step s = exec c (s.withDev d) := by
  simp [step, h, hh, State.withDev]

/-- What a step can do: run the front command without the queue, serve a held request, or let one clock pass. -/
theorem step_cases {s : State} {o : Host.Outcome State Fault Refusal} (h : step s = o) :
    (∃ c rest, s.pending = c :: rest ∧ o = exec c { s with pending := rest }) ∨
    (∃ c d, s.pending = [] ∧ s.dev.takeHeld = some (c, d) ∧ o = exec c (s.withDev d)) ∨
    (s.pending = [] ∧ s.dev.takeHeld = none ∧ o = .next (s.withDev s.dev.tick)) := by
  match hp : s.pending with
  | [] =>
    match hh : s.dev.takeHeld with
    | none => exact .inr (.inr ⟨rfl, rfl, h.symm.trans (step_nil hp hh)⟩)
    | some (c, d) => exact .inr (.inl ⟨c, d, rfl, rfl, h.symm.trans (step_held hp hh)⟩)
  | c :: rest => exact .inl ⟨c, rest, rfl, h.symm.trans (step_cons hp)⟩

end Sys2Proof.Machine
end

