-- ==== Sys2Proof/WellFormed.lean ====
section
/-! DEFINITION. Well-formed commands: every operand names something the block has (R10, R287, R289). A command that is not
well-formed is none of the block's: the model answers a request to an instance that does not exist with NO_OBJECT, and
nothing happens to one. -/

namespace Sys2Proof

/-- A request comes in on a Gwynter port from a node (R287, R289). -/
def Req.wf (r : Req) : Prop := r.port < 2 ∧ r.src < 63 ∧ r.tag < 256

/-- A frame is a header of 128 bits, 64-bit payload words, and a trailer word (R312, R313). -/
def Frame.wf (f : Frame) : Prop := f.head < 2 ^ 128 ∧ (∀ w ∈ f.body, w < 2 ^ 64) ∧ f.trail < 2 ^ 64

/-- A TIME frame comes in on a Gwynter port (R340). -/
def TimeMsg.wf (m : TimeMsg) : Prop := m.port < 2 ∧ m.frame.wf

/-- Well-formedness of each command. -/
def Instr.wf : Instr → Prop
  | .dictRead r index sub => r.wf ∧ index < 65536 ∧ sub < 256
  | .dictWrite r index sub len value => r.wf ∧ index < 65536 ∧ sub < 256 ∧ value < 2 ^ (8 * len)
  | .openWrite r index sub _ => r.wf ∧ index < 65536 ∧ sub < 256
  | .openRead r index sub _ => r.wf ∧ index < 65536 ∧ sub < 256
  | .data r index sub _ _ _ => r.wf ∧ index < 65536 ∧ sub < 256
  | .close r index sub => r.wf ∧ index < 65536 ∧ sub < 256
  | .cancel r index sub => r.wf ∧ index < 65536 ∧ sub < 256
  | .blockTimeout index sub => index < 65536 ∧ sub < 256
  | .bulkWrite r _ _ _ => r.wf
  | .bulkRead r _ _ => r.wf
  | .enumClear r => r.wf
  | .enumAssign r _ => r.wf
  | .transFrameReceived port f => port < 6 ∧ f.wf
  | .frameForward port => port < 6
  | .ackOnly port f => port < 6 ∧ f.wf
  | .replayTimeout port => port < 6
  | .pauseOn port => port < 6
  | .pauseOff port => port < 6
  | .noticeSend => True
  | .chipEnable r => r.wf
  | .chipDisable r => r.wf
  | .serviceEnter r => r.wf
  | .serviceExit r => r.wf
  | .resetNAssert => True
  | .resetNRelease _ => True
  | .reboot r => r.wf
  | .commitRollback r => r.wf
  | .flashBoot => True
  | .flashProgrammed => True
  | .pdOn r d => r.wf ∧ d < 52
  | .pdOff r d => r.wf ∧ d < 52
  | .domainRampDone d => d < 52
  | .domainRamp d => d < 52
  | .railCrossing rail level _ => rail < 8 ∧ level ≤ 4
  | .pwrWarnNChange _ => True
  | .shedLevelRise => True
  | .shedLevelFall => True
  | .adcCmd r _ => r.wf
  | .adcConverted _ => True
  | .railOn r rail => r.wf ∧ rail < 32
  | .railOff r rail => r.wf ∧ rail < 32
  | .railRead r rail => r.wf ∧ rail < 32
  | .railMvWrite r rail _ => r.wf ∧ rail < 32
  | .pmbusTransactionDone m _ _ _ _ _ => m < 2
  | .pmbAlert m => m < 2
  | .ssqRun r q => r.wf ∧ q < 16
  | .ssqStepDone q => q < 16
  | .waitUsExpiry q => q < 16
  | .waitBelowPoll q _ _ => q < 16
  | .spiXfer r p _ _ => r.wf ∧ p < 8
  | .wlRun r w => r.wf ∧ w < 16
  | .wlEntryDone w _ => w < 16
  | .refclkLost => True
  | .pllUnlock k => k < 4
  | .pllLock k => k < 5
  | .faultClear r _ _ => r.wf
  | .flogClear r => r.wf
  | .canaryToggle => True
  | .wdtExpiry => True
  | .hfRestartDone => True
  | .wndRun r => r.wf
  | .wndAbort r => r.wf
  | .safePoint => True
  | .winderHang => True
  | .thermTrackDue => True
  | .thermTrack _ => True
  | .laneAdapt lane _ _ _ => lane < 16
  | .shedSeq => True
  | .microNext ecc => ecc ≤ 2
  | .microJmp ecc => ecc ≤ 2
  | .microJcc ecc => ecc ≤ 2
  | .microCall ecc => ecc ≤ 2
  | .microRet ecc => ecc ≤ 2
  | .microSafe ecc => ecc ≤ 2
  | .microWaite ecc _ => ecc ≤ 2
  | .microLoop ecc => ecc ≤ 2
  | .microHalt ecc => ecc ≤ 2
  | .microTrap ecc => ecc ≤ 2
  | .seqArm r n => r.wf ∧ n < 64
  | .seqDisarm r n => r.wf ∧ n < 64
  | .seqStart r n => r.wf ∧ n < 64
  | .seqPause r n => r.wf ∧ n < 64
  | .seqResume r n => r.wf ∧ n < 64
  | .seqStop r n => r.wf ∧ n < 64
  | .seqJump r n => r.wf ∧ n < 64
  | .startInstant n => n < 64
  | .trigInEdge line _ => line < 8
  | .jumpRequestArrival n => n < 64
  | .vpIssue n _ => n < 64
  | .holdEnd n => n < 64
  | .vpRetire n _ => n < 64
  | .sitePark r m => r.wf ∧ m < 128
  | .siteMask r m => r.wf ∧ m < 128
  | .trigOutEnd line => line < 8
  | .lit n seam ecc => n < 64 ∧ seam < 16 ∧ ecc ≤ 2
  | .rep n seam ecc => n < 64 ∧ seam < 16 ∧ ecc ≤ 2
  | .dict n seam ecc => n < 64 ∧ seam < 16 ∧ ecc ≤ 2
  | .delta n seam ecc => n < 64 ∧ seam < 16 ∧ ecc ≤ 2
  | .scan n seam ecc => n < 64 ∧ seam < 16 ∧ ecc ≤ 2
  | .run n seam ecc => n < 64 ∧ seam < 16 ∧ ecc ≤ 2
  | .refillLines n w ecc => n < 64 ∧ w < 16 ∧ ecc ≤ 2
  | .tsetSeal r n _ => r.wf ∧ n < 64
  | .speTargetWrite r k _ => r.wf ∧ k < 8
  | .tmuStart r k => r.wf ∧ k < 4
  | .tmuAbort r k => r.wf ∧ k < 4
  | .tmuSample k _ => k < 4
  | .tmuTimeout k => k < 4
  | .armEpoch r => r.wf
  | .cancelEpoch r => r.wf
  | .syncInEpoch => True
  | .galTimed p _ f _ => p < 4 ∧ f.wf
  | .galSeq p r _ => p < 4 ∧ r.frame.wf
  | .nop h => h < 16
  | .halt h => h < 16
  | .jmp h => h < 16
  | .jfs h => h < 16
  | .jfc h => h < 16
  | .loop h => h < 16
  | .call h => h < 16
  | .ret h => h < 16
  | .ldi h => h < 16
  | .ldbl h => h < 16
  | .ldbh h => h < 16
  | .addi h => h < 16
  | .mov h => h < 16
  | .swapbg h => h < 16
  | .notbg h => h < 16
  | .setf h => h < 16
  | .clrf h => h < 16
  | .jrz h => h < 16
  | .jrnz h => h < 16
  | .jlt h => h < 16
  | .swxy h => h < 16
  | .wseg h => h < 16
  | .asyArm r u => r.wf ∧ u < 16
  | .asyDisarm r u => r.wf ∧ u < 16
  | .force r u => r.wf ∧ u < 16
  | .rearmEnd u => u < 16
  | .eviction u _ ecc => u < 16 ∧ ecc ≤ 2
  | .dwsStart r d => r.wf ∧ d < 4
  | .dwsAbort r d => r.wf ∧ d < 4
  | .dwsStepSeal d => d < 4
  | .clusterOffline r k => r.wf ∧ k < 4
  | .clusterOnline r k => r.wf ∧ k < 4
  | .graphStart r g => r.wf ∧ g < 64
  | .graphStop r g => r.wf ∧ g < 64
  | .graphDrain r g => r.wf ∧ g < 64
  | .inputRecord g k => g < 64 ∧ k < 4
  | .parcelWaitExpiry g _ => g < 64
  | .operationDispatch c => c < 16
  | .operationComplete c ecc _ _ => c < 16 ∧ ecc ≤ 2
  | .itemWrite g => g < 64
  | .opTimeout c => c < 16
  | .agePromotion _ => True
  | .streamBind r s => r.wf ∧ s < 32
  | .streamUnbind r s => r.wf ∧ s < 32
  | .qEnable r q => r.wf ∧ q < 256
  | .qDisable r q => r.wf ∧ q < 256
  | .qFlush r q => r.wf ∧ q < 256
  | .qPop r q => r.wf ∧ q < 256
  | .qPush r q _ => r.wf ∧ q < 256
  | .qPushEnd r q _ => r.wf ∧ q < 256
  | .qWeirWrite r q _ => r.wf ∧ q < 256
  | .stagingDeliver k => k < 4
  | .startEndAdmit k => k < 4
  | .sumpBind r x => r.wf ∧ x < 16
  | .sumpUnbind r x => r.wf ∧ x < 16
  | .sumpDrain x => x < 16
  | .sumpRdWrite r x _ => r.wf ∧ x < 16
  | .tramStart r c => r.wf ∧ c < 16
  | .tramRestart r c => r.wf ∧ c < 16
  | .tramAbort r c => r.wf ∧ c < 16
  | .descFetch c => c < 16
  | .descComplete c _ _ _ => c < 16
  | .ddrInit r => r.wf
  | .srEnter r => r.wf
  | .srExit r => r.wf
  | .release r => r.wf
  | .burstAdmit c port => c < 8 ∧ port < 6
  | .burstIssue c ecc => c < 8 ∧ ecc ≤ 2
  | .portAgeExpiry c port => c < 8 ∧ port < 5
  | .trefiTick c rank => c < 8 ∧ rank < 2
  | .refIssue c rank => c < 8 ∧ rank < 2
  | .scrubIntervalExpiry c ecc => c < 8 ∧ ecc ≤ 2
  | .alertN c _ _ => c < 8
  | .portEnable r p => r.wf ∧ p < 6
  | .portDisable r p => r.wf ∧ p < 6
  | .portRetrain r p => r.wf ∧ p < 6
  | .receiverDetect p _ => p < 6
  | .trainingFrame lane _ => lane < 16
  | .stageTimeout p => p < 6
  | .backoffExpiry p => p < 6
  | .capabilitiesFrame p _ => p < 6
  | .blockLockLost lane => lane < 16
  | .widthReq p _ => p < 6
  | .widthAck p _ => p < 6
  | .stabilityHoldEnd lane => lane < 16
  | .rejoinReq p _ => p < 6
  | .rejoinAck p _ => p < 6
  | .loopEnter r lane => r.wf ∧ lane < 16
  | .loopExit r lane => r.wf ∧ lane < 16
  | .eyeStart r lane => r.wf ∧ lane < 16
  | .eyeAbort r lane => r.wf ∧ lane < 16
  | .inject r lane => r.wf ∧ lane < 16
  | .eyePointDone lane _ => lane < 16
  | .periodicInject lane => lane < 16
  | .tbInit r b => r.wf ∧ (b = 0 ∨ b = 2 ∨ b = 3)
  | .tbStop r b => r.wf ∧ (b = 0 ∨ b = 2 ∨ b = 3)
  | .rateWrite r b _ => r.wf ∧ (b = 0 ∨ b = 2 ∨ b = 3)
  | .sync m => m.wf
  | .followUp m => m.wf
  | .delayReq m => m.wf
  | .delayResp m => m.wf
  | .mark port f _ _ => port < 2 ∧ f.wf
  | .tsMark r _ _ => r.wf
  | .tsqPop r _ => r.wf
  | .almArm r s => r.wf ∧ s < 32
  | .almDisarm r s => r.wf ∧ s < 32
  | .alarmFiring s => s < 32
  | .bistStart r => r.wf
  | .bistAbort r => r.wf
  | .bypass => True
  | .idcode => True
  | .samplePreload _ => True
  | .extest => True
  | .extestPulse => True
  | .extestTrain => True
  | .clamp => True
  | .highz => True
  | .laneLock lane => lane < 16
  | .tbusEdge line _ => line < 8
  | .prbsCheckerLock lane _ => lane < 16

end Sys2Proof
end

