-- ==== Sys2Proof/Laws/PerInstr.lean ====
section
/-! SUPPORT. What holds of every command as syntax: a well-formed command of software comes from a well-formed request and
writes an object whose key is a 16-bit index and an 8-bit subindex (R276, R287). One lemma per command. -/

namespace Sys2Proof.Laws.Operands
open Sys2Proof.Machine

set_option Elab.async false

/-- The request a well-formed command carries is well-formed, and the object it writes has a key of 24 bits. -/
def Statement (i : Instr) : Prop :=
  i.wf → ∀ r key len v, asWrite i = some (r, key, len, v) → r.wf ∧ key < 2 ^ 24

theorem dictRead (r : Req) (index sub : Nat) : Statement (.dictRead r index sub) := by
  intro _ r key len v h
  simp [asWrite] at h

theorem dictWrite (r : Req) (index sub len value : Nat) : Statement (.dictWrite r index sub len value) := by
  intro _ r key len v h
  simp [asWrite] at h

theorem openWrite (r : Req) (index sub total : Nat) : Statement (.openWrite r index sub total) := by
  intro _ r key len v h
  simp [asWrite] at h

theorem openRead (r : Req) (index sub len : Nat) : Statement (.openRead r index sub len) := by
  intro _ r key len v h
  simp [asWrite] at h

theorem data (r : Req) (index sub offset len : Nat) (payload : List Byte) : Statement (.data r index sub offset len payload) := by
  intro _ r key len v h
  simp [asWrite] at h

theorem close (r : Req) (index sub : Nat) : Statement (.close r index sub) := by
  intro _ r key len v h
  simp [asWrite] at h

theorem cancel (r : Req) (index sub : Nat) : Statement (.cancel r index sub) := by
  intro _ r key len v h
  simp [asWrite] at h

theorem blockTimeout (index sub : Nat) : Statement (.blockTimeout index sub) := by
  intro _ r key len v h
  simp [asWrite] at h

theorem bulkWrite (r : Req) (addr : Nat) (posted : Bool) (payload : List Byte) : Statement (.bulkWrite r addr posted payload) := by
  intro _ r key len v h
  simp [asWrite] at h

theorem bulkRead (r : Req) (addr len : Nat) : Statement (.bulkRead r addr len) := by
  intro _ r key len v h
  simp [asWrite] at h

theorem enumClear (r : Req) : Statement (.enumClear r) := by
  intro _ r key len v h
  simp [asWrite] at h

theorem enumAssign (r : Req) (nextId : Nat) : Statement (.enumAssign r nextId) := by
  intro _ r key len v h
  simp [asWrite] at h

theorem transFrameReceived (port : Nat) (f : Frame) : Statement (.transFrameReceived port f) := by
  intro _ r key len v h
  simp [asWrite] at h

theorem frameForward (port : Nat) : Statement (.frameForward port) := by
  intro _ r key len v h
  simp [asWrite] at h

theorem ackOnly (port : Nat) (f : Frame) : Statement (.ackOnly port f) := by
  intro _ r key len v h
  simp [asWrite] at h

theorem replayTimeout (port : Nat) : Statement (.replayTimeout port) := by
  intro _ r key len v h
  simp [asWrite] at h

theorem pauseOn (port : Nat) : Statement (.pauseOn port) := by
  intro _ r key len v h
  simp [asWrite] at h

theorem pauseOff (port : Nat) : Statement (.pauseOff port) := by
  intro _ r key len v h
  simp [asWrite] at h

theorem noticeSend  : Statement (.noticeSend) := by
  intro _ r key len v h
  simp [asWrite] at h

theorem chipEnable (r : Req) : Statement (.chipEnable r) := by
  intro w r key len v h
  simp [asWrite] at h
  obtain ⟨rfl, rfl, -⟩ := h
  exact ⟨w, by simp [K.CHIP_CMD]⟩

theorem chipDisable (r : Req) : Statement (.chipDisable r) := by
  intro w r key len v h
  simp [asWrite] at h
  obtain ⟨rfl, rfl, -⟩ := h
  exact ⟨w, by simp [K.CHIP_CMD]⟩

theorem serviceEnter (r : Req) : Statement (.serviceEnter r) := by
  intro w r key len v h
  simp [asWrite] at h
  obtain ⟨rfl, rfl, -⟩ := h
  exact ⟨w, by simp [K.CHIP_CMD]⟩

theorem serviceExit (r : Req) : Statement (.serviceExit r) := by
  intro w r key len v h
  simp [asWrite] at h
  obtain ⟨rfl, rfl, -⟩ := h
  exact ⟨w, by simp [K.CHIP_CMD]⟩

theorem resetNAssert  : Statement (.resetNAssert) := by
  intro _ r key len v h
  simp [asWrite] at h

theorem resetNRelease (bootMode : Nat) : Statement (.resetNRelease bootMode) := by
  intro _ r key len v h
  simp [asWrite] at h

theorem reboot (r : Req) : Statement (.reboot r) := by
  intro w r key len v h
  simp [asWrite] at h
  obtain ⟨rfl, rfl, -⟩ := h
  exact ⟨w, by simp [K.BOOT_CMD]⟩

theorem commitRollback (r : Req) : Statement (.commitRollback r) := by
  intro w r key len v h
  simp [asWrite] at h
  obtain ⟨rfl, rfl, -⟩ := h
  exact ⟨w, by simp [K.BOOT_CMD]⟩

theorem flashBoot  : Statement (.flashBoot) := by
  intro _ r key len v h
  simp [asWrite] at h

theorem flashProgrammed  : Statement (.flashProgrammed) := by
  intro _ r key len v h
  simp [asWrite] at h

theorem pdOn (r : Req) (d : Nat) : Statement (.pdOn r d) := by
  intro w r key len v h
  simp [asWrite] at h
  obtain ⟨-, rfl, rfl, -⟩ := h
  obtain ⟨w1, w2⟩ := w
  exact ⟨w1, by simp [K.PD_CMD]; omega⟩

theorem pdOff (r : Req) (d : Nat) : Statement (.pdOff r d) := by
  intro w r key len v h
  simp [asWrite] at h
  obtain ⟨-, rfl, rfl, -⟩ := h
  obtain ⟨w1, w2⟩ := w
  exact ⟨w1, by simp [K.PD_CMD]; omega⟩

theorem domainRampDone (d : Nat) : Statement (.domainRampDone d) := by
  intro _ r key len v h
  simp [asWrite] at h

theorem domainRamp (d : Nat) : Statement (.domainRamp d) := by
  intro _ r key len v h
  simp [asWrite] at h

theorem railCrossing (rail level : Nat) (below : Bool) : Statement (.railCrossing rail level below) := by
  intro _ r key len v h
  simp [asWrite] at h

theorem pwrWarnNChange (low : Bool) : Statement (.pwrWarnNChange low) := by
  intro _ r key len v h
  simp [asWrite] at h

theorem shedLevelRise  : Statement (.shedLevelRise) := by
  intro _ r key len v h
  simp [asWrite] at h

theorem shedLevelFall  : Statement (.shedLevelFall) := by
  intro _ r key len v h
  simp [asWrite] at h

theorem adcCmd (r : Req) (mask : Nat) : Statement (.adcCmd r mask) := by
  intro w r key len v h
  simp [asWrite] at h
  obtain ⟨rfl, rfl, -⟩ := h
  exact ⟨w, by simp [K.ADC_CMD]⟩

theorem adcConverted (code : Nat) : Statement (.adcConverted code) := by
  intro _ r key len v h
  simp [asWrite] at h

theorem railOn (r : Req) (rail : Nat) : Statement (.railOn r rail) := by
  intro w r key len v h
  simp [asWrite] at h
  obtain ⟨-, rfl, rfl, -⟩ := h
  obtain ⟨w1, w2⟩ := w
  exact ⟨w1, by simp [K.RAIL_CMD]; omega⟩

theorem railOff (r : Req) (rail : Nat) : Statement (.railOff r rail) := by
  intro w r key len v h
  simp [asWrite] at h
  obtain ⟨-, rfl, rfl, -⟩ := h
  obtain ⟨w1, w2⟩ := w
  exact ⟨w1, by simp [K.RAIL_CMD]; omega⟩

theorem railRead (r : Req) (rail : Nat) : Statement (.railRead r rail) := by
  intro w r key len v h
  simp [asWrite] at h
  obtain ⟨-, rfl, rfl, -⟩ := h
  obtain ⟨w1, w2⟩ := w
  exact ⟨w1, by simp [K.RAIL_CMD]; omega⟩

theorem railMvWrite (r : Req) (rail mv : Nat) : Statement (.railMvWrite r rail mv) := by
  intro w r key len v h
  simp [asWrite] at h
  obtain ⟨-, rfl, rfl, -⟩ := h
  obtain ⟨w1, w2⟩ := w
  exact ⟨w1, by simp [K.RAIL_MV]; omega⟩

theorem pmbusTransactionDone (m : Nat) (acked linear16 : Bool) (vout iout status : Nat) : Statement (.pmbusTransactionDone m acked linear16 vout iout status) := by
  intro _ r key len v h
  simp [asWrite] at h

theorem pmbAlert (m : Nat) : Statement (.pmbAlert m) := by
  intro _ r key len v h
  simp [asWrite] at h

theorem ssqRun (r : Req) (q : Nat) : Statement (.ssqRun r q) := by
  intro w r key len v h
  simp [asWrite] at h
  obtain ⟨-, rfl, rfl, -⟩ := h
  obtain ⟨w1, w2⟩ := w
  exact ⟨w1, by simp [K.SSQ_CMD]; omega⟩

theorem ssqStepDone (q : Nat) : Statement (.ssqStepDone q) := by
  intro _ r key len v h
  simp [asWrite] at h

theorem waitUsExpiry (q : Nat) : Statement (.waitUsExpiry q) := by
  intro _ r key len v h
  simp [asWrite] at h

theorem waitBelowPoll (q mv : Nat) (expired : Bool) : Statement (.waitBelowPoll q mv expired) := by
  intro _ r key len v h
  simp [asWrite] at h

theorem spiXfer (r : Req) (p value rx : Nat) : Statement (.spiXfer r p value rx) := by
  intro _ r key len v h
  simp [asWrite] at h

theorem wlRun (r : Req) (w : Nat) : Statement (.wlRun r w) := by
  intro w r key len v h
  simp [asWrite] at h
  obtain ⟨-, rfl, rfl, -⟩ := h
  obtain ⟨w1, w2⟩ := w
  exact ⟨w1, by simp [K.WL_CMD]; omega⟩

theorem wlEntryDone (w rx : Nat) : Statement (.wlEntryDone w rx) := by
  intro _ r key len v h
  simp [asWrite] at h

theorem refclkLost  : Statement (.refclkLost) := by
  intro _ r key len v h
  simp [asWrite] at h

theorem pllUnlock (k : Nat) : Statement (.pllUnlock k) := by
  intro _ r key len v h
  simp [asWrite] at h

theorem pllLock (k : Nat) : Statement (.pllLock k) := by
  intro _ r key len v h
  simp [asWrite] at h

theorem faultClear (r : Req) (value : Nat) (reads : List (Nat × Option Nat)) : Statement (.faultClear r value reads) := by
  intro _ r key len v h
  simp [asWrite] at h

theorem flogClear (r : Req) : Statement (.flogClear r) := by
  intro w r key len v h
  simp [asWrite] at h
  obtain ⟨rfl, rfl, -⟩ := h
  exact ⟨w, by simp [K.FLOG_CMD]⟩

theorem canaryToggle  : Statement (.canaryToggle) := by
  intro _ r key len v h
  simp [asWrite] at h

theorem wdtExpiry  : Statement (.wdtExpiry) := by
  intro _ r key len v h
  simp [asWrite] at h

theorem hfRestartDone  : Statement (.hfRestartDone) := by
  intro _ r key len v h
  simp [asWrite] at h

theorem wndRun (r : Req) : Statement (.wndRun r) := by
  intro w r key len v h
  simp [asWrite] at h
  obtain ⟨rfl, rfl, -⟩ := h
  exact ⟨w, by simp [K.WND_CMD]⟩

theorem wndAbort (r : Req) : Statement (.wndAbort r) := by
  intro w r key len v h
  simp [asWrite] at h
  obtain ⟨rfl, rfl, -⟩ := h
  exact ⟨w, by simp [K.WND_CMD]⟩

theorem safePoint  : Statement (.safePoint) := by
  intro _ r key len v h
  simp [asWrite] at h

theorem winderHang  : Statement (.winderHang) := by
  intro _ r key len v h
  simp [asWrite] at h

theorem thermTrackDue  : Statement (.thermTrackDue) := by
  intro _ r key len v h
  simp [asWrite] at h

theorem thermTrack (temps : List Nat) : Statement (.thermTrack temps) := by
  intro _ r key len v h
  simp [asWrite] at h

theorem laneAdapt (lane preReq postReq presetReq : Nat) : Statement (.laneAdapt lane preReq postReq presetReq) := by
  intro _ r key len v h
  simp [asWrite] at h

theorem shedSeq  : Statement (.shedSeq) := by
  intro _ r key len v h
  simp [asWrite] at h

theorem microNext (ecc : Nat) : Statement (.microNext ecc) := by
  intro _ r key len v h
  simp [asWrite] at h

theorem microJmp (ecc : Nat) : Statement (.microJmp ecc) := by
  intro _ r key len v h
  simp [asWrite] at h

theorem microJcc (ecc : Nat) : Statement (.microJcc ecc) := by
  intro _ r key len v h
  simp [asWrite] at h

theorem microCall (ecc : Nat) : Statement (.microCall ecc) := by
  intro _ r key len v h
  simp [asWrite] at h

theorem microRet (ecc : Nat) : Statement (.microRet ecc) := by
  intro _ r key len v h
  simp [asWrite] at h

theorem microSafe (ecc : Nat) : Statement (.microSafe ecc) := by
  intro _ r key len v h
  simp [asWrite] at h

theorem microWaite (ecc : Nat) (done : Bool) : Statement (.microWaite ecc done) := by
  intro _ r key len v h
  simp [asWrite] at h

theorem microLoop (ecc : Nat) : Statement (.microLoop ecc) := by
  intro _ r key len v h
  simp [asWrite] at h

theorem microHalt (ecc : Nat) : Statement (.microHalt ecc) := by
  intro _ r key len v h
  simp [asWrite] at h

theorem microTrap (ecc : Nat) : Statement (.microTrap ecc) := by
  intro _ r key len v h
  simp [asWrite] at h

theorem seqArm (r : Req) (n : Nat) : Statement (.seqArm r n) := by
  intro w r key len v h
  simp [asWrite] at h
  obtain ⟨-, rfl, rfl, -⟩ := h
  obtain ⟨w1, w2⟩ := w
  exact ⟨w1, by simp [K.SEQ_CMD]; omega⟩

theorem seqDisarm (r : Req) (n : Nat) : Statement (.seqDisarm r n) := by
  intro w r key len v h
  simp [asWrite] at h
  obtain ⟨-, rfl, rfl, -⟩ := h
  obtain ⟨w1, w2⟩ := w
  exact ⟨w1, by simp [K.SEQ_CMD]; omega⟩

theorem seqStart (r : Req) (n : Nat) : Statement (.seqStart r n) := by
  intro w r key len v h
  simp [asWrite] at h
  obtain ⟨-, rfl, rfl, -⟩ := h
  obtain ⟨w1, w2⟩ := w
  exact ⟨w1, by simp [K.SEQ_CMD]; omega⟩

theorem seqPause (r : Req) (n : Nat) : Statement (.seqPause r n) := by
  intro w r key len v h
  simp [asWrite] at h
  obtain ⟨-, rfl, rfl, -⟩ := h
  obtain ⟨w1, w2⟩ := w
  exact ⟨w1, by simp [K.SEQ_CMD]; omega⟩

theorem seqResume (r : Req) (n : Nat) : Statement (.seqResume r n) := by
  intro w r key len v h
  simp [asWrite] at h
  obtain ⟨-, rfl, rfl, -⟩ := h
  obtain ⟨w1, w2⟩ := w
  exact ⟨w1, by simp [K.SEQ_CMD]; omega⟩

theorem seqStop (r : Req) (n : Nat) : Statement (.seqStop r n) := by
  intro w r key len v h
  simp [asWrite] at h
  obtain ⟨-, rfl, rfl, -⟩ := h
  obtain ⟨w1, w2⟩ := w
  exact ⟨w1, by simp [K.SEQ_CMD]; omega⟩

theorem seqJump (r : Req) (n : Nat) : Statement (.seqJump r n) := by
  intro w r key len v h
  simp [asWrite] at h
  obtain ⟨-, rfl, rfl, -⟩ := h
  obtain ⟨w1, w2⟩ := w
  exact ⟨w1, by simp [K.SEQ_CMD]; omega⟩

theorem startInstant (n : Nat) : Statement (.startInstant n) := by
  intro _ r key len v h
  simp [asWrite] at h

theorem trigInEdge (line : Nat) (rising : Bool) : Statement (.trigInEdge line rising) := by
  intro _ r key len v h
  simp [asWrite] at h

theorem jumpRequestArrival (n : Nat) : Statement (.jumpRequestArrival n) := by
  intro _ r key len v h
  simp [asWrite] at h

theorem vpIssue (n : Nat) (samples : List Sample) : Statement (.vpIssue n samples) := by
  intro _ r key len v h
  simp [asWrite] at h

theorem holdEnd (n : Nat) : Statement (.holdEnd n) := by
  intro _ r key len v h
  simp [asWrite] at h

theorem vpRetire (n : Nat) (late : List Nat) : Statement (.vpRetire n late) := by
  intro _ r key len v h
  simp [asWrite] at h

theorem sitePark (r : Req) (m : Nat) : Statement (.sitePark r m) := by
  intro w r key len v h
  simp [asWrite] at h
  obtain ⟨-, rfl, rfl, -⟩ := h
  obtain ⟨w1, w2⟩ := w
  exact ⟨w1, by simp [K.SITE_CMD]; omega⟩

theorem siteMask (r : Req) (m : Nat) : Statement (.siteMask r m) := by
  intro w r key len v h
  simp [asWrite] at h
  obtain ⟨-, rfl, rfl, -⟩ := h
  obtain ⟨w1, w2⟩ := w
  exact ⟨w1, by simp [K.SITE_CMD]; omega⟩

theorem trigOutEnd (line : Nat) : Statement (.trigOutEnd line) := by
  intro _ r key len v h
  simp [asWrite] at h

theorem lit (n seam ecc : Nat) : Statement (.lit n seam ecc) := by
  intro _ r key len v h
  simp [asWrite] at h

theorem rep (n seam ecc : Nat) : Statement (.rep n seam ecc) := by
  intro _ r key len v h
  simp [asWrite] at h

theorem dict (n seam ecc : Nat) : Statement (.dict n seam ecc) := by
  intro _ r key len v h
  simp [asWrite] at h

theorem delta (n seam ecc : Nat) : Statement (.delta n seam ecc) := by
  intro _ r key len v h
  simp [asWrite] at h

theorem scan (n seam ecc : Nat) : Statement (.scan n seam ecc) := by
  intro _ r key len v h
  simp [asWrite] at h

theorem run (n seam ecc : Nat) : Statement (.run n seam ecc) := by
  intro _ r key len v h
  simp [asWrite] at h

theorem refillLines (n w ecc : Nat) : Statement (.refillLines n w ecc) := by
  intro _ r key len v h
  simp [asWrite] at h

theorem tsetSeal (r : Req) (n mask : Nat) : Statement (.tsetSeal r n mask) := by
  intro w r key len v h
  simp [asWrite] at h
  obtain ⟨-, rfl, rfl, -⟩ := h
  obtain ⟨w1, w2⟩ := w
  exact ⟨w1, by simp [K.TSET_SEAL]; omega⟩

theorem speTargetWrite (r : Req) (k value : Nat) : Statement (.speTargetWrite r k value) := by
  intro w r key len v h
  simp [asWrite] at h
  obtain ⟨-, rfl, rfl, -⟩ := h
  obtain ⟨w1, w2⟩ := w
  exact ⟨w1, by simp [K.SPE_TARGET]; omega⟩

theorem tmuStart (r : Req) (k : Nat) : Statement (.tmuStart r k) := by
  intro w r key len v h
  simp [asWrite] at h
  obtain ⟨-, rfl, rfl, -⟩ := h
  obtain ⟨w1, w2⟩ := w
  exact ⟨w1, by simp [K.TMU_CMD]; omega⟩

theorem tmuAbort (r : Req) (k : Nat) : Statement (.tmuAbort r k) := by
  intro w r key len v h
  simp [asWrite] at h
  obtain ⟨-, rfl, rfl, -⟩ := h
  obtain ⟨w1, w2⟩ := w
  exact ⟨w1, by simp [K.TMU_CMD]; omega⟩

theorem tmuSample (k interval : Nat) : Statement (.tmuSample k interval) := by
  intro _ r key len v h
  simp [asWrite] at h

theorem tmuTimeout (k : Nat) : Statement (.tmuTimeout k) := by
  intro _ r key len v h
  simp [asWrite] at h

theorem armEpoch (r : Req) : Statement (.armEpoch r) := by
  intro w r key len v h
  simp [asWrite] at h
  obtain ⟨rfl, rfl, -⟩ := h
  exact ⟨w, by simp [K.SYNC_CMD]⟩

theorem cancelEpoch (r : Req) : Statement (.cancelEpoch r) := by
  intro w r key len v h
  simp [asWrite] at h
  obtain ⟨rfl, rfl, -⟩ := h
  exact ⟨w, by simp [K.SYNC_CMD]⟩

theorem syncInEpoch  : Statement (.syncInEpoch) := by
  intro _ r key len v h
  simp [asWrite] at h

theorem galTimed (p hops : Nat) (fr : Frame) (f : GalTimed) : Statement (.galTimed p hops fr f) := by
  intro _ r key len v h
  simp [asWrite] at h

theorem galSeq (p : Nat) (r : Relayed) (f : GalSeq) : Statement (.galSeq p r f) := by
  intro _ r key len v h
  simp [asWrite] at h

theorem nop (h : Nat) : Statement (.nop h) := by
  intro _ r key len v h
  simp [asWrite] at h

theorem halt (h : Nat) : Statement (.halt h) := by
  intro _ r key len v h
  simp [asWrite] at h

theorem jmp (h : Nat) : Statement (.jmp h) := by
  intro _ r key len v h
  simp [asWrite] at h

theorem jfs (h : Nat) : Statement (.jfs h) := by
  intro _ r key len v h
  simp [asWrite] at h

theorem jfc (h : Nat) : Statement (.jfc h) := by
  intro _ r key len v h
  simp [asWrite] at h

theorem loop (h : Nat) : Statement (.loop h) := by
  intro _ r key len v h
  simp [asWrite] at h

theorem call (h : Nat) : Statement (.call h) := by
  intro _ r key len v h
  simp [asWrite] at h

theorem ret (h : Nat) : Statement (.ret h) := by
  intro _ r key len v h
  simp [asWrite] at h

theorem ldi (h : Nat) : Statement (.ldi h) := by
  intro _ r key len v h
  simp [asWrite] at h

theorem ldbl (h : Nat) : Statement (.ldbl h) := by
  intro _ r key len v h
  simp [asWrite] at h

theorem ldbh (h : Nat) : Statement (.ldbh h) := by
  intro _ r key len v h
  simp [asWrite] at h

theorem addi (h : Nat) : Statement (.addi h) := by
  intro _ r key len v h
  simp [asWrite] at h

theorem mov (h : Nat) : Statement (.mov h) := by
  intro _ r key len v h
  simp [asWrite] at h

theorem swapbg (h : Nat) : Statement (.swapbg h) := by
  intro _ r key len v h
  simp [asWrite] at h

theorem notbg (h : Nat) : Statement (.notbg h) := by
  intro _ r key len v h
  simp [asWrite] at h

theorem setf (h : Nat) : Statement (.setf h) := by
  intro _ r key len v h
  simp [asWrite] at h

theorem clrf (h : Nat) : Statement (.clrf h) := by
  intro _ r key len v h
  simp [asWrite] at h

theorem jrz (h : Nat) : Statement (.jrz h) := by
  intro _ r key len v h
  simp [asWrite] at h

theorem jrnz (h : Nat) : Statement (.jrnz h) := by
  intro _ r key len v h
  simp [asWrite] at h

theorem jlt (h : Nat) : Statement (.jlt h) := by
  intro _ r key len v h
  simp [asWrite] at h

theorem swxy (h : Nat) : Statement (.swxy h) := by
  intro _ r key len v h
  simp [asWrite] at h

theorem wseg (h : Nat) : Statement (.wseg h) := by
  intro _ r key len v h
  simp [asWrite] at h

theorem asyArm (r : Req) (u : Nat) : Statement (.asyArm r u) := by
  intro w r key len v h
  simp [asWrite] at h
  obtain ⟨-, rfl, rfl, -⟩ := h
  obtain ⟨w1, w2⟩ := w
  exact ⟨w1, by simp [K.ASY_CMD]; omega⟩

theorem asyDisarm (r : Req) (u : Nat) : Statement (.asyDisarm r u) := by
  intro w r key len v h
  simp [asWrite] at h
  obtain ⟨-, rfl, rfl, -⟩ := h
  obtain ⟨w1, w2⟩ := w
  exact ⟨w1, by simp [K.ASY_CMD]; omega⟩

theorem force (r : Req) (u : Nat) : Statement (.force r u) := by
  intro w r key len v h
  simp [asWrite] at h
  obtain ⟨-, rfl, rfl, -⟩ := h
  obtain ⟨w1, w2⟩ := w
  exact ⟨w1, by simp [K.ASY_CMD]; omega⟩

theorem rearmEnd (u : Nat) : Statement (.rearmEnd u) := by
  intro _ r key len v h
  simp [asWrite] at h

theorem eviction (u bytes ecc : Nat) : Statement (.eviction u bytes ecc) := by
  intro _ r key len v h
  simp [asWrite] at h

theorem dwsStart (r : Req) (d : Nat) : Statement (.dwsStart r d) := by
  intro w r key len v h
  simp [asWrite] at h
  obtain ⟨-, rfl, rfl, -⟩ := h
  obtain ⟨w1, w2⟩ := w
  exact ⟨w1, by simp [K.DWS_CMD]; omega⟩

theorem dwsAbort (r : Req) (d : Nat) : Statement (.dwsAbort r d) := by
  intro w r key len v h
  simp [asWrite] at h
  obtain ⟨-, rfl, rfl, -⟩ := h
  obtain ⟨w1, w2⟩ := w
  exact ⟨w1, by simp [K.DWS_CMD]; omega⟩

theorem dwsStepSeal (d : Nat) : Statement (.dwsStepSeal d) := by
  intro _ r key len v h
  simp [asWrite] at h

theorem clusterOffline (r : Req) (k : Nat) : Statement (.clusterOffline r k) := by
  intro w r key len v h
  simp [asWrite] at h
  obtain ⟨-, rfl, rfl, -⟩ := h
  obtain ⟨w1, w2⟩ := w
  exact ⟨w1, by simp [K.CLUSTER_CMD]; omega⟩

theorem clusterOnline (r : Req) (k : Nat) : Statement (.clusterOnline r k) := by
  intro w r key len v h
  simp [asWrite] at h
  obtain ⟨-, rfl, rfl, -⟩ := h
  obtain ⟨w1, w2⟩ := w
  exact ⟨w1, by simp [K.CLUSTER_CMD]; omega⟩

theorem graphStart (r : Req) (g : Nat) : Statement (.graphStart r g) := by
  intro w r key len v h
  simp [asWrite] at h
  obtain ⟨-, rfl, rfl, -⟩ := h
  obtain ⟨w1, w2⟩ := w
  exact ⟨w1, by simp [K.GRAPH_CMD]; omega⟩

theorem graphStop (r : Req) (g : Nat) : Statement (.graphStop r g) := by
  intro w r key len v h
  simp [asWrite] at h
  obtain ⟨-, rfl, rfl, -⟩ := h
  obtain ⟨w1, w2⟩ := w
  exact ⟨w1, by simp [K.GRAPH_CMD]; omega⟩

theorem graphDrain (r : Req) (g : Nat) : Statement (.graphDrain r g) := by
  intro w r key len v h
  simp [asWrite] at h
  obtain ⟨-, rfl, rfl, -⟩ := h
  obtain ⟨w1, w2⟩ := w
  exact ⟨w1, by simp [K.GRAPH_CMD]; omega⟩

theorem inputRecord (g k : Nat) : Statement (.inputRecord g k) := by
  intro _ r key len v h
  simp [asWrite] at h

theorem parcelWaitExpiry (g inst : Nat) : Statement (.parcelWaitExpiry g inst) := by
  intro _ r key len v h
  simp [asWrite] at h

theorem operationDispatch (c : Nat) : Statement (.operationDispatch c) := by
  intro _ r key len v h
  simp [asWrite] at h

theorem operationComplete (c ecc : Nat) (trap : Bool) (kernel : List (List Nat)) : Statement (.operationComplete c ecc trap kernel) := by
  intro _ r key len v h
  simp [asWrite] at h

theorem itemWrite (g : Nat) : Statement (.itemWrite g) := by
  intro _ r key len v h
  simp [asWrite] at h

theorem opTimeout (c : Nat) : Statement (.opTimeout c) := by
  intro _ r key len v h
  simp [asWrite] at h

theorem agePromotion (op : Nat) : Statement (.agePromotion op) := by
  intro _ r key len v h
  simp [asWrite] at h

theorem streamBind (r : Req) (s : Nat) : Statement (.streamBind r s) := by
  intro w r key len v h
  simp [asWrite] at h
  obtain ⟨-, rfl, rfl, -⟩ := h
  obtain ⟨w1, w2⟩ := w
  exact ⟨w1, by simp [K.STREAM_CMD]; omega⟩

theorem streamUnbind (r : Req) (s : Nat) : Statement (.streamUnbind r s) := by
  intro w r key len v h
  simp [asWrite] at h
  obtain ⟨-, rfl, rfl, -⟩ := h
  obtain ⟨w1, w2⟩ := w
  exact ⟨w1, by simp [K.STREAM_CMD]; omega⟩

theorem qEnable (r : Req) (q : Nat) : Statement (.qEnable r q) := by
  intro w r key len v h
  simp [asWrite] at h
  obtain ⟨-, rfl, rfl, -⟩ := h
  obtain ⟨w1, w2⟩ := w
  exact ⟨w1, by simp [K.Q_CMD]; omega⟩

theorem qDisable (r : Req) (q : Nat) : Statement (.qDisable r q) := by
  intro w r key len v h
  simp [asWrite] at h
  obtain ⟨-, rfl, rfl, -⟩ := h
  obtain ⟨w1, w2⟩ := w
  exact ⟨w1, by simp [K.Q_CMD]; omega⟩

theorem qFlush (r : Req) (q : Nat) : Statement (.qFlush r q) := by
  intro w r key len v h
  simp [asWrite] at h
  obtain ⟨-, rfl, rfl, -⟩ := h
  obtain ⟨w1, w2⟩ := w
  exact ⟨w1, by simp [K.Q_CMD]; omega⟩

theorem qPop (r : Req) (q : Nat) : Statement (.qPop r q) := by
  intro _ r key len v h
  simp [asWrite] at h

theorem qPush (r : Req) (q value : Nat) : Statement (.qPush r q value) := by
  intro w r key len v h
  simp [asWrite] at h
  obtain ⟨-, rfl, rfl, -⟩ := h
  obtain ⟨w1, w2⟩ := w
  exact ⟨w1, by simp [K.Q_PUSH]; omega⟩

theorem qPushEnd (r : Req) (q value : Nat) : Statement (.qPushEnd r q value) := by
  intro w r key len v h
  simp [asWrite] at h
  obtain ⟨-, rfl, rfl, -⟩ := h
  obtain ⟨w1, w2⟩ := w
  exact ⟨w1, by simp [K.Q_PUSH_END]; omega⟩

theorem qWeirWrite (r : Req) (q value : Nat) : Statement (.qWeirWrite r q value) := by
  intro w r key len v h
  simp [asWrite] at h
  obtain ⟨-, rfl, rfl, -⟩ := h
  obtain ⟨w1, w2⟩ := w
  exact ⟨w1, by simp [K.Q_WEIR]; omega⟩

theorem stagingDeliver (k : Nat) : Statement (.stagingDeliver k) := by
  intro _ r key len v h
  simp [asWrite] at h

theorem startEndAdmit (k : Nat) : Statement (.startEndAdmit k) := by
  intro _ r key len v h
  simp [asWrite] at h

theorem sumpBind (r : Req) (x : Nat) : Statement (.sumpBind r x) := by
  intro w r key len v h
  simp [asWrite] at h
  obtain ⟨-, rfl, rfl, -⟩ := h
  obtain ⟨w1, w2⟩ := w
  exact ⟨w1, by simp [K.SUMP_CMD]; omega⟩

theorem sumpUnbind (r : Req) (x : Nat) : Statement (.sumpUnbind r x) := by
  intro w r key len v h
  simp [asWrite] at h
  obtain ⟨-, rfl, rfl, -⟩ := h
  obtain ⟨w1, w2⟩ := w
  exact ⟨w1, by simp [K.SUMP_CMD]; omega⟩

theorem sumpDrain (x : Nat) : Statement (.sumpDrain x) := by
  intro _ r key len v h
  simp [asWrite] at h

theorem sumpRdWrite (r : Req) (x value : Nat) : Statement (.sumpRdWrite r x value) := by
  intro w r key len v h
  simp [asWrite] at h
  obtain ⟨-, rfl, rfl, -⟩ := h
  obtain ⟨w1, w2⟩ := w
  exact ⟨w1, by simp [K.SUMP_RD]; omega⟩

theorem tramStart (r : Req) (c : Nat) : Statement (.tramStart r c) := by
  intro w r key len v h
  simp [asWrite] at h
  obtain ⟨-, rfl, rfl, -⟩ := h
  obtain ⟨w1, w2⟩ := w
  exact ⟨w1, by simp [K.TRAM_CMD]; omega⟩

theorem tramRestart (r : Req) (c : Nat) : Statement (.tramRestart r c) := by
  intro w r key len v h
  simp [asWrite] at h
  obtain ⟨-, rfl, rfl, -⟩ := h
  obtain ⟨w1, w2⟩ := w
  exact ⟨w1, by simp [K.TRAM_CMD]; omega⟩

theorem tramAbort (r : Req) (c : Nat) : Statement (.tramAbort r c) := by
  intro w r key len v h
  simp [asWrite] at h
  obtain ⟨-, rfl, rfl, -⟩ := h
  obtain ⟨w1, w2⟩ := w
  exact ⟨w1, by simp [K.TRAM_CMD]; omega⟩

theorem descFetch (c : Nat) : Statement (.descFetch c) := by
  intro _ r key len v h
  simp [asWrite] at h

theorem descComplete (c : Nat) (eccAt : Option Nat) (host : List Byte) (hostAbort : Bool) : Statement (.descComplete c eccAt host hostAbort) := by
  intro _ r key len v h
  simp [asWrite] at h

theorem ddrInit (r : Req) : Statement (.ddrInit r) := by
  intro w r key len v h
  simp [asWrite] at h
  obtain ⟨rfl, rfl, -⟩ := h
  exact ⟨w, by simp [K.DDR_CMD]⟩

theorem srEnter (r : Req) : Statement (.srEnter r) := by
  intro w r key len v h
  simp [asWrite] at h
  obtain ⟨rfl, rfl, -⟩ := h
  exact ⟨w, by simp [K.DDR_CMD]⟩

theorem srExit (r : Req) : Statement (.srExit r) := by
  intro w r key len v h
  simp [asWrite] at h
  obtain ⟨rfl, rfl, -⟩ := h
  exact ⟨w, by simp [K.DDR_CMD]⟩

theorem release (r : Req) : Statement (.release r) := by
  intro w r key len v h
  simp [asWrite] at h
  obtain ⟨rfl, rfl, -⟩ := h
  exact ⟨w, by simp [K.DDR_CMD]⟩

theorem burstAdmit (c port : Nat) : Statement (.burstAdmit c port) := by
  intro _ r key len v h
  simp [asWrite] at h

theorem burstIssue (c ecc : Nat) : Statement (.burstIssue c ecc) := by
  intro _ r key len v h
  simp [asWrite] at h

theorem portAgeExpiry (c port : Nat) : Statement (.portAgeExpiry c port) := by
  intro _ r key len v h
  simp [asWrite] at h

theorem trefiTick (c rank : Nat) : Statement (.trefiTick c rank) := by
  intro _ r key len v h
  simp [asWrite] at h

theorem refIssue (c rank : Nat) : Statement (.refIssue c rank) := by
  intro _ r key len v h
  simp [asWrite] at h

theorem scrubIntervalExpiry (c ecc : Nat) : Statement (.scrubIntervalExpiry c ecc) := by
  intro _ r key len v h
  simp [asWrite] at h

theorem alertN (c : Nat) (replays : Nat) (recovered : Bool) : Statement (.alertN c replays recovered) := by
  intro _ r key len v h
  simp [asWrite] at h

theorem portEnable (r : Req) (p : Nat) : Statement (.portEnable r p) := by
  intro w r key len v h
  simp [asWrite] at h
  obtain ⟨-, rfl, rfl, -⟩ := h
  obtain ⟨w1, w2⟩ := w
  exact ⟨w1, by interval_cases p <;> decide⟩

theorem portDisable (r : Req) (p : Nat) : Statement (.portDisable r p) := by
  intro w r key len v h
  simp [asWrite] at h
  obtain ⟨-, rfl, rfl, -⟩ := h
  obtain ⟨w1, w2⟩ := w
  exact ⟨w1, by interval_cases p <;> decide⟩

theorem portRetrain (r : Req) (p : Nat) : Statement (.portRetrain r p) := by
  intro w r key len v h
  simp [asWrite] at h
  obtain ⟨-, rfl, rfl, -⟩ := h
  obtain ⟨w1, w2⟩ := w
  exact ⟨w1, by interval_cases p <;> decide⟩

theorem receiverDetect (p : Nat) (lanes : Nat) : Statement (.receiverDetect p lanes) := by
  intro _ r key len v h
  simp [asWrite] at h

theorem trainingFrame (lane word : Nat) : Statement (.trainingFrame lane word) := by
  intro _ r key len v h
  simp [asWrite] at h

theorem stageTimeout (p : Nat) : Statement (.stageTimeout p) := by
  intro _ r key len v h
  simp [asWrite] at h

theorem backoffExpiry (p : Nat) : Statement (.backoffExpiry p) := by
  intro _ r key len v h
  simp [asWrite] at h

theorem capabilitiesFrame (p : Nat) (c : Caps) : Statement (.capabilitiesFrame p c) := by
  intro _ r key len v h
  simp [asWrite] at h

theorem blockLockLost (lane : Nat) : Statement (.blockLockLost lane) := by
  intro _ r key len v h
  simp [asWrite] at h

theorem widthReq (p mask : Nat) : Statement (.widthReq p mask) := by
  intro _ r key len v h
  simp [asWrite] at h

theorem widthAck (p mask : Nat) : Statement (.widthAck p mask) := by
  intro _ r key len v h
  simp [asWrite] at h

theorem stabilityHoldEnd (lane : Nat) : Statement (.stabilityHoldEnd lane) := by
  intro _ r key len v h
  simp [asWrite] at h

theorem rejoinReq (p mask : Nat) : Statement (.rejoinReq p mask) := by
  intro _ r key len v h
  simp [asWrite] at h

theorem rejoinAck (p mask : Nat) : Statement (.rejoinAck p mask) := by
  intro _ r key len v h
  simp [asWrite] at h

theorem loopEnter (r : Req) (lane : Nat) : Statement (.loopEnter r lane) := by
  intro w r key len v h
  simp [asWrite] at h
  obtain ⟨-, rfl, rfl, -⟩ := h
  obtain ⟨w1, w2⟩ := w
  exact ⟨w1, by simp [K.LANE_CMD]; omega⟩

theorem loopExit (r : Req) (lane : Nat) : Statement (.loopExit r lane) := by
  intro w r key len v h
  simp [asWrite] at h
  obtain ⟨-, rfl, rfl, -⟩ := h
  obtain ⟨w1, w2⟩ := w
  exact ⟨w1, by simp [K.LANE_CMD]; omega⟩

theorem eyeStart (r : Req) (lane : Nat) : Statement (.eyeStart r lane) := by
  intro w r key len v h
  simp [asWrite] at h
  obtain ⟨-, rfl, rfl, -⟩ := h
  obtain ⟨w1, w2⟩ := w
  exact ⟨w1, by simp [K.LANE_CMD]; omega⟩

theorem eyeAbort (r : Req) (lane : Nat) : Statement (.eyeAbort r lane) := by
  intro w r key len v h
  simp [asWrite] at h
  obtain ⟨-, rfl, rfl, -⟩ := h
  obtain ⟨w1, w2⟩ := w
  exact ⟨w1, by simp [K.LANE_CMD]; omega⟩

theorem inject (r : Req) (lane : Nat) : Statement (.inject r lane) := by
  intro w r key len v h
  simp [asWrite] at h
  obtain ⟨-, rfl, rfl, -⟩ := h
  obtain ⟨w1, w2⟩ := w
  exact ⟨w1, by simp [K.LANE_CMD]; omega⟩

theorem eyePointDone (lane mismatches : Nat) : Statement (.eyePointDone lane mismatches) := by
  intro _ r key len v h
  simp [asWrite] at h

theorem periodicInject (lane : Nat) : Statement (.periodicInject lane) := by
  intro _ r key len v h
  simp [asWrite] at h

theorem tbInit (r : Req) (b : Nat) : Statement (.tbInit r b) := by
  intro w r key len v h
  simp [asWrite] at h
  obtain ⟨-, rfl, rfl, -⟩ := h
  obtain ⟨w1, w2⟩ := w
  exact ⟨w1, by simp [K.TB_CMD]; omega⟩

theorem tbStop (r : Req) (b : Nat) : Statement (.tbStop r b) := by
  intro w r key len v h
  simp [asWrite] at h
  obtain ⟨-, rfl, rfl, -⟩ := h
  obtain ⟨w1, w2⟩ := w
  exact ⟨w1, by simp [K.TB_CMD]; omega⟩

theorem rateWrite (r : Req) (b value : Nat) : Statement (.rateWrite r b value) := by
  intro w r key len v h
  simp [asWrite] at h
  obtain ⟨-, rfl, rfl, -⟩ := h
  obtain ⟨w1, w2⟩ := w
  exact ⟨w1, by simp [K.RATE]; omega⟩

theorem sync (m : TimeMsg) : Statement (.sync m) := by
  intro _ r key len v h
  simp [asWrite] at h

theorem followUp (m : TimeMsg) : Statement (.followUp m) := by
  intro _ r key len v h
  simp [asWrite] at h

theorem delayReq (m : TimeMsg) : Statement (.delayReq m) := by
  intro _ r key len v h
  simp [asWrite] at h

theorem delayResp (m : TimeMsg) : Statement (.delayResp m) := by
  intro _ r key len v h
  simp [asWrite] at h

theorem mark (port : Nat) (fr : Frame) (raw eg : Int) : Statement (.mark port fr raw eg) := by
  intro _ r key len v h
  simp [asWrite] at h

theorem tsMark (r : Req) (value : Nat) (eg : Int) : Statement (.tsMark r value eg) := by
  intro _ r key len v h
  simp [asWrite] at h

theorem tsqPop (r : Req) (value : Nat) : Statement (.tsqPop r value) := by
  intro w r key len v h
  simp [asWrite] at h
  obtain ⟨rfl, rfl, -⟩ := h
  exact ⟨w, by simp [K.TSQ_POP]⟩

theorem almArm (r : Req) (s : Nat) : Statement (.almArm r s) := by
  intro w r key len v h
  simp [asWrite] at h
  obtain ⟨-, rfl, rfl, -⟩ := h
  obtain ⟨w1, w2⟩ := w
  exact ⟨w1, by simp [K.ALM_CMD]; omega⟩

theorem almDisarm (r : Req) (s : Nat) : Statement (.almDisarm r s) := by
  intro w r key len v h
  simp [asWrite] at h
  obtain ⟨-, rfl, rfl, -⟩ := h
  obtain ⟨w1, w2⟩ := w
  exact ⟨w1, by simp [K.ALM_CMD]; omega⟩

theorem alarmFiring (s : Nat) : Statement (.alarmFiring s) := by
  intro _ r key len v h
  simp [asWrite] at h

theorem bistStart (r : Req) : Statement (.bistStart r) := by
  intro w r key len v h
  simp [asWrite] at h
  obtain ⟨rfl, rfl, -⟩ := h
  exact ⟨w, by simp [K.BIST_CMD]⟩

theorem bistAbort (r : Req) : Statement (.bistAbort r) := by
  intro w r key len v h
  simp [asWrite] at h
  obtain ⟨rfl, rfl, -⟩ := h
  exact ⟨w, by simp [K.BIST_CMD]⟩

theorem bypass  : Statement (.bypass) := by
  intro _ r key len v h
  simp [asWrite] at h

theorem idcode  : Statement (.idcode) := by
  intro _ r key len v h
  simp [asWrite] at h

theorem samplePreload (cells : List Bool) : Statement (.samplePreload cells) := by
  intro _ r key len v h
  simp [asWrite] at h

theorem extest  : Statement (.extest) := by
  intro _ r key len v h
  simp [asWrite] at h

theorem extestPulse  : Statement (.extestPulse) := by
  intro _ r key len v h
  simp [asWrite] at h

theorem extestTrain  : Statement (.extestTrain) := by
  intro _ r key len v h
  simp [asWrite] at h

theorem clamp  : Statement (.clamp) := by
  intro _ r key len v h
  simp [asWrite] at h

theorem highz  : Statement (.highz) := by
  intro _ r key len v h
  simp [asWrite] at h

theorem laneLock (lane : Nat) : Statement (.laneLock lane) := by
  intro _ r key len v h
  simp [asWrite] at h

theorem tbusEdge (line : Nat) (asserted : Bool) : Statement (.tbusEdge line asserted) := by
  intro _ r key len v h
  simp [asWrite] at h

theorem prbsCheckerLock (lane : Nat) (locked : Bool) : Statement (.prbsCheckerLock lane locked) := by
  intro _ r key len v h
  simp [asWrite] at h

end Sys2Proof.Laws.Operands
end

