-- ==== Sys2Proof/Tests/Slice0.lean ====
section
/-! SUPPORT. The package's own tests: an ill-formed term for each check of WellFormed; one step of a command on a small state
with the result the spec states; and for every statement with hypotheses a state that meets them together, clause by clause. -/

/-! A statement X has its witnesses in witness_X (and witness_X_<part>); a statement of several parts has a witness of each part:
- ResetsKeepWhatSurvives: witness_ResetPinResetsTheChip, witness_RebootKeepsTheLog.
- LogCanaryAndFaultClears: witness_LogCanaryAndWatchdog, witness_FaultClearJudgesPersistence.
- ResetHoldsTheChip: witness_ResetHoldsTheChip, witness_BoundaryScan.
- PowerDomainsSwitch: witness_PowerDomainsSwitch, witness_DomainRampsEnd.
- MonitorsAndClocks: witness_AdcConversions, witness_ClocksLockAndUnlock.
- RailsOverPmbus: witness_RailCommands, witness_PmbusTransactions.
- SupplySequencesAndLists: witness_SupplySequences, witness_SpiTransfersAndLists.
- WinderAndSelfTestCommands: witness_WinderRunsARoutine, witness_SelfTestCommands.
- SequencerAndSiteCommands: witness_SequencerCommands, witness_SiteCommandsWaitForTheBoundary.
- StartsHoldsAndTriggers: witness_StartsHoldsAndJumps, witness_TriggerLines.
- VectorPositionsIssue: witness_VectorPositionsIssue, witness_SegmentsStart, witness_DecisionPoints, witness_GranulesStart, witness_GranuleVpsIssue.
- VectorPositionsRetire: witness_RetireLatencyIsWholeGranules, witness_VectorPositionsRetire, witness_FirstFailIsRecorded.
- BlocksExpandFromTheirWindows: witness_BlocksExpand, witness_RefillFillsTheWindow.
- BlockMeanings: witness_BlockMeanings, witness_DeltaKeepsUnmaskedPositions, witness_ScanKeepsUnmaskedPositions.
- TimingSetsSeal: witness_TimingSetsSeal, witness_SealChecksAreOrdered.
- EpochsAndGalleryFrames: witness_EpochsZeroTb1, witness_GalleryFrames.
- ExchangesSteerTheBase: witness_BoundBasesTakePart, witness_ExchangesSteerTheBase.
- MarksAndAlarms: witness_MarksAreStamped, witness_AlarmSlots.
- HewerHaltsWaitsAndWraps: witness_HewerHaltsWaitsAndFaults, witness_HewerRunsPastTheEnd, witness_HewerStepsWrap.
- AssayCapturesAndEvicts: witness_AssayCommands, witness_EvictionCopiesToTheSpill.
- DowserSearches: witness_DowserCommands, witness_DowserSealsTheNextStep.
- ReadsAnswerTheValue: witness_ReadsAnswerTheValue, witness_RequestsWaitTheirTurn.
-/

set_option Elab.async false
set_option maxRecDepth 100000
set_option synthInstance.maxSize 2000
set_option synthInstance.maxHeartbeats 400000

namespace Sys2Proof.Tests

open Sys2Proof.Machine

/-- A request that comes in upstream from node 0 with tag 7. -/
def rq : Req := ⟨0, 0, 7, false⟩

/-- The state after reset with CHIP_STATE `cs` and some objects at other values. -/
def on (cs : Nat) (l : List (Nat × Nat)) : State :=
  { State.reset with dev := (State.reset.dev.set K.CHIP_STATE cs).setAll l }

/-- The same with other fields of the device replaced. -/
def dev (s : State) (f : Dev → Dev) : State := { s with dev := f s.dev }

/-- The state with the pins and supplies replaced. -/
def pwr (s : State) (f : Power → Power) : State := dev s (fun d => { d with pwr := f d.pwr })

/-- The state with bytes written to the memories. -/
def mem (s : State) (a : Nat) (l : List Byte) : State := { s with mem := Memory.wrN s.mem a l }

/-- What an object holds after one command; none where it does not answer a next state. -/
def after (c : Instr) (s : State) (key : Nat) : Option Nat :=
  match exec c s with
  | .next t => some (t.dev.get key)
  | _ => none

/-- The abort code LAST_ABORT names after one command. -/
def aborted (c : Instr) (s : State) : Option Nat := (after c s K.LAST_ABORT).map (fun v => bits v 48 16)

/-- An intact frame with a sequence number, a kind and payload words; the same with a trailer that does not fit. -/
def frameT (fseq kind : Nat) (body : List Nat) : Frame := frameMade (frameHead 0 0 0 fseq 0 false kind 0 body.length) body
def spoiled (f : Frame) : Frame := { f with trail := f.trail + 1 }

/-! Well-formedness: every operand at the end of its range is taken, and one past it is refused, check by check. -/

def frameW : Frame := ⟨2 ^ 128 - 1, [2 ^ 64 - 1], 2 ^ 64 - 1⟩
def frameBad : Frame := { frameW with head := 2 ^ 128 }
def relW : Relayed := ⟨0, frameW⟩
def msgW : TimeMsg := ⟨1, frameW, 0, 0⟩
def capsW : Caps := ⟨0, 0, 0, 0, 0, 0, 0, 0, 0⟩
/-- Requests on a port, from a node and with a tag that do not exist. -/
def rqBad : Req := ⟨2, 0, 7, false⟩

theorem test_wf_requests : rq.wf ∧ Req.wf ⟨1, 62, 255, true⟩ ∧ ¬ rqBad.wf ∧ ¬ Req.wf ⟨0, 63, 7, false⟩ ∧ ¬ Req.wf ⟨0, 0, 256, false⟩ := by
  simp [Req.wf, rq, rqBad]

theorem test_wf_frames : msgW.wf ∧ ¬ TimeMsg.wf { msgW with port := 2 } ∧ ¬ TimeMsg.wf { msgW with frame := frameBad } ∧
    ¬ Frame.wf { frameW with body := [0, 2 ^ 64] } ∧ ¬ Frame.wf { frameW with trail := 2 ^ 64 } := by
  simp [TimeMsg.wf, Frame.wf, msgW, frameW, frameBad]

/-- Well-formedness is decidable. -/
def wfDec (c : Instr) : Decidable c.wf := by
  cases c <;> dsimp only [Instr.wf, Req.wf, TimeMsg.wf, Frame.wf] <;> infer_instance

/-- The checks take a command. -/
def takes (c : Instr) : Bool := @decide c.wf (wfDec c)

theorem takes_iff (c : Instr) : takes c = true ↔ c.wf := @decide_eq_true_iff c.wf (wfDec c)

def msgBad : TimeMsg := { msgW with port := 2 }

theorem test_wf_taken_1 : ∀ c ∈ ([
    .dictRead rq 65535 255, .dictWrite rq 65535 255 1 255, .openWrite rq 65535 255 0, .openRead rq 65535 255 0, .data rq 65535 255 0 0 [],
    .close rq 65535 255, .cancel rq 65535 255, .blockTimeout 65535 255, .bulkWrite rq 0 false [], .bulkRead rq 0 0, .enumClear rq, .enumAssign rq 0,
    .transFrameReceived 5 frameW, .frameForward 5, .ackOnly 5 frameW, .replayTimeout 5, .pauseOn 5, .pauseOff 5, .chipEnable rq, .chipDisable rq,
    .serviceEnter rq, .serviceExit rq, .reboot rq, .commitRollback rq, .pdOn rq 51, .pdOff rq 51, .domainRampDone 51, .domainRamp 51,
    .railCrossing 7 4 false, .adcCmd rq 0, .railOn rq 31, .railOff rq 31, .railRead rq 31, .railMvWrite rq 31 0, .pmbusTransactionDone 1 false false 0 0 0,
    .pmbAlert 1, .ssqRun rq 15, .ssqStepDone 15, .waitUsExpiry 15, .waitBelowPoll 15 0 false, .spiXfer rq 7 0 0, .wlRun rq 15, .wlEntryDone 15 0,
    .pllUnlock 3, .pllLock 4, .faultClear rq 0 [], .flogClear rq, .wndRun rq, .wndAbort rq, .laneAdapt 15 0 0 0, .microNext 2, .microJmp 2, .microJcc 2,
    .microCall 2, .microRet 2, .microSafe 2, .microWaite 2 false, .microLoop 2, .microHalt 2, .microTrap 2, .seqArm rq 63, .seqDisarm rq 63,
    .seqStart rq 63, .seqPause rq 63, .seqResume rq 63, .seqStop rq 63, .seqJump rq 63, .startInstant 63, .trigInEdge 7 false, .jumpRequestArrival 63,
    .vpIssue 63 [], .holdEnd 63, .vpRetire 63 [], .sitePark rq 127, .siteMask rq 127, .trigOutEnd 7, .lit 63 15 2, .rep 63 15 2, .dict 63 15 2,
    .delta 63 15 2, .scan 63 15 2, .run 63 15 2, .refillLines 63 15 2, .tsetSeal rq 63 0, .speTargetWrite rq 7 0, .tmuStart rq 3, .tmuAbort rq 3,
    .tmuSample 3 0, .tmuTimeout 3, .armEpoch rq, .cancelEpoch rq, .galTimed 3 0 frameW .skewMarker, .galSeq 3 relW (.startInstant 0 0), .nop 15, .halt 15,
    .jmp 15, .jfs 15, .jfc 15, .loop 15, .call 15, .ret 15, .ldi 15, .ldbl 15, .ldbh 15, .addi 15, .mov 15, .swapbg 15, .notbg 15, .setf 15, .clrf 15] : List Instr), takes c = true := by
  decide +kernel

theorem test_wf_taken_2 : ∀ c ∈ ([
    .jrz 15, .jrnz 15, .jlt 15, .swxy 15, .wseg 15, .asyArm rq 15, .asyDisarm rq 15, .force rq 15, .rearmEnd 15, .eviction 15 0 2, .dwsStart rq 3,
    .dwsAbort rq 3, .dwsStepSeal 3, .clusterOffline rq 3, .clusterOnline rq 3, .graphStart rq 63, .graphStop rq 63, .graphDrain rq 63, .inputRecord 63 3,
    .parcelWaitExpiry 63 0, .operationDispatch 15, .operationComplete 15 2 false [], .itemWrite 63, .opTimeout 15, .streamBind rq 31, .streamUnbind rq 31,
    .qEnable rq 255, .qDisable rq 255, .qFlush rq 255, .qPop rq 255, .qPush rq 255 0, .qPushEnd rq 255 0, .qWeirWrite rq 255 0, .stagingDeliver 3,
    .startEndAdmit 3, .sumpBind rq 15, .sumpUnbind rq 15, .sumpDrain 15, .sumpRdWrite rq 15 0, .tramStart rq 15, .tramRestart rq 15, .tramAbort rq 15,
    .descFetch 15, .descComplete 15 none [] false, .ddrInit rq, .srEnter rq, .srExit rq, .release rq, .burstAdmit 7 5, .burstIssue 7 2, .portAgeExpiry 7 4,
    .trefiTick 7 1, .refIssue 7 1, .scrubIntervalExpiry 7 2, .alertN 7 0 false, .portEnable rq 5, .portDisable rq 5, .portRetrain rq 5,
    .receiverDetect 5 0, .trainingFrame 15 0, .stageTimeout 5, .backoffExpiry 5, .capabilitiesFrame 5 capsW, .blockLockLost 15, .widthReq 5 0,
    .widthAck 5 0, .stabilityHoldEnd 15, .rejoinReq 5 0, .rejoinAck 5 0, .loopEnter rq 15, .loopExit rq 15, .eyeStart rq 15, .eyeAbort rq 15,
    .inject rq 15, .eyePointDone 15 0, .periodicInject 15, .tbInit rq 3, .tbStop rq 3, .rateWrite rq 3 0, .sync msgW, .followUp msgW, .delayReq msgW,
    .delayResp msgW, .mark 1 frameW 0 0, .tsMark rq 0 0, .tsqPop rq 0, .almArm rq 31, .almDisarm rq 31, .alarmFiring 31, .bistStart rq, .bistAbort rq,
    .laneLock 15, .tbusEdge 7 false, .prbsCheckerLock 15 false] : List Instr), takes c = true := by
  decide +kernel

theorem test_wf_refused_1 : ∀ c ∈ ([
    .dictRead rqBad 65535 255, .dictRead rq 65536 255, .dictRead rq 65535 256, .dictWrite rqBad 65535 255 1 255, .dictWrite rq 65536 255 1 255,
    .dictWrite rq 65535 256 1 255, .dictWrite rq 65535 255 1 256, .openWrite rqBad 65535 255 0, .openWrite rq 65536 255 0, .openWrite rq 65535 256 0,
    .openRead rqBad 65535 255 0, .openRead rq 65536 255 0, .openRead rq 65535 256 0, .data rqBad 65535 255 0 0 [], .data rq 65536 255 0 0 [],
    .data rq 65535 256 0 0 [], .close rqBad 65535 255, .close rq 65536 255, .close rq 65535 256, .cancel rqBad 65535 255, .cancel rq 65536 255,
    .cancel rq 65535 256, .blockTimeout 65536 255, .blockTimeout 65535 256, .bulkWrite rqBad 0 false [], .bulkRead rqBad 0 0, .enumClear rqBad,
    .enumAssign rqBad 0, .transFrameReceived 6 frameW, .transFrameReceived 5 frameBad, .frameForward 6, .ackOnly 6 frameW, .ackOnly 5 frameBad,
    .replayTimeout 6, .pauseOn 6, .pauseOff 6, .chipEnable rqBad, .chipDisable rqBad, .serviceEnter rqBad, .serviceExit rqBad, .reboot rqBad,
    .commitRollback rqBad, .pdOn rqBad 51, .pdOn rq 52, .pdOff rqBad 51, .pdOff rq 52, .domainRampDone 52, .domainRamp 52, .railCrossing 8 4 false,
    .railCrossing 7 5 false, .adcCmd rqBad 0, .railOn rqBad 31, .railOn rq 32, .railOff rqBad 31, .railOff rq 32, .railRead rqBad 31, .railRead rq 32,
    .railMvWrite rqBad 31 0, .railMvWrite rq 32 0, .pmbusTransactionDone 2 false false 0 0 0] : List Instr), takes c = false := by
  decide +kernel

theorem test_wf_refused_2 : ∀ c ∈ ([
    .pmbAlert 2, .ssqRun rqBad 15, .ssqRun rq 16, .ssqStepDone 16, .waitUsExpiry 16, .waitBelowPoll 16 0 false, .spiXfer rqBad 7 0 0, .spiXfer rq 8 0 0,
    .wlRun rqBad 15, .wlRun rq 16, .wlEntryDone 16 0, .pllUnlock 4, .pllLock 5, .faultClear rqBad 0 [], .flogClear rqBad, .wndRun rqBad, .wndAbort rqBad,
    .laneAdapt 16 0 0 0, .microNext 3, .microJmp 3, .microJcc 3, .microCall 3, .microRet 3, .microSafe 3, .microWaite 3 false, .microLoop 3, .microHalt 3,
    .microTrap 3, .seqArm rqBad 63, .seqArm rq 64, .seqDisarm rqBad 63, .seqDisarm rq 64, .seqStart rqBad 63, .seqStart rq 64, .seqPause rqBad 63,
    .seqPause rq 64, .seqResume rqBad 63, .seqResume rq 64, .seqStop rqBad 63, .seqStop rq 64, .seqJump rqBad 63, .seqJump rq 64, .startInstant 64,
    .trigInEdge 8 false, .jumpRequestArrival 64, .vpIssue 64 [], .holdEnd 64, .vpRetire 64 [], .sitePark rqBad 127, .sitePark rq 128, .siteMask rqBad 127,
    .siteMask rq 128, .trigOutEnd 8, .lit 64 15 2, .lit 63 16 2, .lit 63 15 3, .rep 64 15 2, .rep 63 16 2, .rep 63 15 3, .dict 64 15 2] : List Instr), takes c = false := by
  decide +kernel

theorem test_wf_refused_3 : ∀ c ∈ ([
    .dict 63 16 2, .dict 63 15 3, .delta 64 15 2, .delta 63 16 2, .delta 63 15 3, .scan 64 15 2, .scan 63 16 2, .scan 63 15 3, .run 64 15 2, .run 63 16 2,
    .run 63 15 3, .refillLines 64 15 2, .refillLines 63 16 2, .refillLines 63 15 3, .tsetSeal rqBad 63 0, .tsetSeal rq 64 0, .speTargetWrite rqBad 7 0,
    .speTargetWrite rq 8 0, .tmuStart rqBad 3, .tmuStart rq 4, .tmuAbort rqBad 3, .tmuAbort rq 4, .tmuSample 4 0, .tmuTimeout 4, .armEpoch rqBad,
    .cancelEpoch rqBad, .galTimed 4 0 frameW .skewMarker, .galTimed 3 0 frameBad .skewMarker, .galSeq 4 relW (.startInstant 0 0),
    .galSeq 3 ⟨0, frameBad⟩ (.startInstant 0 0), .nop 16, .halt 16, .jmp 16, .jfs 16, .jfc 16, .loop 16, .call 16, .ret 16, .ldi 16, .ldbl 16, .ldbh 16,
    .addi 16, .mov 16, .swapbg 16, .notbg 16, .setf 16, .clrf 16, .jrz 16, .jrnz 16, .jlt 16, .swxy 16, .wseg 16, .asyArm rqBad 15, .asyArm rq 16,
    .asyDisarm rqBad 15, .asyDisarm rq 16, .force rqBad 15, .force rq 16, .rearmEnd 16, .eviction 16 0 2] : List Instr), takes c = false := by
  decide +kernel

theorem test_wf_refused_4 : ∀ c ∈ ([
    .eviction 15 0 3, .dwsStart rqBad 3, .dwsStart rq 4, .dwsAbort rqBad 3, .dwsAbort rq 4, .dwsStepSeal 4, .clusterOffline rqBad 3, .clusterOffline rq 4,
    .clusterOnline rqBad 3, .clusterOnline rq 4, .graphStart rqBad 63, .graphStart rq 64, .graphStop rqBad 63, .graphStop rq 64, .graphDrain rqBad 63,
    .graphDrain rq 64, .inputRecord 64 3, .inputRecord 63 4, .parcelWaitExpiry 64 0, .operationDispatch 16, .operationComplete 16 2 false [],
    .operationComplete 15 3 false [], .itemWrite 64, .opTimeout 16, .streamBind rqBad 31, .streamBind rq 32, .streamUnbind rqBad 31, .streamUnbind rq 32,
    .qEnable rqBad 255, .qEnable rq 256, .qDisable rqBad 255, .qDisable rq 256, .qFlush rqBad 255, .qFlush rq 256, .qPop rqBad 255, .qPop rq 256,
    .qPush rqBad 255 0, .qPush rq 256 0, .qPushEnd rqBad 255 0, .qPushEnd rq 256 0, .qWeirWrite rqBad 255 0, .qWeirWrite rq 256 0, .stagingDeliver 4,
    .startEndAdmit 4, .sumpBind rqBad 15, .sumpBind rq 16, .sumpUnbind rqBad 15, .sumpUnbind rq 16, .sumpDrain 16, .sumpRdWrite rqBad 15 0,
    .sumpRdWrite rq 16 0, .tramStart rqBad 15, .tramStart rq 16, .tramRestart rqBad 15, .tramRestart rq 16, .tramAbort rqBad 15, .tramAbort rq 16,
    .descFetch 16, .descComplete 16 none [] false, .ddrInit rqBad] : List Instr), takes c = false := by
  decide +kernel

theorem test_wf_refused_5 : ∀ c ∈ ([
    .srEnter rqBad, .srExit rqBad, .release rqBad, .burstAdmit 8 5, .burstAdmit 7 6, .burstIssue 8 2, .burstIssue 7 3, .portAgeExpiry 8 4,
    .portAgeExpiry 7 5, .trefiTick 8 1, .trefiTick 7 2, .refIssue 8 1, .refIssue 7 2, .scrubIntervalExpiry 8 2, .scrubIntervalExpiry 7 3,
    .alertN 8 0 false, .portEnable rqBad 5, .portEnable rq 6, .portDisable rqBad 5, .portDisable rq 6, .portRetrain rqBad 5, .portRetrain rq 6,
    .receiverDetect 6 0, .trainingFrame 16 0, .stageTimeout 6, .backoffExpiry 6, .capabilitiesFrame 6 capsW, .blockLockLost 16, .widthReq 6 0,
    .widthAck 6 0, .stabilityHoldEnd 16, .rejoinReq 6 0, .rejoinAck 6 0, .loopEnter rqBad 15, .loopEnter rq 16, .loopExit rqBad 15, .loopExit rq 16,
    .eyeStart rqBad 15, .eyeStart rq 16, .eyeAbort rqBad 15, .eyeAbort rq 16, .inject rqBad 15, .inject rq 16, .eyePointDone 16 0, .periodicInject 16,
    .tbInit rqBad 3, .tbInit rq 1, .tbStop rqBad 3, .tbStop rq 1, .rateWrite rqBad 3 0, .rateWrite rq 1 0, .sync msgBad, .followUp msgBad,
    .delayReq msgBad, .delayResp msgBad, .mark 2 frameW 0 0, .mark 1 frameBad 0 0, .tsMark rqBad 0 0, .tsqPop rqBad 0, .almArm rqBad 31] : List Instr), takes c = false := by
  decide +kernel

theorem test_wf_refused_6 : ∀ c ∈ ([
    .almArm rq 32, .almDisarm rqBad 31, .almDisarm rq 32, .alarmFiring 32, .bistStart rqBad, .bistAbort rqBad, .laneLock 16, .tbusEdge 8 false,
    .prbsCheckerLock 16 false] : List Instr), takes c = false := by
  decide +kernel

/-! Chip, reset, boot, the fault log and self-test. -/

theorem witness_ChipCommandsMoveTheChip :
    ((on 2 []).admits rq K.CHIP_CMD 1 1 ∧ (on 2 []).dev.get K.CHIP_STATE = 2) ∧
    ((on 3 []).admits rq K.CHIP_CMD 1 2 ∧ (on 3 []).dev.get K.CHIP_STATE = 3 ∧ (on 3 []).dev.activeFuncs = 0) ∧
    (on 2 []).admits rq K.CHIP_CMD 1 3 ∧
    ((on 7 []).admits rq K.CHIP_CMD 1 4 ∧ (on 7 []).dev.get K.CHIP_STATE = 7 ∧ (on 7 []).dev.get K.BIST_STATE ≠ 2 ∧
      (on 7 []).dev.get K.BIST_STATE ≠ 3) ∧
    (∀ b ∈ [2, 3], (on 7 [(K.BIST_STATE, b)]).admits rq K.CHIP_CMD 1 4 ∧ (on 7 [(K.BIST_STATE, b)]).dev.get K.CHIP_STATE = 7 ∧
      (on 7 [(K.BIST_STATE, b)]).dev.get K.BIST_STATE ∈ [2, 3]) ∧
    ((on 3 []).admits rq K.CHIP_CMD 1 1 ∧ (on 3 []).dev.get K.CHIP_STATE ≠ 2) ∧
    ((on 3 [(K.SEQ_STATE 0, 1)]).admits rq K.CHIP_CMD 1 2 ∧ (on 3 [(K.SEQ_STATE 0, 1)]).dev.activeFuncs ≠ 0) ∧
    ((on 2 []).admits rq K.CHIP_CMD 1 2 ∧ (on 2 []).dev.get K.CHIP_STATE ≠ 3) ∧
    (on 3 []).admits rq K.CHIP_CMD 1 3 ∧ (on 2 []).admits rq K.CHIP_CMD 1 4 := by
  simp only [State.admits, State.ready, State.up]; decide

theorem test_chipEnable : after (.chipEnable rq) State.reset K.CHIP_STATE = some 3 ∧ aborted (.chipEnable rq) (on 3 []) = some 6 := by
  decide

theorem test_chipDisable : after (.chipDisable rq) (on 3 []) K.CHIP_STATE = some 2 ∧ aborted (.chipDisable rq) State.reset = some 6 := by
  decide

theorem test_service : after (.serviceEnter rq) State.reset K.CHIP_STATE = some 7 ∧ after (.serviceExit rq) (on 7 []) K.CHIP_STATE = some 2 := by
  decide

theorem witness_ResetPinResetsTheChip :
    ((pwr State.reset (fun p => { p with resetLow := true })).dev.pwr.resetLow = true) ∧ 0 < 8 ∧ 7 < 8 ∧ State.reset.up := by
  simp only [State.up]; decide

theorem test_resetN :
    after .resetNAssert (on 3 [(K.NODE_ID, 5)]) K.NODE_ID = some 0 ∧
    after (.resetNRelease 2) (pwr State.reset (fun p => { p with resetLow := true })) K.BOOT_STATUS = some 2 ∧
    after (.resetNRelease 7) (pwr State.reset (fun p => { p with resetLow := true })) K.BOOT_STATUS = some (2 * 65536 + 256 + 7) ∧
    (match exec (.resetNRelease 2) (pwr (dev State.reset (fun d => { d with jtag := { instr := 7 } })) (fun p => { p with resetLow := true })) with
      | .next t => t.dev.jtag.instr | _ => 9) = 0 := by
  decide

theorem witness_RebootKeepsTheLog :
    ((on 2 []).admits rq K.BOOT_CMD 1 1 ∧ (on 2 []).dev.get K.CHIP_STATE ∈ [1, 2, 6, 7]) ∧
    ((on 1 []).admits rq K.BOOT_CMD 1 1 ∧ (on 1 []).dev.get K.CHIP_STATE ∈ [1, 2, 6, 7]) ∧
    ((on 3 []).admits rq K.BOOT_CMD 1 1 ∧ (on 3 []).dev.get K.CHIP_STATE ∈ [0, 3, 4, 5]) := by
  simp only [State.admits, State.ready, State.up]; decide

theorem test_reboot : after (.reboot rq) (on 2 [(K.NODE_ID, 5), (K.TMU_SAMPLES 0, 9)]) K.NODE_ID = some 5 ∧
    after (.reboot rq) (on 2 [(K.NODE_ID, 5), (K.STATE_CHANGES, 9)]) K.STATE_CHANGES = some 0 := by
  decide

theorem witness_CommitRollbackRaisesTheFuse :
    ((on 2 [(K.IMAGE_ROLLBACK, 3)]).admits rq K.BOOT_CMD 1 2 ∧ (on 2 [(K.IMAGE_ROLLBACK, 3)]).dev.get K.CHIP_STATE = 2 ∧
      (on 2 [(K.IMAGE_ROLLBACK, 3)]).fuses.rollback < (on 2 [(K.IMAGE_ROLLBACK, 3)]).dev.get K.IMAGE_ROLLBACK) ∧
    ((on 2 []).admits rq K.BOOT_CMD 1 2 ∧ (on 2 []).dev.get K.IMAGE_ROLLBACK ≤ (on 2 []).fuses.rollback) ∧
    ((on 3 []).admits rq K.BOOT_CMD 1 2 ∧ (on 3 []).dev.get K.CHIP_STATE ≠ 2) := by
  simp only [State.admits, State.ready, State.up]; decide

theorem test_commitRollback : after (.commitRollback rq) (on 2 [(K.IMAGE_ROLLBACK, 3)]) K.ROLLBACK_FUSE = some 3 ∧
    aborted (.commitRollback rq) (on 3 []) = some 6 := by
  decide

/-- A chip in BOOT with a flash, BOOT_MODE FLASH. -/
def booting : State := pwr (on 0 [(K.FLASH_JEDEC_ID, 1)]) (fun p => { p with bootMode := 0 })

/-- The first clause's image is any that passes; whether one does rests on the free functions of Config (log entry 4). -/
theorem witness_FlashBootsOrLocks :
    (booting.up ∧ booting.dev.get K.CHIP_STATE = 0 ∧ booting.dev.pwr.bootMode = 0 ∧ booting.dev.get K.FLASH_JEDEC_ID ≠ 0) ∧
    (∀ m : Memory, imgCheck booting.fuses m 0 (flashAt 0) (2 ^ 26) = 0 →
      ∃ s : State, s.up ∧ s.dev.get K.CHIP_STATE = 0 ∧ (s.dev.pwr.bootMode = 0 ∨ s.dev.pwr.bootMode = 2) ∧
        s.dev.get K.FLASH_JEDEC_ID ≠ 0 ∧ imgCheck s.fuses s.mem s.dev.fresh (flashAt 0) (2 ^ 26) = 0) ∧
    imgCheck (mem booting (flashAt 0) (toBytes 64 0)).fuses (mem booting (flashAt 0) (toBytes 64 0)).mem 0 (flashAt 0) (2 ^ 26) ≠ 0 ∧
    ((pwr State.reset (fun p => { p with flash := some (rq, 4096) })).up ∧
      (pwr State.reset (fun p => { p with flash := some (rq, 4096) })).dev.pwr.flash = some (rq, 4096)) := by
  refine ⟨by simp only [State.up]; decide, fun m h => ⟨{ booting with mem := m }, ?_⟩, by decide, by simp only [State.up]; decide⟩
  have e : booting.dev.get K.CHIP_STATE = 0 ∧ booting.dev.get K.FLASH_JEDEC_ID ≠ 0 := by decide
  exact ⟨rfl, e.1, Or.inl rfl, e.2, h⟩

theorem test_flashBoot : after .flashBoot (mem booting (flashAt 0) (toBytes 64 0)) K.CHIP_STATE = some 1 ∧
    after .flashBoot (mem booting (flashAt 0) (toBytes 64 0)) K.BOOT_STATUS = some 65536 := by
  decide

theorem test_flashProgrammed :
    after .flashProgrammed (pwr State.reset (fun p => { p with flash := some (rq, 16) })) K.FLASH_WRITES = some 1 := by
  decide

theorem witness_LogCanaryAndWatchdog :
    State.reset.admits rq K.FLOG_CMD 1 1 ∧ State.reset.up ∧ (on 2 [(K.CANARY_STATE, 2)]).dev.get K.CANARY_STATE = 2 ∧
    (on 2 [(K.CANARY_STATE, 1)]).dev.get K.CANARY_STATE ≠ 2 ∧ State.reset.dev.pwr.hfDown = false ∧
    ((pwr State.reset (fun p => { p with hfDown := true })).up ∧ (pwr State.reset (fun p => { p with hfDown := true })).dev.pwr.hfDown = true ∧
      2 ≤ (pwr State.reset (fun p => { p with hfDown := true })).dev.get K.CHIP_STATE) := by
  simp only [State.admits, State.ready, State.up]; decide

theorem test_flogClear : after (.flogClear rq) State.reset K.ABORT_COUNT = some 0 := by decide

theorem test_canaryToggle :
    (match exec .canaryToggle (on 2 [(K.CANARY_STATE, 2)]) with | .next t => t.dev.pwr.canary | _ => false) =
      !(State.reset.dev.pwr.canary) := by
  decide

theorem test_watchdog : after .hfRestartDone State.reset K.WDT_RESTARTS = some 0 := by decide

/-- RESET_N low with an instruction in the TAP and the first two cells preloaded. -/
def tapped (i : Nat) : State := pwr (dev State.reset (fun d => { d with jtag := { instr := i, cells := [true, false] } })) (fun p => { p with resetLow := true })

theorem witness_BoundaryScan : (pwr State.reset (fun p => { p with resetLow := true })).dev.pwr.resetLow = true ∧ State.reset.up ∧
    (∀ i ∈ [3, 6, 7], (tapped i).dev.pwr.resetLow = true ∧ (tapped i).dev.jtag.instr = i ∧ (tapped i).dev.jtag.cells = [true, false]) ∧
    Ball.input (.drv 255) = false ∧ Ball.drv 255 ≠ .tdo ∧ State.reset.dev.vpchIn = true ∧ (pwr State.reset (fun p => { p with railLow := [(2, 1)] })).dev.vpchIn = false := by
  simp only [State.up]; decide

theorem test_highz : (tapped 7).dev.pinLevel (.drv 255) = .released ∧ (tapped 7).dev.pinLevel .tdo = .released ∧
    (tapped 0).dev.ownLevel .canary = .low := by decide

theorem test_idcode : (match exec .idcode State.reset with | .next t => t.dev.jtag.dr | _ => 0) = 0x22564B53 := by decide

/-- Rail 3 and Tarn queue 2 hold faults. -/
def latched2 : State := dev State.reset (fun d => { d with latched := [(0xA00, 2 ^ 3), (0xA01, 2 ^ 5)] })

/-- REFCLK_LOST is latched and REFCLK is still lost. -/
def present : State := pwr (dev State.reset (fun d => { d with latched := [(0x300, 2 ^ 32)] })) (fun p => { p with refLost := true })

theorem witness_FaultClearJudgesPersistence :
    (State.reset.admits rq K.FAULT_CLEAR 2 0xFFFF ∧
      (State.reset.dev.latched.filter (fun p => p.2 != 0 && (0xFFFF == 0xFFFF || p.1 == 0xFFFF) && !State.reset.dev.latchComing p.1)).map (·.1) = []) ∧
    (latched2.admits rq K.FAULT_CLEAR 2 0xFFFF ∧
      (latched2.dev.latched.filter (fun p => p.2 != 0 && (0xFFFF == 0xFFFF || p.1 == 0xFFFF) && !latched2.dev.latchComing p.1)).map (·.1) ≠ [] ∧
      (∀ i ∈ [0xA00, 0xA01], bit (latched2.dev.latchedOn i) 34 = false) ∧
      (∀ i ∈ [0xA00, 0xA01], ∀ fk ∈ setBits 64 (latched2.dev.latchedOn i),
        latched2.dev.persists i fk (!latched2.dev.faultyRails.isEmpty) = false) ∧ latched2.dev.get K.SHED_LEVEL < 3) ∧
    (present.admits rq K.FAULT_CLEAR 2 0x300 ∧ present.dev.latchComing 0x300 = false ∧ bit (present.dev.latchedOn 0x300) 34 = false ∧
      ∃ i ∈ [0x300], ∃ fk ∈ setBits 64 (present.dev.latchedOn i), present.dev.persists i fk (!present.dev.faultyRails.isEmpty) = true) := by
  simp only [State.admits, State.ready, State.up]; decide

theorem test_faultClear : after (.faultClear rq 0x300 []) present K.LATCHED_INSTANCES = some 0 ∧
    aborted (.faultClear rq 0x300 []) present = some 13 ∧ aborted (.faultClear rq 0x300 []) State.reset = some 6 := by
  decide

theorem witness_SelfTestCommands :
    ((on 7 [(K.BIST_TARGET, 46 + 15 * 256 + 1 * 4096), (K.PD_STATE 46, 2)]).admits rq K.BIST_CMD 1 1 ∧
      (on 7 [(K.BIST_TARGET, 46 + 15 * 256 + 1 * 4096), (K.PD_STATE 46, 2)]).dev.wndBusy = false ∧
      (on 7 []).dev.latchHeld 0x0740 K.WND_STATE = false ∧ (on 7 []).dev.latchHeld 0x0800 K.BIST_STATE = false ∧
      (on 7 [(K.BIST_TARGET, 46 + 15 * 256 + 1 * 4096), (K.PD_STATE 46, 2)]).dev.domOn 46 = true ∧
      (on 7 [(K.BIST_TARGET, 46 + 15 * 256 + 1 * 4096), (K.PD_STATE 46, 2)]).dev.testable 46 15 = true ∧
      (on 7 [(K.BIST_TARGET, 46 + 15 * 256 + 1 * 4096), (K.PD_STATE 46, 2)]).dev.get K.SHED_LEVEL = 0 ∧
      (on 7 [(K.BIST_TARGET, 46 + 15 * 256 + 1 * 4096), (K.SHED_LEVEL, 1)]).dev.get K.SHED_LEVEL ≠ 0 ∧
      (on 7 [(K.BIST_TARGET, 46 + 15 * 256 + 1 * 4096), (K.SHED_LEVEL, 1)]).admits rq K.BIST_CMD 1 1 ∧ (1 : Nat) ∈ [1, 2, 3]) ∧
    ((on 7 [(K.BIST_TARGET, 0)]).admits rq K.BIST_CMD 1 1 ∧ bits ((on 7 [(K.BIST_TARGET, 0)]).dev.get K.BIST_TARGET) 12 3 = 0) ∧
    ((on 7 [(K.BIST_STATE, 2), (K.WND_STATE, 2)]).admits rq K.BIST_CMD 1 2 ∧
      (on 7 [(K.BIST_STATE, 2), (K.WND_STATE, 2)]).dev.get K.BIST_STATE = 2 ∧
      (on 7 [(K.BIST_STATE, 2), (K.WND_STATE, 2)]).dev.get K.WND_STATE = 2 ∧
      bit ((on 7 [(K.BIST_STATE, 2), (K.WND_STATE, 2)]).dev.get K.WND_STATUS) 5 = false ∧ (on 7 []).dev.wnd.phase ≠ 1) ∧
    ((on 7 []).admits rq K.BIST_CMD 1 2 ∧ (on 7 []).dev.get K.BIST_STATE ≠ 2 ∧ (on 7 []).dev.get K.BIST_STATE ≠ 3) := by
  simp only [State.admits, State.ready, State.up]; decide

theorem test_bist : after (.bistStart rq) (on 7 [(K.BIST_TARGET, 46 + 15 * 256 + 4096), (K.PD_STATE 46, 2)]) K.BIST_STATE = some 2 ∧
    aborted (.bistStart rq) (on 7 []) = some 5 ∧
    aborted (.bistStart rq) (on 7 [(K.BIST_TARGET, 46 + 15 * 256 + 4096), (K.SHED_LEVEL, 1)]) = some 10 ∧ aborted (.bistAbort rq) (on 7 []) = some 6 := by
  decide

/-! Power, shedding, supplies, clocks, SPI. -/

/-- Domain 46 in the state `v`; a waiting ON of domain 47 where asked. -/
def dom46 (v : Nat) : State := on 2 [(K.PD_STATE 46, v)]
def waiting (s : State) : State := pwr s (fun p => { p with pdQueue := [(47, none)] })

theorem witness_PowerDomainsSwitch :
    ((dom46 1).admits rq (K.PD_CMD 46) 1 1 ∧ (dom46 1).dev.get (K.PD_STATE 46) = 1) ∧
    ((dom46 2).admits rq (K.PD_CMD 46) 1 1 ∧ (dom46 2).dev.get (K.PD_STATE 46) = 2) ∧
    ((pwr (dom46 1) (fun p => { p with pdQueue := [(46, none), (47, none)] })).admits rq (K.PD_CMD 46) 1 1 ∧
      (∀ q ∈ [((47 : Nat), (none : Option Req))], q.1 ≠ 46)) ∧
    ((waiting (dom46 0)).admits rq (K.PD_CMD 46) 1 1 ∧ (waiting (dom46 0)).dev.get (K.PD_STATE 46) ∈ [0, 3] ∧
      (waiting (dom46 0)).dev.pwr.pdQueue ≠ []) ∧
    ((dom46 0).admits rq (K.PD_CMD 46) 1 1 ∧ (dom46 0).dev.get (K.PD_STATE 46) ∈ [0, 3] ∧ (dom46 0).dev.pwr.pdQueue = []) ∧
    ((on 2 [(K.PD_STATE 2, 3)]).admits rq (K.PD_CMD 2) 1 1 ∧ (on 2 [(K.PD_STATE 2, 3)]).dev.get (K.PD_STATE 2) ∈ [0, 3]) ∧
    ((on 2 []).admits rq (K.PD_CMD 50) 1 2 ∧ 50 ∈ [0, 1, 50]) ∧
    ((on 2 [(K.GRAPH_STATE 1, 2)]).admits rq (K.PD_CMD 46) 1 2 ∧ (on 2 [(K.GRAPH_STATE 1, 2)]).dev.domBusy 46 = true) ∧
    ((on 2 [(K.BIST_STATE, 2), (K.BIST_TARGET, 46 + 15 * 256 + 4096)]).admits rq (K.PD_CMD 46) 1 2 ∧
      (on 2 [(K.BIST_STATE, 2), (K.BIST_TARGET, 46 + 15 * 256 + 4096)]).dev.domUsed 46 = false ∧
      (on 2 [(K.BIST_STATE, 2), (K.BIST_TARGET, 46 + 15 * 256 + 4096)]).dev.domBusy 46 = false ∧
      (on 2 [(K.BIST_STATE, 2), (K.BIST_TARGET, 46 + 15 * 256 + 4096)]).dev.underTest [46] none = true) ∧
    (∀ v ∈ [0, 3, 2], ((dom46 v).dev.domUsed 46 = false ∧ (dom46 v).dev.domBusy 46 = false ∧ (dom46 v).dev.domXfer 46 = false ∧
      (dom46 v).dev.underTest [46] none = false ∧ (dom46 v).dev.get (K.PD_STATE 46) = v)) ∧
    (dom46 0).admits rq (K.PD_CMD 46) 1 2 ∧ (dom46 2).admits rq (K.PD_CMD 46) 1 2 ∧ (dom46 3).admits rq (K.PD_CMD 46) 1 2 := by
  simp only [State.admits, State.ready, State.up]
  (repeat' apply And.intro) <;> decide

theorem test_pdOn : after (.pdOn rq 46) (dom46 0) (K.PD_STATE 46) = some 1 ∧ after (.pdOn rq 2) (on 2 [(K.PD_STATE 2, 0)]) (K.PLL_STATE 0) = some 1 := by
  decide

theorem test_pdOff : after (.pdOff rq 46) (dom46 2) (K.PD_STATE 46) = some 0 ∧ aborted (.pdOff rq 50) (on 2 []) = some 5 := by
  decide

/-- Cluster 0's domain ramps; the Collier firmware the running image brought is two bytes long. -/
def ramp42 (c : Nat) : State :=
  dev (on 2 [(K.PD_STATE 42, 1), (K.CLUSTER_STATE 0, c)]) (fun d => { d with fw := some [0xA5, 0x5A], pwr := { d.pwr with pdQueue := [(42, none)] } })

theorem witness_DomainRampsEnd :
    (pwr (on 2 [(K.PD_STATE 3, 1)]) (fun p => { p with pdQueue := [(3, some rq), (47, none)] })).up ∧
    (pwr (on 2 [(K.PD_STATE 3, 1)]) (fun p => { p with pdQueue := [(3, some rq), (47, none)] })).dev.get (K.PD_STATE 3) = 1 ∧
    (pwr (on 2 [(K.PD_STATE 3, 1)]) (fun p => { p with pdQueue := [(3, some rq), (47, none)] })).dev.pwr.pdQueue = (3, some rq) :: [(47, none)] ∧
    (∀ q ∈ [((47 : Nat), (none : Option Req))], q.1 < 52) ∧
    (pwr (on 2 [(K.PD_STATE 3, 1)]) (fun p => { p with pdQueue := [(3, some rq), (47, none)] })).ready { rq with port := 1 } ∧
    (pwr (on 2 [(K.PD_STATE 3, 1)]) (fun p => { p with pdQueue := [(3, none), (3, some rq), (47, none)] })).dev.pwr.pdQueue =
      (3, none) :: [(3, some rq), (47, none)] ∧
    ((ramp42 3).up ∧ (ramp42 3).dev.get (K.PD_STATE 42) = 1 ∧ (ramp42 3).dev.pwr.pdQueue = (42, none) :: [] ∧
      (ramp42 3).dev.fw = some [0xA5, 0x5A]) := by
  simp only [State.ready, State.up]; decide

theorem test_collierFirmware :
    (match exec (.domainRampDone 42) (ramp42 0) with
      | .next t => Memory.look t.mem (clusterAt 0 3670017) | _ => none) = some 0x5A := by
  decide

theorem test_domainRamp :
    after (.domainRampDone 3) (pwr (on 2 [(K.PD_STATE 3, 1)]) (fun p => { p with pdQueue := [(3, some rq)] })) (K.PLL_STATE 1) = some 2 ∧
    after (.domainRampDone 42) (pwr (on 2 [(K.PD_STATE 42, 1)]) (fun p => { p with pdQueue := [(42, none)] })) (K.CLUSTER_STATE 0) = some 3 ∧
    after (.domainRamp 3) (pwr (on 2 [(K.PD_STATE 3, 1)]) (fun p => { p with pdQueue := [(3, none)] })) (K.PD_STATE 3) = some 0 := by
  decide

/-- A chip whose shed level is `old` while level `new` is demanded on rail 0. -/
def shed (old new : Nat) : State :=
  pwr (on 3 [(K.SHED_LEVEL, old), (K.SHED_MON_MASK, 1)]) (fun p => { p with railLow := [(0, 2 ^ new - 1)] })

theorem witness_ShedFollowsTheDemand :
    State.reset.up ∧ (1 ≤ 1 ∧ 1 ≤ 4) ∧ (1 ≤ 4 ∧ 4 ≤ 4) ∧
    (∀ q ∈ [(0, 1), (0, 2), (0, 3), (0, 4), (1, 3), (1, 4), (1, 2), (2, 3), (3, 4), (2, 4), (1, 1), (2, 1), (2, 0), (3, 0), (4, 0)],
      (shed q.1 q.2).up ∧ (shed q.1 q.2).dev.get K.SHED_LEVEL = q.1 ∧ (shed q.1 q.2).dev.demand = q.2) := by
  simp only [State.up]; decide

theorem test_shedSkip : after .shedLevelRise (shed 0 3) K.PRIOR_STATE = some 3 ∧ after .shedLevelRise (shed 0 3) K.CHIP_STATE = some 6 := by
  decide

theorem test_shedRise : after .shedLevelRise (shed 1 2) K.SHED_LEVEL = some 2 := by
  decide

theorem test_shedFall : after .shedLevelFall (shed 2 0) K.SHED_LEVEL = some 0 ∧ after .shedLevelFall (shed 3 0) K.SHED_LEVEL = some 3 := by
  decide

theorem witness_AdcConversions :
    (State.reset.admits rq K.ADC_CMD 2 0x8001 ∧ State.reset.dev.get K.ADC_BUSY = 0) ∧
    ((on 2 [(K.ADC_BUSY, 1)]).admits rq K.ADC_CMD 2 1 ∧ (on 2 [(K.ADC_BUSY, 1)]).dev.get K.ADC_BUSY ≠ 0) ∧
    ((pwr (on 2 [(K.ADC_BUSY, 1)]) (fun p => { p with adcReqs := [0] })).up ∧
      (pwr (on 2 [(K.ADC_BUSY, 1)]) (fun p => { p with adcReqs := [0] })).dev.pwr.adcReqs = 0 :: [] ∧ 0 ∉ ([] : List Nat)) ∧
    (pwr (on 2 [(K.ADC_BUSY, 2 ^ 15)]) (fun p => { p with adcReqs := [15, 15] })).dev.pwr.adcReqs = 15 :: [15] := by
  simp only [State.admits, State.ready, State.up]; decide

theorem test_adc : after (.adcCmd rq 5) State.reset K.ADC_BUSY = some 5 ∧
    after (.adcConverted 0x1FFF) (pwr (on 2 [(K.ADC_BUSY, 1)]) (fun p => { p with adcReqs := [0] })) (K.ADC_VALUE 0) = some 0xFFF := by
  decide

/-- A PLL locked in a powered shaft, with one running sequencer of its own where asked. -/
def pll (k : Nat) (l : List (Nat × Nat)) : State := on 3 ([(K.PD_STATE (2 + k), 2), (K.PLL_STATE k, 2)] ++ l)

theorem witness_ClocksLockAndUnlock :
    ((on 2 [(K.PLL_STATE 3, 1)]).up ∧ (on 2 [(K.PLL_STATE 3, 1)]).dev.get (K.PLL_STATE 3) = 1 ∧ 2 ≤ (on 2 []).dev.get K.CHIP_STATE) ∧
    ((pll 0 []).dev.get (K.PLL_STATE 0) = 2 ∧ (pll 0 []).dev.liveSeqs = []) ∧
    ((pll 0 [(K.SEQ_STATE 4, 2)]).up ∧ (pll 0 [(K.SEQ_STATE 4, 2)]).dev.liveSeqs.filter
      (fun n => ((pll 0 [(K.SEQ_STATE 4, 2)]).dev.shaftsOf n).contains 0) = [4]) ∧
    ((pll 0 [(K.SEQ_STATE 4, 2), (K.SEQ_STATE 8, 3)]).dev.liveSeqs.filter
      (fun n => ((pll 0 [(K.SEQ_STATE 4, 2), (K.SEQ_STATE 8, 3)]).dev.shaftsOf n).contains 0) = 4 :: [8]) ∧
    ((pwr State.reset (fun p => { p with refLost := true })).up ∧ (pwr State.reset (fun p => { p with refLost := true })).dev.pwr.refLost = true) ∧
    ((on 2 [(portKey 0 2, 6)]).dev.pwr.refLost = false ∧
      ∀ p, p < 6 → (on 2 [(portKey 0 2, 6)]).dev.portState p = 0 ∨ (on 2 [(portKey 0 2, 6)]).dev.portState p = 6) := by
  simp only [State.up]; decide

theorem test_pll : after (.pllLock 1) (on 2 [(K.PLL_STATE 1, 1)]) (K.PLL_STATE 1) = some 2 ∧
    after (.pllUnlock 0) (pll 0 []) (K.PLL_UNLOCKS 0) = some 1 ∧ after (.pllUnlock 0) (pll 0 []) (K.PLL_STATE 0) = some 1 := by
  decide

/-- Rail 5 enabled on master 1. -/
def rail5 : State := on 2 [(K.RAIL_CFG 5, 2 ^ 24 + 2 ^ 8 + 16), (K.RAIL_STATE 5, 1)]

theorem witness_RailCommands :
    (∀ v ∈ [1, 2, 3], State.reset.admits rq (K.RAIL_CMD 31) 1 v ∧ rail5.admits rq (K.RAIL_CMD 5) 1 v) ∧
    State.reset.dev.railOn 31 = false ∧ rail5.dev.railOn 5 = true ∧ rail5.admits rq (K.RAIL_MV 5) 2 1000 ∧ rail5.up := by
  simp only [State.admits, State.ready, State.up]; decide

theorem test_rails : aborted (.railOn rq 31) State.reset = some 6 ∧ after (.railMvWrite rq 5 1000) rail5 (K.RAIL_MV 5) = some 1000 ∧
    after (.pmbAlert 1) rail5 (K.PMB_ALERTS 1) = some 1 := by
  decide

/-- Rail 5's master 1 with one transaction at its front. -/
def pmb (o : PmbOp) : State := pwr rail5 (fun p => { p with pmb := [(1, [o])] })

theorem witness_PmbusTransactions :
    (∀ o ∈ ([⟨1, 5, some rq, 0, 0, none⟩, ⟨1, 5, some rq, 1, 0, none⟩, ⟨2, 5, some rq, 2, 0, none⟩, ⟨3, 5, some rq, 0, 0, none⟩,
      ⟨4, 5, none, 0, 900, none⟩, ⟨5, 5, none, 0, 0, none⟩, ⟨2, 5, none, 0, 0, some 2⟩] : List PmbOp),
      (pmb o).up ∧ Table.at (pmb o).dev.pwr.pmb [] 1 = o :: []) ∧ 0 % 65536 = 0 ∧ 65535 % 65536 ≠ 0 := by
  simp only [State.up]; decide

theorem test_pmbus : after (.pmbusTransactionDone 1 true true 0 0 0) (pmb ⟨1, 5, some rq, 0, 0, none⟩) (K.RAIL_STATE 5) = some 1 ∧
    after (.pmbusTransactionDone 1 true true 1200 0 0) (pmb ⟨3, 5, some rq, 0, 0, none⟩) (K.RAIL_VOUT 5) = some 1200 ∧
    after (.pmbusTransactionDone 1 true true 0 0 4) (pmb ⟨5, 5, none, 0, 0, none⟩) (K.RAIL_STATE 5) = some 2 ∧
    after (.pllUnlock 3) (pll 3 []) (K.FAULT_COUNT 9) = some 1 ∧
    aborted (.pmbusTransactionDone 1 false true 0 0 0) (pmb ⟨1, 5, some rq, 2, 0, none⟩) = some 11 := by
  decide

/-- Sequence 2 runs at step 0. -/
def ssq (step : Nat) (x : SsqRun) : State :=
  dev (on 2 [(K.SSQ_STATE 2, 2), (K.SSQ_STEP 2 x.step, step)]) (fun d => { d with ssqs := [(2, x)] })

/-- Sequence 2's OFF waits behind another transaction of its master. -/
def behindOther (s : State) : State := pwr s (fun p => { p with pmb := [(0, [{ kind := 5, rail := 0 }, { kind := 2, rail := 5, seq := some 2 }])] })

theorem witness_SupplySequences :
    (State.reset.admits rq (K.SSQ_CMD 2) 1 1 ∧ State.reset.dev.get (K.SSQ_STATE 2) ≠ 2) ∧
    ((ssq 0 {}).admits rq (K.SSQ_CMD 2) 1 1 ∧ (ssq 0 {}).dev.get (K.SSQ_STATE 2) = 2) ∧
    (∀ op ∈ [0, 1, 2, 3, 4, 5], (ssq (op * 2 ^ 28 + 5 * 2 ^ 23 + 500) {}).up ∧ (ssq (op * 2 ^ 28 + 5 * 2 ^ 23 + 500) {}).dev.get (K.SSQ_STATE 2) = 2 ∧
      bits ((ssq (op * 2 ^ 28 + 5 * 2 ^ 23 + 500) {}).dev.ssqStep 2) 28 4 = op ∧
      bits ((ssq (op * 2 ^ 28 + 5 * 2 ^ 23 + 500) {}).dev.ssqStep 2) 0 23 = 500 ∧
      (ssq (op * 2 ^ 28 + 5 * 2 ^ 23 + 500) {}).dev.ssqTurn 2 = true ∧ 5 ∉ (ssq (op * 2 ^ 28 + 5 * 2 ^ 23 + 500) {}).dev.pwr.mvDue) ∧
    ((behindOther (ssq (2 * 2 ^ 28 + 5 * 2 ^ 23) {})).up ∧ (behindOther (ssq (2 * 2 ^ 28 + 5 * 2 ^ 23) {})).dev.ssqTurn 2 = false ∧
      (behindOther (ssq (2 * 2 ^ 28 + 5 * 2 ^ 23) {})).dev.get (K.SSQ_STATE 2) = 2) ∧
    (rail5.dev.get (K.RAIL_STATE 5) = 1) ∧
    (499 < 500 ∧ 500 ≤ 500 ∧ 500 < 65536) ∧
    (1000 ≤ (Table.at (ssq (5 * 2 ^ 28) ⟨0, 999, 0⟩).dev.ssqs {} 2).polls + 1 ∧
      (Table.at (ssq (5 * 2 ^ 28) ⟨0, 998, 0⟩).dev.ssqs {} 2).polls + 1 < 1000) := by
  simp only [State.admits, State.ready, State.up]; decide

theorem test_ssq : after (.ssqRun rq 2) State.reset (K.SSQ_RUNS 2) = some 1 ∧
    after (.ssqStepDone 2) (ssq (1 * 2 ^ 28 + 5 * 2 ^ 23) {}) (K.RAIL_STATE 5) = some 1 ∧
    after (.ssqStepDone 2) (ssq (3 * 2 ^ 28 + 5 * 2 ^ 23 + 900) {}) (K.RAIL_MV 5) = some 900 ∧
    after (.waitBelowPoll 2 501 true) (ssq (5 * 2 ^ 28 + 5 * 2 ^ 23 + 500) {}) (K.SSQ_STATE 2) = some 5 := by
  decide

/-- Write list 3 runs at entry `i`. -/
def wl (i : Nat) (l : List (Nat × Nat)) : State :=
  dev (on 2 ((K.WL_STATE 3, 2) :: l)) (fun d => { d with wls := [(3, ⟨i⟩)] })

theorem witness_SpiTransfersAndLists :
    ((wl 0 [(K.WL_ENTRY 3 0, 2 ^ 58 + 2 ^ 61)]).admits rq (K.SPI_XFER 1) 8 (2 ^ 58) ∧ (wl 0 [(K.WL_ENTRY 3 0, 2 ^ 58 + 2 ^ 61)]).dev.listUses 1 = true) ∧
    (State.reset.admits rq (K.SPI_XFER 7) 8 (6 * 2 ^ 58) ∧ State.reset.dev.listUses 7 = false ∧ 1 ≤ bits (6 * 2 ^ 58) 58 3) ∧
    (State.reset.admits rq (K.SPI_XFER 7) 8 0 ∧ bits 0 58 3 = 0) ∧
    (State.reset.admits rq (K.WL_CMD 3) 1 1 ∧ State.reset.dev.get (K.WL_STATE 3) ≠ 2) ∧ (wl 0 []).admits rq (K.WL_CMD 3) 1 1 ∧
    ((wl 0 []).up ∧ (wl 0 []).dev.get (K.WL_STATE 3) = 2 ∧ bits ((wl 0 []).dev.get (K.WL_ENTRY 3 0)) 58 3 = 0) ∧
    (bits ((wl 62 [(K.WL_ENTRY 3 62, 2 ^ 58), (K.WL_ENTRY 3 63, 2 ^ 58)]).dev.get (K.WL_ENTRY 3 62)) 58 3 ≠ 0 ∧
      bits ((wl 62 [(K.WL_ENTRY 3 62, 2 ^ 58), (K.WL_ENTRY 3 63, 2 ^ 58)]).dev.get (K.WL_ENTRY 3 63)) 58 3 ≠ 0) ∧
    (bits ((wl 63 [(K.WL_ENTRY 3 63, 2 ^ 58)]).dev.get (K.WL_ENTRY 3 63)) 58 3 ≠ 0 ∧
      (Table.at (wl 63 [(K.WL_ENTRY 3 63, 2 ^ 58)]).dev.wls {} 3).entry = 63) := by
  simp only [State.admits, State.ready, State.up]; decide

theorem test_spi : after (.spiXfer rq 7 (2 ^ 58) 0x1234) State.reset (K.SPI_XFER 7) = some 0x34 ∧
    after (.wlRun rq 3) State.reset (K.WL_RUNS 3) = some 1 ∧ after (.wlEntryDone 3 0) (wl 0 []) (K.WL_STATE 3) = some 4 := by
  decide

/-! The Winder. -/

/-- The Winder runs routine `id` in the foreground. -/
def wnd (id : Nat) (l : List (Nat × Nat)) (w : Winder) : State :=
  dev (on 7 ((K.WND_STATE, 2) :: l)) (fun d => { d with wnd := { w with routine := id } })

theorem witness_WinderRunsARoutine :
    ((on 2 [(K.WND_ROUTINE, 1), (K.WND_ARG, 0)]).admits rq K.WND_CMD 1 1 ∧ wndArgOk 1 0 = false) ∧
    ((wnd 1 [(K.WND_ROUTINE, 8), (K.WND_ARG, 1)] {}).admits rq K.WND_CMD 1 1 ∧ wndArgOk 8 1 = true ∧
      (wnd 1 [(K.WND_ROUTINE, 8), (K.WND_ARG, 1)] {}).dev.wndBusy = true) ∧
    ((on 2 [(K.WND_ROUTINE, 1), (K.WND_ARG, 1)]).admits rq K.WND_CMD 1 1 ∧ wndArgOk 1 1 = true ∧ (on 2 []).dev.wndBusy = false ∧
      setBits 4 1 = [0] ∧ (on 2 []).dev.tmuFree 0 = true ∧ (on 2 []).dev.get (K.LIN_STATE 0) ≠ 2) ∧
    ((on 2 [(K.WND_ROUTINE, 2), (K.WND_ARG, 63), (K.SITE_SEQ 127, 63), (K.SITE_ENABLE 127, 1)]).admits rq K.WND_CMD 1 1 ∧
      wndArgOk 2 63 = true ∧ (on 2 [(K.SITE_SEQ 127, 63), (K.SITE_ENABLE 127, 1)]).dev.get (K.SEQ_STATE 63) = 0 ∧
      ∃ m ∈ (on 2 [(K.SITE_SEQ 127, 63), (K.SITE_ENABLE 127, 1)]).dev.sitesOf 63,
        (on 2 [(K.SITE_SEQ 127, 63), (K.SITE_ENABLE 127, 1)]).dev.get (K.SITE_ENABLE m) = 1) ∧
    (wndArgOk 3 60000 = true ∧ (on 2 [(K.SYNC_STATE, 2), (K.SYNC_ROLE, 1)]).dev.syncStopped = true ∧
      (on 2 [(K.SYNC_STATE, 2), (K.SYNC_ROLE, 1)]).dev.get K.SYNC_STATE = 2 ∧
      (on 2 [(K.SYNC_STATE, 2), (K.SYNC_ROLE, 1)]).dev.get K.SYNC_ROLE ∈ [1, 2]) ∧
    (wndArgOk 8 15 = true ∧ ∀ k ∈ setBits 4 15, (on 2 []).dev.tmuFree k = true) ∧
    (wndArgOk 9 1 = true ∧ (∀ n, n < 64 → (on 2 [(K.TMU_CALIBRATED 0, 1)]).dev.get (K.SEQ_STATE n) = 0) ∧
      (on 2 [(K.TMU_CALIBRATED 0, 1)]).dev.get (K.TMU_CALIBRATED 0) = 1) ∧
    ((on 2 []).admits rq K.WND_CMD 1 2 ∧ (on 2 []).dev.wndBusy = false) ∧
    ((wnd 1 [(K.WND_STATUS, 32)] {}).admits rq K.WND_CMD 1 2 ∧ (wnd 1 [(K.WND_STATUS, 32)] {}).dev.wndBusy = true ∧
      bit ((wnd 1 [(K.WND_STATUS, 32)] {}).dev.get K.WND_STATUS) 5 = true) ∧
    ((wnd 1 [] {}).admits rq K.WND_CMD 1 2 ∧ (wnd 1 [] {}).dev.get K.WND_STATE = 2 ∧ bit ((wnd 1 [] {}).dev.get K.WND_STATUS) 5 = false ∧
      (wnd 1 [] {}).dev.wnd.phase ≠ 1 ∧ (wnd 1 [] { phase := 1 }).dev.wnd.phase = 1) ∧
    ((wnd 6 [(K.WND_STATE, 3)] {}).admits rq K.WND_CMD 1 2 ∧ (wnd 6 [(K.WND_STATE, 3)] {}).dev.get K.WND_STATE = 3 ∧
      bit ((wnd 6 [(K.WND_STATE, 3)] {}).dev.get K.WND_STATUS) 5 = false) := by
  simp only [State.admits, State.ready, State.up]
  (repeat' apply And.intro) <;> decide

/-- After reset no channel has an owner: the remaining hypothesis of a linearity RUN. -/
theorem witness_WinderRunsARoutine_noOwner (ch : Nat) : State.reset.dev.ownersOf ch = [] := by
  have h : ∀ m, m < 128 → State.reset.dev.get (K.SITE_SEQ m) = 255 := by decide
  simp only [Dev.ownersOf, List.map_eq_nil_iff, List.filter_eq_nil_iff, List.mem_range]
  intro m hm
  rw [h m hm]
  simp

/-- A state whose object index 0x0740, 0x0800 or TMU is ABORTED with FK 28 latched there. -/
def aborts (st idx key : Nat) (v : List (Nat × Nat)) : State :=
  { on st ((key, 5) :: v) with dev := { (on st ((key, 5) :: v)).dev with latched := [(idx, 2 ^ 28)] } }

theorem witness_WinderRunsARoutine_latched :
    ((aborts 2 0x0740 K.WND_STATE [(K.WND_ROUTINE, 8), (K.WND_ARG, 15)]).admits rq K.WND_CMD 1 1 ∧
      (aborts 2 0x0740 K.WND_STATE [(K.WND_ROUTINE, 8), (K.WND_ARG, 15)]).dev.wndBusy = false ∧
      (aborts 2 0x0740 K.WND_STATE []).dev.latchHeld 0x0740 K.WND_STATE = true ∧
      (on 2 [(K.WND_STATE, 5)]).dev.latchHeld 0x0740 K.WND_STATE = false ∧
      (aborts 2 0x0740 K.WND_STATE [(K.DDR_STATE, 1)]).admits rq K.DDR_CMD 1 1 ∧
      (aborts 2 0x0740 K.WND_STATE [(K.DDR_STATE, 1)]).dev.get K.DDR_STATE = 1) ∧
    ((aborts 2 0x1607 (K.TMU_STATE 3) [(K.PD_STATE 49, 2)]).admits rq (K.TMU_CMD 3) 1 1 ∧
      ((aborts 2 0x1607 (K.TMU_STATE 3) [(K.PD_STATE 49, 2)]).dev.tmu 3).holder = 0 ∧
      (aborts 2 0x1607 (K.TMU_STATE 3) [(K.PD_STATE 49, 2)]).dev.latchHeld 0x1607 (K.TMU_STATE 3) = true) := by
  simp only [State.admits, State.ready, State.up]; decide +kernel

theorem test_latchHeld : aborted (.wndRun rq) (aborts 2 0x0740 K.WND_STATE [(K.WND_ROUTINE, 8), (K.WND_ARG, 15)]) = some 6 ∧
    aborted (.ddrInit rq) (aborts 2 0x0740 K.WND_STATE [(K.DDR_STATE, 1)]) = some 6 ∧
    aborted (.tmuStart rq 3) (aborts 2 0x1607 (K.TMU_STATE 3) [(K.PD_STATE 49, 2)]) = some 6 := by
  decide +kernel

theorem test_wndRun : after (.wndRun rq) (on 2 [(K.WND_ROUTINE, 8), (K.WND_ARG, 15)]) K.WND_STATE = some 2 ∧
    aborted (.wndRun rq) (on 2 [(K.WND_ROUTINE, 8), (K.WND_ARG, 16)]) = some 5 ∧ aborted (.wndAbort rq) (on 2 []) = some 6 := by
  decide

/-- A pending SHED_SEQ pass at a shed level. -/
def passAt (lv : Nat) : State := dev (on 7 [(K.SHED_LEVEL, lv)]) (fun d => { d with wnd := { shedPend := true } })

/-- PCH_CAL whose EXIT_LIST 15 runs, in a phase of the routine. -/
def leaving (phase : Nat) : State := wnd 1 [(K.WL_STATE 15, 2)] { phase := phase, arg := 15 * 2 ^ 16 + 1, endRes := 2 }

theorem witness_WinderServicePasses :
    ((wnd 1 [] { waiting := true }).dev.wnd.waiting = true ∧ (wnd 1 [] { waiting := true }).dev.wnd.phase = 0 ∧
      (wnd 1 [] {}).dev.wnd.waiting = false ∧ (wnd 1 [] { phase := 1 }).dev.wnd.phase = 1 ∧ (wnd 6 [] {}).dev.wnd.therm = none ∧
      (wnd 6 [] {}).dev.wnd.adapts = [] ∧ (wnd 1 [] { therm := some [5] }).dev.wnd.therm = some [5]) ∧
    (∀ p ∈ [0, 1, 2], (leaving p).up ∧ (leaving p).dev.get K.WND_STATE = 2 ∧ bits (leaving p).dev.wnd.arg 16 8 = 15 ∧
      (leaving p).dev.get (K.WL_STATE 15) = 2 ∧ (leaving p).dev.wnd.phase = p ∧
      bits ((leaving p).dev.get (K.WL_ENTRY 15 (Table.at (leaving p).dev.wls {} 15).entry)) 58 3 = 0) ∧
    ((on 2 []).dev.get K.WND_STATE ≠ 2 ∧ (dev (on 2 []) (fun d => { d with wnd := { shedPend := true, thermDue := true } })).dev.wnd.thermDue = true) ∧
    ((wnd 1 [] { intr := 1 }).up ∧ (wnd 1 [] { intr := 1 }).dev.get K.WND_STATE = 2 ∧ (wnd 1 [] { intr := 1 }).dev.wnd.shedPend = false ∧
      (wnd 1 [] { intr := 1 }).dev.wnd.intr ≠ 0 ∧
      bit (((wnd 1 [] { intr := 1 }).dev.keepMax K.SAFE_GAP_MAX (((wnd 1 [] { intr := 1 }).dev.clk - 0) * 5 / 2)).get K.WND_STATUS) 5 = false) ∧
    (∀ lv ∈ [1, 2], (wnd 6 [(K.SHED_LEVEL, lv)] {}).dev.wnd.intr = 0 ∧ (wnd 6 [(K.SHED_LEVEL, lv)] {}).dev.wnd.routine = 6 ∧
      (wnd 6 [(K.SHED_LEVEL, lv)] {}).dev.get K.SHED_LEVEL ∈ [1, 2]) ∧
    ((wnd 1 [] {}).dev.wnd.intr = 0 ∧ (wnd 1 [] {}).dev.wnd.routine ≠ 6) ∧
    ((on 2 [(K.THERM_EN, 1)]).up ∧ (on 2 [(K.THERM_EN, 1)]).dev.get K.THERM_EN = 1 ∧ (on 2 [(K.THERM_EN, 1)]).dev.wnd.thermDue = false) ∧
    (wnd 1 [] { thermDue := true }).dev.wnd.thermDue = true ∧ (wnd 1 [] { thermDue := true }).up ∧
    (∀ lv ∈ [0, 1, 2, 3, 4], (passAt lv).up ∧ (passAt lv).dev.wnd.shedPend = true ∧ (passAt lv).dev.get K.SHED_LEVEL = lv ∧ (passAt lv).dev.get K.WND_STATE ≠ 2) := by
  simp only [State.up]; decide

theorem test_exitList : after (.wlEntryDone 15 0) (leaving 1) K.WND_STATE = some 5 ∧ after (.wlEntryDone 15 0) (leaving 1) K.WND_STATUS = some (64 + 2) ∧
    after (.wlEntryDone 15 0) (leaving 2) K.WND_STATE = some 4 := by
  decide

theorem test_thermTrackDue : (match exec .thermTrackDue (on 2 [(K.THERM_EN, 1)]) with | .next t => t.dev.wnd.thermDue | _ => false) = true := by
  decide

/-- The Winder at micro-word 0, whose byte 3 is `b`. -/
def micro (b : Byte) (w : Winder) : State := mem (wnd 1 [] w) (microAt 3) [b]

/-- The Winder at a known SAFE word with an ARG. -/
def safeWord (arg : Nat) : State := mem (wnd 1 [] {}) (microAt 0) (toBytes 4 (5 * 2 ^ 28 + arg))

theorem word_of {m : Memory} {a n : Nat} {x : Byte} (h : Memory.look m a = some x) (hn : x.toNat / 16 = n) :
    ∀ b, Memory.look m a = some b → b.toNat / 16 = n := by
  intro b hb
  rw [h] at hb
  cases hb
  exact hn

theorem witness_MicroWordsSequence :
    (∀ op : Fin 9, ∀ b, Memory.look (micro (BitVec.ofNat 8 (16 * op.val)) {}).mem (microAt 3) = some b → b.toNat / 16 = op.val) ∧
    (∀ b, Memory.look (micro 0x90#8 {}).mem (microAt 3) = some b → 9 ≤ b.toNat / 16) ∧
    ((micro 0#8 {}).up ∧ (micro 0#8 {}).dev.get K.WND_STATE = 2 ∧ (micro 0#8 {}).dev.wnd.shedPend = false ∧
      (micro 0#8 {}).dev.wnd.intr = 0 ∧ (micro 0#8 {}).dev.wnd.routine ∉ [4, 6] ∧ (micro 0#8 {}).dev.wnd.stack = [] ∧
      (micro 0#8 {}).dev.wnd.stack.length < 8) ∧
    (8 ≤ (micro 0x30#8 { stack := [1, 2, 3, 4, 5, 6, 7, 8] }).dev.wnd.stack.length ∧
      (micro 0x40#8 { stack := [1] }).dev.wnd.stack = 1 :: []) ∧
    ((micro 0x60#8 {}).dev.wnd.phase = 0 ∧ (micro 0x60#8 {}).dev.wnd.waiting = false ∧ (micro 0x60#8 { waiting := true }).dev.wnd.waiting = true ∧
      (micro 0x60#8 {}).dev.wnd.therm = none ∧ (micro 0x60#8 {}).dev.wnd.adapts = [] ∧ (micro 0x50#8 {}).dev.skewOut = false ∧
      microKnown (micro 0x50#8 {}).mem (micro 0x50#8 {}).dev = false ∧ microKnown (safeWord 0x5001).mem (safeWord 0x5001).dev = true ∧
      (micro 0x70#8 { loops := 2 }).dev.wnd.loops = 2 ∧ (micro 0x70#8 { loops := 1 }).dev.wnd.loops = 1) ∧
    (bits 0 0 12 = 0 ∧ bits 5 0 12 ≠ 0 ∧ 0 + 4000 * bits 5 0 12 ≤ 20000 ∧ 19999 < 0 + 4000 * bits 5 0 12 ∧ 16 ≤ bits (255 * 2 ^ 16 + 1) 16 8 ∧ bits 1 16 8 < 16) ∧
    (bits (Memory.rdVal (mem (micro 0x20#8 {}) (microAt 0) (toBytes 4 (2 * 2 ^ 28 + 5 * 2 ^ 14))).mem 0 (microAt 0) 4 % 2 ^ 17) 14 3 = 5 ∧
      bits (Memory.rdVal (mem (micro 0x20#8 {}) (microAt 0) (toBytes 4 (2 * 2 ^ 28 + 4 * 2 ^ 14))).mem 0 (microAt 0) 4 % 2 ^ 17) 14 3 ≠ 5) ∧
    (bit ((wnd 1 [(K.WND_STATUS, 32)] {}).dev.get K.WND_STATUS) 5 = true ∧ bit ((wnd 1 [] {}).dev.get K.WND_STATUS) 5 = false ∧
      (wnd 4 [] {}).dev.wnd.routine = 4 ∧
      (wnd 8 [] {}).dev.wnd.routine ∉ [1, 4, 6]) := by
  refine ⟨fun op => word_of (x := BitVec.ofNat 8 (16 * op.val)) ?_ ?_, fun b h => ?_, by simp only [State.up]; decide, by decide, by decide, by decide, by decide, by decide⟩
  · revert op; decide
  · revert op; decide
  · exact Nat.le_of_eq (word_of (x := 0x90#8) (n := 9) (by decide) (by decide) b h).symm

theorem test_microWaits : (match exec (.microWaite 0 false) (mem (micro 0x60#8 {}) (microAt 0) (toBytes 4 (6 * 2 ^ 28 + 5))) with
    | .next t => (t.dev.wnd.pc, t.dev.wnd.waiting) | _ => (9, false)) = (0, true) ∧
    (match exec (.microSafe 0) (safeWord (2 ^ 16 + 7)) with
    | .next t => (t.dev.get K.WND_STATUS, t.dev.wnd.pc) | _ => (0, 0)) = (7 * 256 + 32, 1) := by
  decide

theorem test_microJmp : (match exec (.microJmp 0) (mem (micro 0x10#8 {}) (microAt 0) (toBytes 4 (2 ^ 28 + 100))) with
    | .next t => t.dev.wnd.pc | _ => 0) = 100 := by
  decide

theorem test_microCall : (match exec (.microCall 0) (mem (micro 0x30#8 {}) (microAt 0) (toBytes 4 (3 * 2 ^ 28 + 100))) with
    | .next t => (t.dev.wnd.pc, t.dev.wnd.stack) | _ => (0, [])) = (100, [1]) := by
  decide

/-! Sequencers, sites, vector positions, trigger lines, pattern data. -/

/-- Sequencer 0 with one site that has no channel, an image of one 64-VP segment and its partition: it may be armed. -/
def armable (l : List (Nat × Nat)) : State :=
  let s := on 3 ([(K.IMAGE_STATUS 0, 2), (K.SEG_COUNT 0, 1), (K.SITE_SEQ 0, 0), (K.SITE_ENABLE 0, 1),
    (K.LOOP_LATENCY 0, 100000), (K.ACT_PERIOD 0 0, 156250), (K.PD_STATE 2, 2), (K.PD_STATE 6, 2), (K.PD_STATE 26, 2),
    (K.LODE_LINES 0, 16)] ++ l)
  mem (mem (mem s (domAt (K.PATTERN_IMAGE 0) 0) (toBytes 64 (2 * 2 ^ 32 + 2 ^ 224 + 16 * 2 ^ 288)))
    (poolAt 0) (toBytes 32 (2 ^ 200 + 64 * 2 ^ 224))) (lodeAt 0) (toBytes 64 0)

theorem foldl_stays {α : Type} {f : α → α → α} {w : α} : ∀ {l : List α}, (∀ r ∈ l, f w r = w) → l.foldl f w = w
  | [], _ => rfl
  | r :: l, h => by
    rw [List.foldl_cons, h r (List.mem_cons_self ..)]
    exact foldl_stays (fun x hx => h x (List.mem_cons_of_mem _ hx))

theorem armable_ok : armChecks (armable []).mem (armable []).dev 0 = .ok () ∧ tminP (armable []).mem (armable []).dev 0 = 40000 ∧
    armChecks (armable [(K.ACT_PERIOD 0 0, 15000)]).mem (armable [(K.ACT_PERIOD 0 0, 15000)]).dev 0 = .ok () ∧
    tminP (armable [(K.ACT_PERIOD 0 0, 15000)]).mem (armable [(K.ACT_PERIOD 0 0, 15000)]).dev 0 = 3840 := by
  decide +kernel

/-- At the least period of its set the sequencer's demand on bank 0 is the worst, and within its limit. -/
theorem armable_budget : (budgetReport (armable []).mem (armable []).dev 0 40000).2 = true := by
  simp only [budgetReport]
  rw [foldl_stays (w := (0, 0)) (by decide +kernel)]
  decide +kernel

/-- At a period of 15 ps it is not. -/
theorem armable_overBudget : (budgetReport (armable [(K.ACT_PERIOD 0 0, 15000)]).mem
    (armable [(K.ACT_PERIOD 0 0, 15000)]).dev 0 3840).2 = false := by
  simp only [budgetReport]
  rw [foldl_stays (w := (0, 0)) (by decide +kernel)]
  decide +kernel

/-- Sequencer 0 in a state, with what its run holds. -/
def seq (st : Nat) (l : List (Nat × Nat)) (r : SeqRun) : State :=
  dev (on 3 ((K.SEQ_STATE 0, st) :: l)) (fun d => { d with runs := [(0, r)] })

theorem witness_SequencerCommands :
    ((on 3 []).admits rq (K.SEQ_CMD 0) 1 1 ∧ (armable []).admits rq (K.SEQ_CMD 0) 1 1) ∧
    (∀ st ∈ [0, 1, 2, 3, 4, 5], (seq st [] {}).admits rq (K.SEQ_CMD 0) 1 2 ∧ (seq st [] {}).admits rq (K.SEQ_CMD 0) 1 3 ∧
      (seq st [] {}).admits rq (K.SEQ_CMD 0) 1 4 ∧ (seq st [] {}).admits rq (K.SEQ_CMD 0) 1 5 ∧ (seq st [] {}).admits rq (K.SEQ_CMD 0) 1 6 ∧
      (seq st [] {}).admits rq (K.SEQ_CMD 0) 1 7 ∧ (seq st [] {}).dev.get (K.SEQ_STATE 0) = st) ∧
    ((seq 1 [] {}).dev.loading [K.PATTERN_IMAGE 0] = false ∧ (seq 1 [] {}).dev.wndHoldsSeq 0 = false ∧ (seq 1 [] {}).dev.bondOf 0 = none ∧
      ((seq 1 [] {}).dev.run 0).startTick = none ∧ (seq 1 [] {}).dev.get (K.START_AT 0) = 0) ∧
    ((seq 1 [(K.START_AT 0, 200)] {}).dev.get (K.START_AT 0) ≠ 0 ∧
      (seq 1 [(K.START_AT 0, 200)] {}).dev.tb1 + 200 + 0 ≤ (seq 1 [(K.START_AT 0, 200)] {}).dev.get (K.START_AT 0)) ∧
    ((seq 1 [(K.START_AT 0, 199)] {}).dev.get (K.START_AT 0) ≠ 0 ∧
      (seq 1 [(K.START_AT 0, 199)] {}).dev.get (K.START_AT 0) < (seq 1 [(K.START_AT 0, 199)] {}).dev.tb1 + 200 + 0) ∧
    ((seq 1 [(K.BOND_GROUP 0, 1), (K.BOND_CFG 0, 3), (K.SEQ_STATUS 0, 2)] {}).dev.bondOf 0 = some (0, 3) ∧ bit 3 1 = true ∧
      bit ((seq 1 [(K.BOND_GROUP 0, 1), (K.BOND_CFG 0, 3), (K.SEQ_STATUS 0, 2)] {}).dev.get (K.SEQ_STATUS 0)) 1 = true) ∧
    (((seq 2 [] {}).dev.run 0).drain = 0 ∧ ((seq 2 [] { drain := 1 }).dev.run 0).drain ≠ 0) ∧
    ((seq 2 [(K.CYCLE 0, 1)] {}).dev.get (K.CYCLE 0) % 8 ≠ 0) ∧
    ((seq 1 [(K.BOND_GROUP 0, 1), (K.BOND_CFG 0, 1), (K.START_SRC 0, 3)] {}).admits rq (K.SEQ_CMD 0) 1 3 ∧
      (seq 1 [(K.BOND_GROUP 0, 1), (K.BOND_CFG 0, 1), (K.START_SRC 0, 3)] {}).dev.bondOf 0 = some (0, 1) ∧
      (seq 1 [(K.BOND_GROUP 0, 1), (K.BOND_CFG 0, 1), (K.START_SRC 0, 3)] {}).dev.get (K.START_SRC 0) % 8 = 3) ∧
    ((seq 2 [] { drain := 3 }).admits rq (K.SEQ_CMD 0) 1 6 ∧ 1 ≤ ((seq 2 [] { drain := 3 }).dev.run 0).drain ∧
      ((seq 2 [] { drain := 3 }).dev.run 0).drain < 4) := by
  simp only [State.admits, State.ready, State.up]; decide +kernel

theorem witness_SequencerCommands_gate :
    (∀ l ∈ [[], [(K.BOND_GROUP 0, 1), (K.BOND_CFG 0, 3)]],
      (seq 1 l {}).dev.gate ((seq 1 l {}).dev.seqDoms 0 ++ (if ((seq 1 l {}).dev.hewersOf 0).isEmpty then [] else [49])) none = .ok () ∧
      (seq 1 l {}).dev.loading ((seq 1 l {}).dev.armLoads 0) = false) ∧
    armChecks (on 3 []).mem (on 3 []).dev 0 = .error .state := by
  decide +kernel

theorem test_seqArm : after (.seqArm rq 0) (armable []) (K.SEQ_STATE 0) = some 1 ∧
    aborted (.seqArm rq 0) (armable [(K.ACT_PERIOD 0 0, 15000)]) = some 5 := by
  decide +kernel

theorem test_seqStart : (match exec (.seqStart rq 0) (seq 1 [] {}) with | .next t => (t.dev.run 0).startTick | _ => none) = some 200 ∧
    aborted (.seqStart rq 0) (seq 1 [(K.START_AT 0, 199)] {}) = some 5 := by
  decide +kernel

theorem test_seqJump : (match exec (.seqJump rq 0) (seq 2 [] {}) with | .next t => (t.dev.run 0).arrivals | _ => 0) = 1 := by decide +kernel

theorem test_seqPause : (match exec (.seqPause rq 0) (seq 2 [] {}) with | .next t => (t.dev.run 0).pauseReq | _ => false) = true ∧
    aborted (.seqPause rq 0) (seq 1 [] {}) = some 6 ∧ aborted (.seqResume rq 0) (seq 1 [] {}) = some 6 := by
  decide +kernel

theorem test_seqDisarm : after (.seqDisarm rq 0) (seq 1 [] {}) (K.SEQ_STATE 0) = some 0 ∧
    aborted (.seqDisarm rq 0) (seq 2 [] {}) = some 6 ∧ aborted (.seqStop rq 0) (seq 0 [] {}) = some 6 := by
  decide +kernel

theorem witness_RetireLatencyIsWholeGranules : State.reset.dev.get (K.BOND_GROUP 0) = 0 ∧ 1 ≤ 40000 ∧ (8 : Nat) % 8 = 0 ∧
    (on 2 [(K.LOOP_LATENCY 0, 1250000)]).dev.get (K.LOOP_LATENCY 0) * 256 ≤ 8 * (1000 * 40000) := by
  decide +kernel

theorem test_bondedMemberStarts : aborted (.seqStart rq 0) (seq 1 [(K.BOND_GROUP 0, 1), (K.BOND_CFG 0, 1), (K.START_SRC 0, 3)] {}) = some 6 ∧
    after (.startInstant 0) (seq 1 [(K.BOND_GROUP 0, 1), (K.BOND_CFG 0, 1), (K.START_SRC 0, 3)] {}) (K.SEQ_STATE 0) = some 5 := by
  decide +kernel

theorem test_retireLatency : (on 2 [(K.LOOP_LATENCY 0, 1250001)]).dev.groupRl 0 40000 = 16 := by decide +kernel

/-- Site 127 of sequencer 0 with a condition. -/
def siteAt (cond : Nat) (l : List (Nat × Nat)) : State := seq 2 ([(K.SITE_SEQ 127, 0), (K.SITE_COND 127, cond)] ++ l) {}

theorem witness_SiteCommandsWaitForTheBoundary :
    ((siteAt 1 []).dev.get (K.SEQ_STATE 0) = 2 ∧ ((siteAt 1 []).dev.run 0).drain = 0 ∧
      (siteAt 1 [(K.SEQ_STATE 0, 3)]).dev.get (K.SEQ_STATE 0) = 3) ∧
    (∀ v ∈ [1, 2], (on 3 []).admits rq (K.SITE_CMD 127) 1 v ∧ 64 ≤ (on 3 []).dev.get (K.SITE_SEQ 127)) ∧
    (∀ cond ∈ [0, 1, 2, 3], (siteAt cond []).admits rq (K.SITE_CMD 127) 1 1 ∧ (siteAt cond []).admits rq (K.SITE_CMD 127) 1 2 ∧
      (siteAt cond []).dev.get (K.SITE_COND 127) = cond ∧ (siteAt cond []).dev.get (K.SITE_SEQ 127) < 64 ∧
      (siteAt cond []).dev.get (K.SEQ_STATE 0) ∈ [2, 3]) ∧
    (siteAt 1 [(K.CYCLE 0, 7)]).dev.get (K.CYCLE 0) % 8 ≠ 0 := by
  simp only [State.admits, State.ready, State.up]; decide +kernel

theorem test_siteCmd : aborted (.sitePark rq 127) (on 3 []) = some 6 ∧
    after (.sitePark rq 127) (siteAt 1 [(K.SEQ_STATE 0, 3), (K.CYCLE 0, 7)]) (K.PARK_CAUSE 127) = some 2 ∧
    (match exec (.siteMask rq 127) (siteAt 1 [(K.CYCLE 0, 7)]) with | .next t => (t.dev.site 127).cmd | _ => 0) = 2 := by
  decide +kernel

/-- A segment of 128 VPs that repeats, condition `c`, FASTRES where asked. -/
def segment (c : Nat) (fast : Bool) : Commit :=
  ⟨0, 0, 128 * 2 ^ 224 + 2 ^ 200 + c * 2 ^ 156 + (if fast then 2 ^ 112 else 0), [], 0, [], []⟩

theorem witness_StartsHoldsAndJumps :
    ((seq 1 [] {}).up ∧ ((seq 1 [] {}).dev.run 0).startTick = none) ∧
    (∀ cfg ∈ [1, 3], ((seq 1 [(K.BOND_GROUP 0, 1), (K.BOND_CFG 0, cfg), (K.START_SRC 0, 3)] {}).dev.run 0).startTick = none ∧
      (seq 1 [(K.BOND_GROUP 0, 1), (K.BOND_CFG 0, cfg), (K.START_SRC 0, 3)] {}).dev.get (K.SEQ_STATE 0) = 1 ∧
      (seq 1 [(K.BOND_GROUP 0, 1), (K.BOND_CFG 0, cfg), (K.START_SRC 0, 3)] {}).dev.get (K.START_SRC 0) % 8 = 3 ∧
      (seq 1 [(K.BOND_GROUP 0, 1), (K.BOND_CFG 0, cfg), (K.START_SRC 0, 3)] {}).dev.bondOf 0 = some (0, cfg) ∧ bit cfg 1 = (cfg == 3)) ∧
    (((seq 1 [] { startTick := some 5 }).dev.run 0).startTick = some 5 ∧ (seq 1 [] { startTick := some 5 }).dev.get (K.SEQ_STATE 0) = 1 ∧
      (seq 3 [] { startTick := some 5 }).dev.get (K.SEQ_STATE 0) = 3) ∧
    (∀ h ∈ [1, 2], (seq 2 [(K.SEQ_STATUS 0, h * 256)] { holdThen := some (segment 0 false) }).dev.hold 0 = h ∧
      ((seq 2 [(K.SEQ_STATUS 0, h * 256)] { holdThen := some (segment 0 false) }).dev.run 0).holdLeft = 0) ∧
    ((seq 2 [(K.SEQ_STATUS 0, 3 * 256)] { cur := some (segment 0 false) }).dev.hold 0 = 3 ∧
      ((seq 2 [(K.SEQ_STATUS 0, 3 * 256)] { cur := some (segment 0 false) }).dev.run 0).flight = []) ∧
    ((seq 2 [] { arrivals := 1 }).dev.retiredUp 0 = true ∧
      ((seq 3 [] { arrivals := 1 }).dev.get (K.SEQ_STATE 0) = 3 ∧ (seq 3 [] { arrivals := 1 }).dev.get (K.CYCLE 0) % 8 = 0)) ∧
    (0 < ((seq 2 [] { arrivals := 1 }).dev.run 0).arrivals ∧ (seq 2 [] { arrivals := 1 }).dev.get (K.CYCLE 0) % 8 = 0 ∧
      (seq 2 [] { arrivals := 1 }).dev.hold 0 ≠ 1 ∧ (seq 2 [] { arrivals := 1 }).dev.extj 0 = false ∧
      ((seq 2 [] { arrivals := 1, cur := some (segment 0 false) }).dev.run 0).cur = some (segment 0 false) ∧
      segFast (segment 0 false).raw = false) ∧
    ((seq 2 [(K.SEQ_STATUS 0, 1)] { arrivals := 1 }).dev.extj 0 = true ∧ (seq 2 [(K.SEQ_STATUS 0, 256)] { arrivals := 1 }).dev.hold 0 = 1) ∧
    ((seq 2 [] { arrivals := 1, cur := some (segment 1 true) }).dev.hold 0 = 0 ∧ segFast (segment 1 true).raw = true ∧
      segCond (segment 1 true).raw = 1 ∧ bit (segment 1 true).raw 155 = false ∧
      ((seq 2 [] { arrivals := 1, cur := some (segment 1 true) }).dev.run 0).fast = none) ∧
    (seq 2 [(K.CYCLE 0, 3)] {}).dev.get (K.CYCLE 0) % 8 ≠ 0 := by
  simp only [State.up]; decide +kernel

theorem test_jumpRequest : after (.jumpRequestArrival 0) (seq 2 [(K.CYCLE 0, 16)] { arrivals := 1 }) (K.SEQ_STATUS 0) = some 1 ∧
    after (.jumpRequestArrival 0) (seq 2 [(K.SEQ_STATUS 0, 1)] { arrivals := 1 }) (K.EXTJ_MERGED 0) = some 1 := by
  decide +kernel

/-- Sequencer 0 inside a granule of a 128-VP segment, and inside a hold. -/
def inside : State := seq 2 [(K.CYCLE 0, 9), (K.ACT_PERIOD 0 0, 156250)] { cur := some (segment 0 false), off := 1 }
def holding (h : Nat) : State := seq 2 [(K.CYCLE 0, 9), (K.SEQ_STATUS 0, h * 256)] { holdLeft := 4, lastP := 40000 }

theorem witness_VectorPositionsIssue :
    (State.reset.up ∧ vpDue State.reset.mem State.reset.dev 0 = false) ∧
    (inside.up ∧ vpDue inside.mem inside.dev 0 = true ∧ inside.dev.get (K.CYCLE 0) + 1 < 2 ^ 48 ∧ inside.dev.get (K.CYCLE 0) % 8 ≠ 0 ∧
      (inside.dev.get (K.CYCLE 0) + 1) % 8 ≠ 0 ∧ inside.dev.hold 0 = 0 ∧ (inside.dev.run 0).cur = some (segment 0 false) ∧
      (inside.dev.run 0).off % 8 ≠ 0 ∧ (inside.dev.run 0).off + 64 ≠ segLen (segment 0 false).raw ∧
      (inside.dev.run 0).off + 1 ≠ segLen (segment 0 false).raw ∧ segCond (segment 0 false).raw ≠ 8 ∧
      (inside.dev.run 0).flight = []) ∧
    (∀ h ∈ [1, 2, 3], vpDue (holding h).mem (holding h).dev 0 = true ∧ (holding h).dev.hold 0 = h ∧ 0 < ((holding h).dev.run 0).holdLeft ∧
      ((holding h).dev.run 0).lastP ≠ 0 ∧ ((holding h).dev.run 0).flight = [] ∧ (holding h).dev.get (K.DEADTIME_VP 0) + 1 < 2 ^ 32) := by
  simp only [State.up]; decide +kernel

theorem test_vpIssue : after (.vpIssue 0 []) inside (K.CYCLE 0) = some 10 ∧ after (.vpIssue 0 []) (holding 1) (K.DEADTIME_VP 0) = some 1 := by
  decide +kernel

/-- The first granule of a slice of seam 0: expanded with an error or none, or missing. -/
def slice (err : Nat) (bad : Bool) (buf : Bool) : Slice :=
  { seam := 0, bad := bad, buf := if buf then [⟨0, 0, 0, 1, 7, err⟩] else [] }

/-- Sequencer 0 at the first VP of a segment of 64 or 128 VPs whose commit took sets 0 and 31, with CNT_OP `op`, KIND `kind`. -/
def first (op kind len : Nat) : Commit :=
  ⟨0, 5, len * 2 ^ 224 + 2 ^ 200 + 2 ^ 167 + kind * 2 ^ 144 + op * 2 ^ 137 + 77 * 2 ^ 113, [], 2 ^ 31 + 1, [], []⟩

def starting (op kind len : Nat) : State :=
  dev (seq 2 [(K.CYCLE 0, 8), (K.ACT_PERIOD 0 0, 156250), (K.TSET_PERIOD 0 31, 200000), (K.TSET_SEAL 0, 2 ^ 31 + 5), (K.EDGE_A 3 0, 9),
    (K.SITE_COND 3, 1), (K.SITE_SEQ 3, 0), (K.CNT 0, 6)]
    { cur := some (first op kind len), gang := [(3, 0)], stack := [9], takenPend := true })
    (fun d => { d with slices := [(0, [slice 0 false true])] })

theorem witness_SegmentsStart :
    (∀ k, k < 4 → (starting 1 0 128).dev.get (K.DWS_STATE k) ∉ [2, 3] ∧ ((starting 1 0 128).dev.dws k).pend = []) ∧
    (∀ p, p ∈ ((starting 1 0 128).dev.run 0).gang → p.1 < 256) ∧ ((starting 1 0 128).dev.run 0).takenPend = true ∧
    segCntOp (first 1 0 128).raw = 1 ∧ segCntOp (first 2 0 128).raw = 2 ∧ bit (segTrig (first 1 0 128).raw) 7 = true ∧
    (first 1 0 128).sets ≠ 0 ∧ (segment 0 false).sets = 0 ∧ bit (first 1 0 128).sets 31 = true ∧ bit (first 1 0 128).sets 2 = false ∧
    (starting 1 0 128).dev.get (K.HANDOVERS 0) + 1 < 2 ^ 32 := by
  decide +kernel

theorem test_segStart :
    let e := (segStart (starting 1 0 128).mem (starting 1 0 128).dev 0 (first 1 0 128)).2
    e.get (K.CUR_ENTRY 0) = 5 ∧ e.get (K.CNT 0) = 77 ∧ e.get (K.EXTJ_TAKEN 0) = 8 ∧ Table.at e.trigOut [] 7 = [28672000] ∧
    e.get (K.HANDOVER_ENTRY 0) = 5 ∧ e.get (K.ACT_PERIOD 0 31) = 200000 ∧ e.get (K.TSET_SEAL 0) = 4 ∧ e.get (K.ACT_EDGE_A 3 0) = 9 := by
  decide +kernel

/-- Ten segment entries of 0 in the pool, over a directory that marks no seam. -/
def entries : Memory := (mem (mem State.reset (poolAt 0) (toBytes 320 0)) (lodeAt 0) (toBytes 64 0)).mem

/-- A segment of two iterations with a condition. -/
def deciding (kind cond rep : Nat) : Commit := ⟨0, 5, 64 * 2 ^ 224 + rep * 2 ^ 200 + 3 * 2 ^ 184 + 4 * 2 ^ 168 + cond * 2 ^ 156 + kind * 2 ^ 144, [], 0, [], []⟩
def decides (kind cond rep : Nat) (st : List Nat) : Dev := (seq 2 [(K.CNT 0, 6)] { cur := some (deciding kind cond rep), stack := st }).dev

theorem witness_DecisionPoints :
    (∀ k ∈ [0, 3, 4, 5], segKind (deciding k 0 1).raw = k ∧ ((decides k 0 1 [9]).run 0).cur = some (deciding k 0 1)) ∧
    ((decides 3 0 1 [9]).run 0).stack.length < 16 ∧ ((decides 4 0 1 []).run 0).stack = [] ∧ ((decides 4 0 1 [9]).run 0).stack = 9 :: [] ∧
    (bit (segEntry entries (decides 3 0 1 [9]) 0 4) 107 = false ∧ bit (segEntry entries (decides 4 0 1 [9]) 0 9) 107 = false) ∧
    (condTrue (decides 0 2 1 []) 0 (deciding 0 2 1).raw).1 = true ∧ (condTrue (decides 0 0 1 []) 0 (deciding 0 0 1).raw).1 = false ∧
    (segRepeat (deciding 0 0 1).raw = 0 + 1 ∧ segRepeat (deciding 0 0 2).raw ≠ 0 + 1) ∧
    (∀ c ∈ [0, 1, 2, 4, 5, 7], segCond (deciding 0 c 1).raw = c) ∧ compareDep 0 = false ∧ compareDep 3 = true ∧
    (condTrue (decides 0 3 1 []) 0 (deciding 0 3 1).raw).1 = false ∧ (decides 0 2 1 []).activeSites 0 = [] := by
  decide +kernel

theorem test_decides :
    let after (k c r : Nat) (st : List Nat) : Option NextSeg := ((decidePoint entries (decides k c r st) 0).2.run 0).next
    let idx (x : Option NextSeg) : Option Nat := match x with | some (.seg c) => some c.idx | _ => none
    idx (after 3 0 1 []) = some 4 ∧ idx (after 4 0 1 [9]) = some 9 ∧ after 4 0 1 [] = some .halt ∧ after 5 0 1 [] = some .halt ∧
    idx (after 0 2 1 []) = some 4 ∧ idx (after 0 0 1 []) = some 3 ∧ after 0 3 1 [] = some .exhaust ∧ after 0 0 2 [] = some .again := by
  decide +kernel

/-- Sequencer 0 with one slice. -/
def sliced (x : Slice) : Dev := { (seq 2 [] { cur := some (segment 0 false) }).dev with slices := [(0, [x])] }

theorem witness_GranulesStart :
    (∀ e ∈ [0, 7, 8], Table.at (sliced (slice e false true)).slices [] 0 = [slice e false true] ∧ (slice e false true).bad = false ∧
      (segment 0 false).bad.contains (slice e false true).seam = false ∧ (findGran (slice e false true).buf 0 0 0).map (·.err) = some e) ∧
    (slice 0 true false).bad = true ∧ findGran (slice 0 false false).buf 0 0 0 = none := by
  decide +kernel

theorem test_granuleStart :
    (Table.at (granuleStart State.reset.mem (sliced (slice 8 false true)) 0 (segment 0 false) 0 0).2.slices [] 0).map (·.bad) = [true] ∧
    ((Table.at (granuleStart State.reset.mem (sliced (slice 0 false true)) 0 (segment 0 false) 0 0).2.slices [] 0).map (·.low)) = [1] := by
  decide +kernel

/-- The state once the granule of a state's first VP has begun. -/
def begun (s : State) (c : Commit) : Memory × Dev :=
  let g := granuleStart s.mem s.dev 0 c 0 0
  hewGranule g.1 g.2 0

theorem witness_GranuleVpsIssue :
    (∀ p ∈ [(1, 0, 128), (2, 0, 128), (3, 0, 128), (0, 5, 64)], let s := starting p.1 p.2.1 p.2.2; let c := first p.1 p.2.1 p.2.2
      (s.up ∧ vpDue s.mem s.dev 0 = true ∧ s.dev.hold 0 = 0 ∧ (s.dev.run 0).cur = some c ∧ (s.dev.run 0).off % 8 = 0 ∧
        s.dev.get (K.CYCLE 0) % 8 = 0 ∧ s.dev.get (K.CYCLE 0) + 1 < 2 ^ 48) ∧
      (atBoundary s.mem s.dev 0 = (s.mem, s.dev) ∧ atBoundary (begun s c).1 (begun s c).2 0 = begun s c) ∧
      ((begun s c).2.get (K.SEQ_STATE 0) = 2 ∧ ((begun s c).2.run 0).drain = 0 ∧ segCond c.raw ≠ 8 ∧ (s.dev.run 0).flight = []) ∧
      ((s.dev.run 0).off + 64 = segLen c.raw → segKind c.raw = 5) ∧
      (∀ k, k < 4 → s.dev.get (K.DWS_STATE k) ∉ [2, 3] ∧ (s.dev.dws k).pend = []) ∧ (∀ q, q ∈ (s.dev.run 0).gang → q.1 < 256)) ∧
    (segCntOp (first 1 0 128).raw = 1 ∧ segCntOp (first 2 0 128).raw = 2 ∧ segCntOp (first 3 0 128).raw = 3) ∧
    (0 + 64 = segLen (first 0 5 64).raw ∧ 0 + 64 ≠ segLen (first 1 0 128).raw) := by
  simp only [State.up]; decide +kernel

theorem test_firstVp :
    after (.vpIssue 0 []) (starting 3 0 128) (K.CNT 0) = some 76 ∧ after (.vpIssue 0 []) (starting 2 0 128) (K.CNT 0) = some 5 ∧
    after (.vpIssue 0 []) (starting 1 0 128) (K.CUR_ENTRY 0) = some 5 ∧
    (match exec (.vpIssue 0 []) (starting 0 5 64) with | .next t => (t.dev.run 0).next | _ => none) = some .halt := by
  decide +kernel

/-- A VP in flight, its results, and a run that has it oldest. -/
def vp (cyc : Nat) (res : List Res) : InFlight := ⟨cyc, 0, 0, (segment 0 false).raw, 0, false, false, 0, 0, res, [], 0⟩
def retiring (cyc : Nat) (r : Option (Nat × Nat)) : State :=
  seq 2 [(K.CYCLE 0, cyc), (K.RL 0, 8)] { flight := [{ vp 0 [] with iter := 1 }], resolved := r }

theorem witness_VectorPositionsRetire :
    (∀ q ∈ [(7, none), (9, none), (9, some (0, 0))], (retiring q.1 q.2).up ∧ (retiring q.1 q.2).dev.get (K.SEQ_STATE 0) = 2 ∧
      ((retiring q.1 q.2).dev.run 0).flight = [{ vp 0 [] with iter := 1 }] ∧ ((retiring q.1 q.2).dev.run 0).drain = 0 ∧
      (retiring q.1 q.2).dev.get (K.CYCLE 0) % 8 ≠ 0 ∧ ∀ e, e < 4 → (retiring q.1 q.2).dev.get (K.DWS_SEQ e) ≠ 0) ∧
    ((retiring 7 none).dev.get (K.CYCLE 0) < 0 + (retiring 7 none).dev.get (K.RL 0) + 1 ∧
      0 + (retiring 9 none).dev.get (K.RL 0) + 1 ≤ (retiring 9 none).dev.get (K.CYCLE 0)) ∧
    (((retiring 9 (some (0, 0))).dev.run 0).squashes { vp 0 [] with iter := 1 } = true ∧
      ((retiring 9 none).dev.run 0).squashes { vp 0 [] with iter := 1 } = false) ∧
    (let s := retiring 9 none
     let q := retireCounts s.mem (s.dev.setRun 0 { s.dev.run 0 with flight := [] }) 0 { vp 0 [] with iter := 1 }
     (q.2.run 0).drain = 0 ∧ q.2.get (K.CYCLE 0) % 8 ≠ 0) := by
  simp only [State.up]; decide +kernel

theorem test_vpRetire : after (.vpRetire 0 []) (retiring 9 (some (0, 0))) (K.SQUASHED_VP 0) = some 1 ∧
    after (.vpRetire 0 []) (retiring 7 (some (0, 0))) (K.SQUASHED_VP 0) = some 0 := by
  decide +kernel

/-- Site 3 owns channel 200; its result at a VP is a judged fail. -/
def failing (l : List (Nat × Nat)) : Dev := (on 3 ([(K.SITE_SEQ 3, 0), (K.SITE_COND 3, 1), (K.CHAN_MAP 3 3, 2 ^ 8)] ++ l)).dev
def badVp : InFlight := vp 77 [⟨200, 0, true, false, false⟩]

theorem witness_FirstFailIsRecorded :
    (failing []).discarded 3 badVp = false ∧ badVp.inMatch = false ∧ (∀ x ∈ badVp.res, x.chan < 256 ∧ x.inval = false) ∧
    (failing []).siteFails 3 badVp ≠ [] ∧ (failing []).get (K.SITE_FAILS 3) + 1 < 2 ^ 32 ∧ (failing []).get (K.SITE_FAILS 3) = 0 ∧
    (failing [(K.SITE_FAILS 3, 5)]).get (K.SITE_FAILS 3) ≠ 0 := by
  decide +kernel

theorem test_firstFail : ((failing []).siteRetire 0 3 badVp).get (K.FF_CYCLE 3) = 77 ∧
    ((failing []).siteRetire 0 3 badVp).get (K.FAIL_CHANS 3 3) = 2 ^ 8 := by
  decide +kernel

theorem witness_TriggerLines :
    (State.reset.up ∧ bit State.reset.dev.trigIn 7 = false ∧ bit State.reset.dev.tbus 7 ≠ true) ∧
    bit (dev State.reset (fun d => { d with trigIn := 128 })).dev.trigIn 7 = true ∧
    ((seq 2 [(K.EXTJ_SRC 0, 128)] {}).dev.get (K.SEQ_STATE 0) ∈ [2, 3] ∧ bit ((seq 2 [(K.EXTJ_SRC 0, 128)] {}).dev.get (K.EXTJ_SRC 0)) 7 = true) ∧
    Table.at (dev State.reset (fun d => { d with trigOut := [(7, [9, 4])] })).dev.trigOut [] 7 = [9, 4] ∧
    Table.at (dev State.reset (fun d => { d with trigOut := [(7, [9])] })).dev.trigOut [] 7 = [9] ∧ Table.at State.reset.dev.trigOut [] 7 = [] := by
  simp only [State.up]; decide +kernel

theorem test_trigOutEnd : (match exec (.trigOutEnd 7) (dev State.reset (fun d => { d with trigOut := [(7, [9, 4])] })) with
    | .next t => t.dev.trigOut | _ => []) = [(7, [9])] := by
  decide +kernel

/-- The decompressor of sequencer 0 in seam 0 at granule `g` of its sub-stream in line 4, whose first bits are `v`. -/
def expander (g : Nat) : Expander := ⟨0, 0, (segment 0 false).raw, 0, g, 0, 4, 2 ^ 32, 2 ^ 32, none, 0, some 9, false⟩
def stream (g v : Nat) : State :=
  mem (mem (dev (on 3 [(K.SEQ_STATE 0, 2), (K.LODE_LINES 0, 64), (K.DICT_COUNT 0, 0)])
    (fun d => { d with slices := [(0, [{ seam := 0, exp := some (expander g) }])] })) (lodeAt 64) (toBytes 80 v))
    (domAt (K.PATTERN_IMAGE 0) 0) (toBytes 64 (2 * 2 ^ 32))

theorem witness_BlocksExpand :
    (stream 1 1).up ∧ (stream 1 1).dev.seqLive 0 = true ∧
    (Table.at (stream 1 1).dev.slices [] 0).find? (fun y => y.seam == 0) = some { seam := 0, exp := some (expander 1) } ∧
    fillOf [] < 32 ∧ expReady ((stream 1 1).dev.run 0) 0 (some (expander 1)) = some (expander 1) ∧
    (∀ q ∈ [(0, 0), (1, 1), (2, 2), (3, 3), (4, 4), (5 + 16, 5), (7, 6)],
      (nextBlock (stream 1 q.1).mem (stream 1 q.1).dev 0 0 (expander 1)).map (·.type) = some q.2) := by
  simp only [State.up]; decide +kernel

theorem test_blocks : (match exec (.rep 0 0 0) (stream 1 1) with
      | .next t => (Table.at t.dev.slices [] 0).map (fun x => x.buf.map (·.codes)) | _ => []) = [[9]] ∧
    (match exec (.lit 0 0 0) (stream 1 (16 * 0xAB)) with
      | .next t => (Table.at t.dev.slices [] 0).map (fun x => x.buf.map (·.codes)) | _ => []) = [[0xAB]] := by
  decide +kernel

theorem test_run : (match exec (.run 0 0 0) (stream 1 (5 + 16 * 3)) with
      | .next t => (Table.at t.dev.slices [] 0).map (fun x => x.buf.map (fun y => (y.codes, y.n))) | _ => []) = [[(9, 3)]] := by
  decide +kernel

theorem witness_BlockMeanings :
    (∀ h ∈ [0, 1, 4, 5, 6, 15], readSub (stream 1 h).mem (stream 1 h).dev 0 (expander 1) 4 = .val h false) ∧
    imageField (armable []).mem (armable []).dev 0 32 8 ≠ 1 ∧
    imageField (mem State.reset (domAt (K.PATTERN_IMAGE 0) 0) (toBytes 64 (2 ^ 32))).mem State.reset.dev 0 32 8 = 1 ∧
    (expander 0).g = 0 ∧ 0 < (expander 1).g ∧
    readSub (stream 1 (16 * 7)).mem (stream 1 (16 * 7)).dev 0 (expander 1) 516 = .val (16 * 7) false ∧
    (readSub (stream 1 (5 + 16 * 15)).mem (stream 1 (5 + 16 * 15)).dev 0 (expander 1) 12 = .val (5 + 16 * 15) false ∧
      (5 + 16 * 15) / 16 ≠ 0 ∧ (expander 1).g + (5 + 16 * 15) / 16 ≤ granules (expander 1).entry) ∧
    (readSub (stream 1 5).mem (stream 1 5).dev 0 (expander 1) 12 = .val 5 false ∧ 5 / 16 = 0 ∧
      readSub (stream 1 (5 + 16 * 255)).mem (stream 1 (5 + 16 * 255)).dev 0 (expander 1) 12 = .val (5 + 16 * 255) false ∧
      granules (expander 1).entry < (expander 1).g + (5 + 16 * 255) / 16) := by
  decide +kernel

/-- A stream whose block is of a type with a dictionary of two entries at line 8. -/
def coded (l : List (Nat × Nat)) (v : Nat) : State :=
  let s := mem (stream 1 v) (lodeAt (16 * 12)) (toBytes 64 7)
  dev s (fun d => d.setAll ([(K.DICT_OFFSET 0, 8), (K.DICT_COUNT 0, 2)] ++ l))

theorem witness_BlockMeanings_coded :
    (readSub (coded [] 18).mem (coded [] 18).dev 0 (expander 0) 16 = .val 18 false ∧ (coded [] 18).dev.get (K.DICT_COUNT 0) = 2 ∧
      ¬ ((coded [] 18).dev.get (K.LODE_LINES 0) < 8 + 4 * (18 / 16) + 4) ∧ (∀ k < 4, (coded [] 18).dev.lineBad (coded [] 18).mem (12 + k) = false) ∧
      (dev (coded [] 18) (fun d => { d with badLode := [12] })).dev.lineBad (coded [] 18).mem 12 = true ∧ 2 ≤ 34 / 16) ∧
    (readSub (coded [] 19).mem (coded [] 19).dev 0 (expander 1) 20 = .val 19 false ∧
      readSub (coded [] 19).mem (coded [] 19).dev 0 (expander 1) (20 + 32 * popCount 16 1) = .val 19 false) ∧
    (readSub (coded [] 20).mem (coded [] 20).dev 0 (expander 1) 20 = .val 20 false ∧
      readSub (coded [] 20).mem (coded [] 20).dev 0 (expander 1) (20 + 8 * popCount 16 1) = .val 20 false ∧
      imageField (coded [] 20).mem (coded [] 20).dev 0 32 8 ≠ 1) := by
  decide +kernel

theorem test_codedBlocks :
    nextBlock (coded [] (3 + 16 * 2 + 2 ^ 20 * 5)).mem (coded [] (3 + 16 * 2 + 2 ^ 20 * 5)).dev 0 0 { expander 1 with prev := some 9 } =
      some ⟨3, 0, 9 + 5 * 16, 1, 52⟩ ∧
    nextBlock (coded [] (4 + 16 + 2 ^ 20)).mem (coded [] (4 + 16 + 2 ^ 20)).dev 0 0 { expander 1 with prev := some 0 } =
      some ⟨4, 0, 1, 1, 28⟩ ∧
    nextBlock (coded [] 18).mem (coded [] 18).dev 0 0 (expander 0) = some ⟨2, 0, 7, 1, 16⟩ ∧
    nextBlock (coded [] 34).mem (coded [] 34).dev 0 0 (expander 0) = some ⟨2, 7, 0, 1, 16⟩ := by
  decide +kernel

theorem witness_ScanKeepsUnmaskedPositions : (7 < 8 ∧ 15 < 16 ∧ 0x10 < 256 ∧ bit 0x8000 15 = true ∧ bit 0x8000 0 = false) := by decide +kernel

theorem test_scan : bits (scanCodes (fun _ => 0x10) 0 0x8000 1) 60 4 = 1 ∧ bits (scanCodes (fun _ => 0x10) 0 0x8000 1) 124 4 = 0 := by decide +kernel

theorem witness_DeltaKeepsUnmaskedPositions : (7 < 8 ∧ 15 < 16 ∧ bit 0x8000 15 = true ∧ bit 0x8000 0 = false) := by decide +kernel

theorem test_delta : bits (deltaCodes 0 0x8000 0xF) 60 4 = 0xF := by decide +kernel

/-- Window 15 of sequencer 63 with four lines to fetch. -/
def refill (l : List (Nat × Nat)) : State :=
  dev (on 3 ([(K.WIN_CFG 63 15, 256 * 2 ^ 27)] ++ l)) (fun d => { d with wins := [(16 * 63 + 15, { queue := [⟨0, 0, 4, 0, 7⟩] })] })

theorem witness_RefillFillsTheWindow :
    (State.reset.up ∧ (State.reset.dev.win 63 15).queue = [] ∧ State.reset.dev.get K.DDR_STATE ∉ [3, 5]) ∧
    ((refill [(K.DDR_STATE, 3)]).up ∧ ((refill [(K.DDR_STATE, 3)]).dev.win 63 15).queue = ⟨0, 0, 4, 0, 7⟩ :: [] ∧ (refill [(K.DDR_STATE, 3)]).dev.sliceBad 63 7 = false ∧
      (refill [(K.DDR_STATE, 3)]).dev.badDdr = [] ∧
      (refill [(K.DDR_STATE, 3)]).dev.get K.DDR_STATE = 3 ∧ (refill [(K.DDR_STATE, 3)]).dev.get (K.LODE_BASE 63) < 2 ^ 32 ∧
      0 - 0 + min 4 4 ≤ winSize ((refill [(K.DDR_STATE, 3)]).dev.get (K.WIN_CFG 63 15))) := by
  simp only [State.up]; decide +kernel

/-! Timing sets, spares, TMUs, epochs, Gallery frames, time bases, TIME frames, marks, alarms. -/

/-- Timing set 31 of sequencer 63 with a period. -/
def tset (st fs : Nat) (l : List (Nat × Nat)) : State := on 3 ([(K.SEQ_STATE 63, st), (K.TSET_PERIOD 63 31, fs)] ++ l)

theorem witness_TimingSetsSeal :
    ((tset 0 156250 []).admits rq (K.TSET_SEAL 63) 4 (2 ^ 31) ∧ (tset 0 156250 []).dev.sealCheck 63 (2 ^ 31) = .ok () ∧
      (tset 0 156250 []).dev.seqLive 63 = false ∧ 2 ^ 31 ≠ 0) ∧
    ((tset 2 156250 [(K.TMIN 63, 156250)]).dev.sealCheck 63 (2 ^ 31) = .ok () ∧ (tset 2 156250 [(K.TMIN 63, 156250)]).dev.seqLive 63 = true ∧
      (tset 2 156250 [(K.TMIN 63, 156250)]).admits rq (K.TSET_SEAL 63) 4 (2 ^ 31)) ∧
    (tset 0 0 []).dev.sealCheck 63 (2 ^ 31) = .error .range := by
  simp only [State.admits, State.ready, State.up]; decide +kernel

theorem test_tsetSeal : after (.tsetSeal rq 63 (2 ^ 31)) (tset 2 156250 [(K.TMIN 63, 156250)]) (K.TSET_SEAL 63) = some (2 ^ 31) ∧
    aborted (.tsetSeal rq 63 1) (on 3 [(K.TSET_SEAL 63, 1)]) = some 12 := by
  decide +kernel

theorem witness_SealChecksAreOrdered :
    bit ((on 3 [(K.TSET_SEAL 0, 1)]).dev.get (K.TSET_SEAL 0)) 0 = true ∧
    (bit (State.reset.dev.get (K.TSET_SEAL 0)) 31 = false ∧ State.reset.dev.claimed 0 31 = false ∧ State.reset.dev.get (K.TSET_PERIOD 0 31) = 0) ∧
    ((on 3 [(K.DWS_STATE 3, 3), (K.DWS_SEQ 3, 0), (K.DWS_TSET 3, 31)]).dev.claimed 0 31 = true ∧
      bit ((on 3 [(K.DWS_STATE 3, 3), (K.DWS_SEQ 3, 0), (K.DWS_TSET 3, 31)]).dev.get (K.TSET_SEAL 0)) 31 = false) ∧
    ((tset 2 156245 [(K.TMIN 63, 156250)]).dev.seqLive 63 = true ∧
      periodP ((tset 2 156245 [(K.TMIN 63, 156250)]).dev.get (K.TSET_PERIOD 63 31)) <
        periodP ((tset 2 156245 [(K.TMIN 63, 156250)]).dev.get (K.TMIN 63))) := by
  decide +kernel

theorem witness_SparesMapToFreeChannels :
    (∀ v ∈ [0, 63, 0xFF], (on 2 []).admits rq (K.SPE_TARGET 7) 1 v ∧ (v < 64 ∨ v = 0xFF)) ∧ (on 2 []).dev.underTest [22 + 7 / 2] none = false ∧
    ((on 2 [(K.PD_STATE 25, 2)]).admits rq (K.SPE_TARGET 7) 1 63 ∧ (on 2 [(K.PD_STATE 25, 2)]).dev.chanFree (3 * 64 + 63) = true ∧
      (on 2 [(K.PD_STATE 25, 2)]).dev.get (K.SPE_TARGET 6) ≠ 63) ∧
    (on 2 [(K.SPE_STATE 7, 2)]).dev.get (K.SPE_STATE 7) = 2 ∧ (on 2 []).dev.get (K.SPE_STATE 7) ≠ 2 ∧
    (on 2 [(K.SPE_TARGET 6, 63)]).dev.get (K.SPE_TARGET 6) = 63 ∧
    ((on 2 []).dev.get (K.SPE_TARGET 6) ≠ 63 ∧ (on 2 []).dev.chanFree (3 * 64 + 63) = true ∧ (on 2 []).dev.get (K.SPE_TARGET 7) = 0xFF) ∧
    (on 2 [(K.CHAN_MAP 0 3, 2 ^ 63), (K.SITE_COND 0, 1)]).dev.chanFree (3 * 64 + 63) = false := by
  simp only [State.admits, State.ready, State.up]; decide +kernel

theorem test_spares : after (.speTargetWrite rq 7 63) (on 2 [(K.PD_STATE 25, 2)]) (K.SPE_STATE 7) = some 1 ∧
    after (.speTargetWrite rq 7 63) (on 2 [(K.PD_STATE 25, 0)]) (K.SPE_STATE 7) = some 1 ∧
    aborted (.speTargetWrite rq 7 63) (on 2 [(K.PD_STATE 25, 2), (K.SPE_TARGET 6, 63)]) = some 5 := by
  decide +kernel

/-- TMU 3 in a state with domain 49 on. -/
def tmu (st : Nat) (l : List (Nat × Nat)) (holder : Nat) : State :=
  dev (on 2 ([(K.TMU_STATE 3, st), (K.PD_STATE 49, 2)] ++ l)) (fun d => { d with tmus := [(3, { holder := holder })] })

theorem witness_TmuMeasures :
    (∀ q ∈ [(2, 0), (0, 1), (0, 0), (4, 0)], (tmu q.1 [] q.2).admits rq (K.TMU_CMD 3) 1 1 ∧ (tmu q.1 [] q.2).dev.gate [49] none = .ok () ∧
      (tmu q.1 [] q.2).dev.domOn 49 = true ∧ (tmu q.1 [] q.2).dev.get (K.TMU_STATE 3) = q.1 ∧ ((tmu q.1 [] q.2).dev.tmu 3).holder = q.2) ∧
    ((tmu 2 [] 0).admits rq (K.TMU_CMD 3) 1 2 ∧ (tmu 0 [] 0).admits rq (K.TMU_CMD 3) 1 2) ∧
    ((tmu 2 [(K.TMU_SAMPLES 3, 2)] 0).up ∧ ((tmu 2 [(K.TMU_SAMPLES 3, 2)] 0).dev.tmu 3).holder = 0 ∧ 40000000 ≤ 40000000 ∧
      (tmu 2 [(K.TMU_SAMPLES 3, 2)] 0).dev.get (K.TMU_COUNT 3) + 1 < (tmu 2 [(K.TMU_SAMPLES 3, 2)] 0).dev.get (K.TMU_SAMPLES 3)) ∧
    ((tmu 2 [(K.TMU_SAMPLES 3, 1)] 0).dev.get (K.TMU_SAMPLES 3) ≤ (tmu 2 [(K.TMU_SAMPLES 3, 1)] 0).dev.get (K.TMU_COUNT 3) + 1 ∧
      (((tmu 2 [(K.TMU_SAMPLES 3, 1)] 0).dev.tmu 3).sum + 250 * 4) % (0 + 1) = 0) := by
  simp only [State.admits, State.ready, State.up]; decide +kernel

theorem test_tmu : after (.tmuSample 3 4) (tmu 2 [(K.TMU_SAMPLES 3, 1)] 0) (K.TMU_MEAN 3) = some 1000 ∧
    after (.tmuTimeout 3) (tmu 2 [] 0) (K.TMU_STATE 3) = some 5 ∧ aborted (.tmuStart rq 3) (tmu 0 [] 1) = some 7 ∧
    after (.tmuAbort rq 3) (tmu 2 [] 0) (K.TMU_STATE 3) = some 5 := by
  decide +kernel

theorem witness_EpochsZeroTb1 :
    ((on 2 []).admits rq K.SYNC_CMD 1 1 ∧ (on 2 []).dev.liveSeqs = [] ∧ (on 2 []).dev.alarmOn 1 = false) ∧
    ((on 3 [(K.SEQ_STATE 63, 1)]).admits rq K.SYNC_CMD 1 1 ∧ (on 3 [(K.SEQ_STATE 63, 1)]).dev.liveSeqs ≠ []) ∧
    (on 2 [(K.ALM_STATE 31, 1), (K.ALM_BASE 31, 1)]).dev.alarmOn 1 = true ∧
    ((on 2 [(K.SYNC_STATE, 1)]).admits rq K.SYNC_CMD 1 2 ∧ (on 2 [(K.SYNC_STATE, 1)]).dev.get K.SYNC_STATE = 1) ∧
    ((on 2 []).admits rq K.SYNC_CMD 1 2 ∧ (on 2 []).dev.get K.SYNC_STATE ≠ 1) ∧
    ((on 2 [(K.SYNC_STATE, 1), (K.SYNC_ROLE, 1)]).up ∧ (on 2 [(K.SYNC_STATE, 1), (K.SYNC_ROLE, 1)]).dev.get K.EPOCH_COUNT + 1 < 2 ^ 32 ∧
      (on 2 [(K.SYNC_STATE, 1), (K.SYNC_ROLE, 1)]).dev.get K.SYNC_ROLE = 1) := by
  simp only [State.admits, State.ready, State.up]; decide +kernel

theorem test_epochs : after (.armEpoch rq) (on 2 []) K.SYNC_STATE = some 1 ∧
    after (.cancelEpoch rq) (on 2 [(K.SYNC_STATE, 1), (K.EPOCH_COUNT, 1)]) K.SYNC_STATE = some 2 ∧
    after .syncInEpoch (on 2 [(K.SYNC_STATE, 1)]) K.EPOCH_COUNT = some 1 ∧ after .syncInEpoch (on 2 []) K.SYNC_IGNORED = some 1 := by
  decide +kernel

/-- Gallery port 3 is ACTIVE; sequencer 5 belongs to bond group 0 with identifier 9. -/
def gallery (st : Nat) (l : List (Nat × Nat)) : State :=
  on 3 ([(portKey 5 2, 5), (K.SEQ_STATE 5, st), (K.BOND_GROUP 5, 1), (K.BOND_CFG 0, 9 * 65536 + 1)] ++ l)

/-- The skew routine runs at a chip whose timing master is behind Gallery port 3. -/
def skewing : State :=
  dev (gallery 2 [(K.SYNC_ROLE, 2), (K.MASTER_PORT, 3), (K.WND_STATE, 2)]) (fun d => { d with wnd := { d.wnd with routine := 3 } })

/-- Sequencer 0 runs iteration 6 of a BOND segment. -/
def bonded : Dev := (seq 2 [] { cur := some (segment 8 false), iter := 6, off := 1 }).dev

theorem witness_GalleryFrames :
    ((gallery 2 []).up ∧ (gallery 2 []).dev.portState (2 + 3) = 5 ∧ (gallery 2 []).dev.get K.SYNC_ROLE ≠ 2) ∧
    ((gallery 2 [(K.SYNC_ROLE, 2), (K.MASTER_PORT, 3), (K.EPOCH_COUNT, 7)]).dev.get K.SYNC_ROLE = 2 ∧
      (gallery 2 [(K.SYNC_ROLE, 2), (K.MASTER_PORT, 3), (K.EPOCH_COUNT, 7)]).dev.get K.MASTER_PORT = 3 ∧
      (gallery 2 [(K.SYNC_ROLE, 2), (K.MASTER_PORT, 3), (K.EPOCH_COUNT, 7)]).dev.get K.EPOCH_COUNT = 7) ∧
    ((gallery 2 []).dev.bondOf 5 = some (0, 9 * 65536 + 1) ∧ bits (9 * 65536 + 1) 16 8 = 9 ∧ (gallery 2 []).dev.get (K.SEQ_STATE 5) ∈ [2, 3]) ∧
    (gallery 1 []).dev.get (K.SEQ_STATE 5) = 1 ∧
    ((frameT 1 5 []).intact = true ∧ (spoiled (frameT 1 5 [])).intact = false ∧
      ((gallery 1 []).dev.inOrder 5 (frameT 1 5 [])).2 = true ∧ ((gallery 1 []).dev.inOrder 5 (frameT 0 5 [])).2 = false ∧
      (frameT 1 5 []).kind = 5 ∧ (frameT 0 4 []).kind = 4 ∧ (frameT 0 6 []).badKind = true ∧ (frameT 0 6 []).intact = true) ∧
    ((9, 4, 2) ∈ (dev (gallery 2 []) (fun d => { d with heard := [(9, 4, 2)] })).dev.heard ∧ (9, 4, 2) ∉ (gallery 2 []).dev.heard) ∧
    ((skewing.dev.header 5 (frameT 0 4 [])).get K.SYNC_ROLE = 2 ∧ (skewing.dev.header 5 (frameT 0 4 [])).get K.MASTER_PORT = 3 ∧
      (skewing.dev.header 5 (frameT 0 4 [])).relayPorts 3 = [] ∧ (skewing.dev.header 5 (frameT 0 4 [])).wndBusy = true ∧
      (skewing.dev.header 5 (frameT 0 4 [])).wnd.routine = 3) ∧
    ((bonded.run 0).bondIters = [(0, 0, 6)] ∧ bonded.get (K.SEQ_STATE 0) = 2) := by
  simp only [State.up]; decide +kernel

theorem test_bondReceive : ((bondReceive [] bonded 0 0 6 2 true).2.run 0).bond = [⟨2, 0, 6, true⟩] ∧
    ((bondReceive [] bonded 0 0 7 2 true).2.run 0).stopReq = 5 := by
  decide +kernel

theorem test_galTimed : after (.galTimed 3 0 (spoiled (frameT 0 4 [])) .skewMarker) (gallery 2 []) (K.TIMED_DROPS 3) = some 1 ∧
    after (.galTimed 3 0 (spoiled (frameT 0 4 [])) .skewMarker) (gallery 2 []) (portKey 5 0x0F) = some 1 := by
  decide +kernel

theorem test_galSeq : after (.galSeq 3 ⟨0, frameT 1 5 []⟩ (.membership 9 4 64 0)) (gallery 1 []) (K.RL 5) = some 64 ∧
    after (.galSeq 3 ⟨0, frameT 0 5 []⟩ (.membership 9 4 64 0)) (gallery 1 []) (K.RL 5) = some 0 := by
  decide +kernel

/-- Time base 3 in a state. -/
def base (st : Nat) (l : List (Nat × Nat)) : State := on 2 ([(K.TB_STATE 3, st), (K.TB_DOMAIN 3, 4)] ++ l)

theorem witness_TimeBaseCommands :
    3 ∈ [0, 2, 3] ∧
    (∀ st ∈ [0, 1, 2], (base st []).admits rq (K.TB_CMD 3) 1 1 ∧ (base st []).admits rq (K.TB_CMD 3) 1 2 ∧ (base st []).dev.get (K.TB_STATE 3) = st ∧
      (base st []).dev.alarmOn 3 = false ∧ (base st [(K.ALM_STATE 0, 1), (K.ALM_BASE 0, 3)]).dev.alarmOn 3 = true ∧
      (base st []).admits rq (K.RATE 3) 8 (2 ^ 64 - 1)) ∧
    ((base 0 [(K.TB_STATE 2, 1), (K.TB_DOMAIN 2, 4)]).dev.get (K.TB_STATE 2) ≠ 0 ∧
      (base 0 [(K.TB_STATE 2, 1), (K.TB_DOMAIN 2, 4)]).dev.get (K.TB_DOMAIN 2) = (base 0 [(K.TB_STATE 2, 1), (K.TB_DOMAIN 2, 4)]).dev.get (K.TB_DOMAIN 3)) ∧
    (∀ c ∈ [0, 2, 3], c = 3 ∨ (base 0 []).dev.get (K.TB_STATE c) = 0 ∨ (base 0 []).dev.get (K.TB_DOMAIN c) ≠ (base 0 []).dev.get (K.TB_DOMAIN 3)) ∧
    ((base 0 [(K.INIT_MODE 3, 1), (K.INIT_VALUE 3, 999999999)]).dev.get (K.INIT_MODE 3) = 1 ∧
      (base 0 [(K.INIT_MODE 3, 1), (K.INIT_VALUE 3, 999999999)]).dev.get (K.INIT_VALUE 3) < 2 ^ 80 ∧
      (base 0 [(K.INIT_MODE 3, 1), (K.INIT_VALUE 3, 999999999)]).dev.get (K.INIT_VALUE 3) % 2 ^ 32 < 1000000000) ∧
    ((base 0 [(K.INIT_MODE 3, 2)]).dev.get (K.INIT_MODE 3) ≠ 1 ∧ (base 0 []).dev.at2 0 = false ∧
      (base 0 [(portKey 0 2, 5), (portKey 0 7, 0x203)]).dev.at2 0 = true) ∧
    ((base 2 [(K.SERVO_MODE 3, 1)]).dev.get (K.SERVO_MODE 3) = 1 ∧ (base 2 [(K.SERVO_MODE 3, 0)]).dev.get (K.SERVO_MODE 3) ≠ 1) := by
  simp only [State.admits, State.ready, State.up]; decide +kernel

theorem test_tbInit : after (.tbInit rq 3) (base 0 [(K.INIT_MODE 3, 1), (K.INIT_VALUE 3, 999999999)]) (K.TB_STATE 3) = some 2 ∧
    aborted (.tbInit rq 3) (base 0 [(K.INIT_MODE 3, 2)]) = some 8 ∧ after (.tbStop rq 3) (base 2 []) (K.TB_STATE 3) = some 0 ∧
    aborted (.rateWrite rq 3 1) (base 2 [(K.SERVO_MODE 3, 1)]) = some 6 := by
  decide +kernel

/-- Both Gwynter ports ACTIVE at 2.3. -/
def linked (l : List (Nat × Nat)) : State :=
  on 2 ([(K.NODE_ID, 5), (portKey 0 2, 5), (portKey 0 7, 0x203), (portKey 1 2, 5), (portKey 1 7, 0x203)] ++ l)

/-- A TIME frame of a MSG, of domain 4 with SEQ_ID 9, from node 2, that came in on a port. -/
def tm (port dst msg node : Nat) : TimeMsg :=
  { port := port, frame := frameT 0 3 (timeWords 0 2 dst (timeBits 0 0 9 4 node msg 0 0)), raw := 0, eg := 0 }

def keeping (x : Resid) : State := dev (linked []) (fun d => { d with resid := [x] })

theorem witness_TimeFramesAreForwarded :
    (∀ p ∈ [0, 1], ∀ msg ∈ [0, 1, 8, 9], (tm p 63 msg 2).port = p ∧ (linked []).dev.portState p = 5 ∧ (tm p 63 msg 2).frame.intact = true ∧
      (tm p 63 msg 2).frame.kind = 3 ∧ (tm p 63 msg 2).frame.timeOk = true ∧ (tm p 63 msg 2).frame.msg = msg ∧
      ((linked []).dev.header p (tm p 63 msg 2).frame).portMajor p = 2 ∧ ((linked []).dev.header p (tm p 63 msg 2).frame).at2 (onwardPort p) = true ∧
      ((linked []).dev.header p (tm p 63 msg 2).frame).timeOn (tm p 63 msg 2) = true ∧
      (∀ b ∈ [0, 2, 3], ((linked []).dev.header p (tm p 63 msg 2).frame).get (K.TB_STATE b) = 0) ∧
      ((linked []).dev.header p (tm p 63 msg 2).frame).freshResid = [] ∧ (tm p 63 msg 2).node ≠ (linked []).dev.get K.NODE_ID) ∧
    ((tm 0 0 1 2).frame.dst = 0 ∧ (tm 0 0 1 2).frame.timeOk = true ∧ (tm 0 0 1 2).frame.msg = 1) ∧
    (linked []).up ∧
    ((keeping ⟨false, 4, 9, 0, 3, 0⟩).dev.freshResid.find? (fun x => x.req == false && x.domain == (tm 0 63 8 2).domain && x.seqId == (tm 0 63 8 2).seqId) =
      some ⟨false, 4, 9, 0, 3, 0⟩) ∧
    ((keeping ⟨true, 4, 9, 2, 3, 0⟩).dev.freshResid.find? (fun x => x.req == true && x.domain == (tm 0 63 9 2).domain && x.seqId == (tm 0 63 9 2).seqId &&
      x.src == (tm 0 63 9 2).node) = some ⟨true, 4, 9, 2, 3, 0⟩) := by
  simp only [State.up]; decide +kernel

theorem test_followUp : after (.followUp (tm 0 63 8 2)) (linked []) K.RES_MISSES = some 1 ∧
    after (.delayReq (tm 0 0 1 2)) (linked []) K.FWD_DISCARDED = some 1 ∧
    (match exec (.followUp (tm 0 63 8 2)) (keeping ⟨false, 4, 9, 0, 3, 0⟩) with | .next t => t.dev.egress | _ => []) =
      [.time 1 63 8 4 9 0 3 2] := by
  decide +kernel

/-- Base 0 binds domain 4 and takes part in its exchange. -/
def bound (x : Exch) : State := dev (linked [(K.TB_STATE 0, 1), (K.TB_DOMAIN 0, 4)]) (fun d => { d with exch := [(0, x)] })

theorem witness_BoundBasesTakePart :
    ((bound {}).up ∧ ∀ q ∈ [(63, 0, 2), (63, 8, 2), (5, 9, 5)], (tm 0 q.1 q.2.1 q.2.2).port = 0 ∧ (bound {}).dev.portState 0 = 5 ∧
      (tm 0 q.1 q.2.1 q.2.2).frame.intact = true ∧ (tm 0 q.1 q.2.1 q.2.2).frame.kind = 3 ∧ (tm 0 q.1 q.2.1 q.2.2).frame.timeOk = true ∧
      (tm 0 q.1 q.2.1 q.2.2).frame.msg = q.2.1 ∧ ((bound {}).dev.header 0 (tm 0 q.1 q.2.1 q.2.2).frame).portMajor 0 = 2 ∧
      ((bound {}).dev.header 0 (tm 0 q.1 q.2.1 q.2.2).frame).timeMine (tm 0 q.1 q.2.1 q.2.2) = true ∧
      0 ∈ ((bound {}).dev.header 0 (tm 0 q.1 q.2.1 q.2.2).frame).basesOf (tm 0 q.1 q.2.1 q.2.2).domain) ∧
    (((bound { syncs := [(9, 100, 0)] }).dev.exchOf 0).syncs.find? (fun y => y.1 == (tm 0 63 8 2).seqId && decide (0 ≤ y.2.2 + 4000000)) =
      some (9, 100, 0) ∧ ((bound { syncs := [(9, 100, 0)] }).dev.exchOf 0).path = none ∧ (bound { syncs := [(9, 100, 0)] }).dev.clk = 0) ∧
    (((bound { dreqs := [(9, 100, 0, (5, 6))] }).dev.exchOf 0).dreqs.find? (fun y => y.1 == (tm 0 5 9 5).seqId && decide (0 ≤ y.2.2.1 + 40000000)) =
      some (9, 100, 0, (5, 6)) ∧ (tm 0 5 9 5).node = (bound { dreqs := [(9, 100, 0, (5, 6))] }).dev.get K.NODE_ID) := by
  simp only [State.up]; decide +kernel

theorem test_sync : (match exec (.sync (tm 0 63 0 2)) (bound {}) with | .next t => (t.dev.exchOf 0).syncs.map (·.1) | _ => []) = [9] := by
  decide +kernel

theorem witness_ExchangesSteerTheBase :
    0 ∈ [0, 2, 3] ∧ 3 ∈ [0, 2, 3] ∧ (bound {}).dev.get (K.TB_STATE 0) = 1 := by
  decide +kernel

/-- The timestamp queue is full, or holds one entry. -/
def queued (n : Nat) (l : List (Nat × Nat)) : State := dev (linked l) (fun d => { d with tsq := List.replicate n ⟨0, 0⟩ })

/-- A MARK with the identifier 0xBEEF in base 3. -/
def markFrame : Frame := frameT 0 3 (timeWords 0 2 63 (timeBits 0 0 0 0 0xBE 15 0xEF 3))

theorem witness_MarksAreStamped :
    (State.reset.up ∧ State.reset.dev.portState 1 ≠ 5 ∧ (linked []).dev.portState 1 = 5) ∧ (spoiled markFrame).intact = false ∧
    (markFrame.intact = true ∧ markFrame.kind = 3 ∧ markFrame.timeOk = true ∧ markFrame.msg = 15 ∧
      ((linked []).dev.header 1 markFrame).portMajor 1 = 2 ∧ 0 ≤ ((linked []).dev.header 1 markFrame).ingress 3 1 (10 ^ 12) ∧
      ((linked []).dev.header 1 markFrame).ingress 3 1 (10 ^ 12) < 2 ^ 48 * 1000000000 * (nsU : Int)) ∧
    (State.reset.admits rq K.TS_MARK 4 1 ∧ State.reset.dev.at2 (1 % 2) = false) ∧
    ((linked []).admits rq K.TS_MARK 4 (65536 + 16 + 1) ∧ (linked []).dev.at2 1 = true ∧ (linked []).dev.tsq.length < 16 ∧
      0 ≤ (linked []).dev.egressAt 1 1 0 ∧ (linked []).dev.egressAt 1 1 0 < 2 ^ 48 * 1000000000 * (nsU : Int)) ∧
    (16 ≤ (queued 16 []).dev.tsq.length ∧ bit ((queued 16 []).dev.get K.TSQ_FLAGS) 0 = false) ∧
    (16 ≤ (queued 16 [(K.TSQ_FLAGS, 1)]).dev.tsq.length ∧ bit ((queued 16 [(K.TSQ_FLAGS, 1)]).dev.get K.TSQ_FLAGS) 0 = true) ∧
    (State.reset.admits rq K.TSQ_POP 1 1 ∧ State.reset.dev.tsq = []) ∧
    ((queued 1 []).admits rq K.TSQ_POP 1 1 ∧ (queued 1 []).dev.tsq ≠ []) := by
  simp only [State.admits, State.ready, State.up]; decide +kernel

theorem test_marks : (after (.mark 1 markFrame 0 0) (linked []) K.RX_MARK).map (fun v => (bits v 16 16, bits v 4 2, v % 16)) = some (0xBEEF, 3, 1) ∧
    aborted (.tsMark rq 1 0) State.reset = some 6 ∧ aborted (.tsqPop rq 1) State.reset = some 6 ∧
    after (.tsMark rq 1 0) (queued 16 [(K.TSQ_FLAGS, 1)]) K.TSQ_DROPPED = some 1 := by
  decide +kernel

/-- Alarm slot 31 in a state, on TB1. -/
def alarm (st t act per : Nat) : State :=
  on 2 [(K.ALM_STATE 31, st), (K.ALM_BASE 31, 1), (K.ALM_TIME 31, t), (K.ALM_ACTION 31, act), (K.ALM_PERIOD 31, per)]

theorem witness_AlarmSlots :
    (∀ st ∈ [0, 1, 4], (alarm st 1000 1 0).admits rq (K.ALM_CMD 31) 1 1 ∧ (alarm st 1000 1 0).admits rq (K.ALM_CMD 31) 1 2 ∧
      (alarm st 1000 1 0).dev.get (K.ALM_STATE 31) = st ∧ (alarm st 1000 1 0).dev.get (K.ALM_BASE 31) = 1) ∧
    ((on 2 [(K.ALM_BASE 31, 3), (K.TB_STATE 3, 1)]).dev.get (K.ALM_BASE 31) ≠ 1 ∧
      (on 2 [(K.ALM_BASE 31, 3), (K.TB_STATE 3, 1)]).dev.get (K.TB_STATE ((on 2 [(K.ALM_BASE 31, 3), (K.TB_STATE 3, 1)]).dev.get (K.ALM_BASE 31))) = 1) ∧
    (ofStamp80 ((alarm 0 999 1 0).dev.get (K.ALM_TIME 31)) < (alarm 0 999 1 0).dev.baseU 1 + 1000 * nsU ∧
      (alarm 0 1000 0 0).dev.get (K.ALM_ACTION 31) = 0) ∧
    ((alarm 0 1000 1 0).dev.baseU 1 + 1000 * nsU ≤ ofStamp80 ((alarm 0 1000 1 0).dev.get (K.ALM_TIME 31)) ∧
      (alarm 0 1000 1 0).dev.get (K.ALM_ACTION 31) ≠ 0) ∧
    ((alarm 1 1000 1 0).up ∧ (alarm 1 1000 1 0).dev.get (K.ALM_FIRES 31) + 1 < 2 ^ 32 ∧ (alarm 1 1000 1 0).dev.get (K.ALM_PERIOD 31) = 0 ∧
      (alarm 1 1000 1 1000000).dev.get (K.ALM_PERIOD 31) ≠ 0) ∧
    (∀ a < 5, bit ((alarm 1 1000 0x1F 0).dev.get (K.ALM_ACTION 31)) a = true) ∧
    (let d := (dev (alarm 1 1000 1 0) (fun d => d.setAll [(K.SEQ_STATE 63, 1), (K.START_SRC 63, 1), (K.ALM_SEQ_MASK 31, 2 ^ 63),
        (K.ALM_TRIG_MASK 31, 128), (K.ALM_ADC_MASK 31, 2 ^ 15)])).dev
     bit (d.get (K.ALM_SEQ_MASK 31)) 63 = true ∧ d.get (K.SEQ_STATE 63) = 1 ∧ d.get (K.START_SRC 63) % 8 = 1 ∧ (d.run 63).startTick = none ∧
     d.get K.SHED_LEVEL < 3 ∧ bit (d.get (K.ALM_TRIG_MASK 31)) 7 = true ∧ bit (d.get (K.ALM_ADC_MASK 31)) 15 = true) := by
  simp only [State.admits, State.ready, State.up]; decide +kernel

theorem test_alarms : after (.almArm rq 31) (alarm 0 1000 1 0) (K.ALM_STATE 31) = some 1 ∧ aborted (.almArm rq 31) (alarm 0 999 1 0) = some 5 ∧
    aborted (.almDisarm rq 31) (alarm 0 1000 1 0) = some 6 ∧ after (.alarmFiring 31) (alarm 1 1000 1 0) (K.ALM_STATE 31) = some 4 := by
  decide +kernel

/-! Hewers, Assay units, Dowser engines. -/

/-- Hewer 15 runs for the running sequencer 0 with instruction word `i` at address 5. -/
def hewer (i : Nat) (c : HewCtx) : State :=
  mem (dev (on 3 [(K.HEW_STATE 15, 2), (K.HEW_SEQ 15, 0), (K.SEQ_STATE 0, 2)])
    (fun d => { d with hewers := [(15, { main := { c with pc := 5, run := true } })] })) (domAt (K.HEW_PROGRAM 15) 40) (toBytes 8 i)

/-- An instruction word from R138: opcode, EMIT, SEL, RA, RB and IMM. -/
def word (op emit sel ra rb imm : Nat) : Nat := op * 2 ^ 58 + emit * 2 ^ 57 + sel * 2 ^ 32 + ra * 2 ^ 28 + rb * 2 ^ 24 + imm

theorem witness_HewerInstructions :
    ((hewer 0 {}).up ∧ (hewer 0 {}).dev.get (K.HEW_STATE 15) = 2 ∧
      (hewer 0 {}).dev.get (K.SEQ_STATE ((hewer 0 {}).dev.get (K.HEW_SEQ 15))) ∈ [1, 2] ∧ ((hewer 0 {}).dev.hew 15).main.run = true ∧
      ((hewer 0 {}).dev.hew 15).main.waiting = false ∧ ((hewer 0 {}).dev.hew 15).main.pend = none ∧ ((hewer 0 {}).dev.hew 15).main.pc < 1023) ∧
    (∀ op ∈ [0, 1, 2, 3, 4, 5, 6, 7, 8, 9, 10, 11, 12, 13, 14, 15, 16, 17, 18, 19, 20, 21],
      hOpc (hewInstr (hewer (word op 0 0 11 3 0) {}).mem (hewer (word op 0 0 11 3 0) {}).dev 15 5) = op ∧
      hRa (hewInstr (hewer (word op 0 0 11 3 0) {}).mem (hewer (word op 0 0 11 3 0) {}).dev 15 5) ≤ 11 ∧
      hEmit (hewInstr (hewer (word op 0 0 11 3 0) {}).mem (hewer (word op 0 0 11 3 0) {}).dev 15 5) = false) ∧
    (∀ sel ∈ [0, 1, 2], hSel (word 9 0 sel 0 0 0) = sel) ∧ hEmit (word 8 1 0 0 0 0) = true ∧ ((hewer 0 {}).dev.hew 15).main.ops < 64 ∧
    (((hewer 0 {}).dev.hew 15).main.stack.length < 4 ∧ ((hewer 0 { stack := [7] }).dev.hew 15).main.stack = 7 :: [] ∧ 7 < 1024) ∧
    (putBits 1 0 32 (hImm32 (word 9 0 2 0 0 0)) = 0 ∧ putBits 1 0 32 (hImm32 (word 9 0 2 0 0 3)) ≠ 0) := by
  simp only [State.up]; decide +kernel

theorem witness_HewerHaltsWaitsAndFaults :
    hEmit (word 1 0 0 0 0 0) = false ∧ bit (word 1 0 0 0 0 0) 0 = false ∧ bit (word 1 0 0 0 0 1) 0 = true ∧
    4 ≤ ((hewer (word 6 0 0 0 0 9) { stack := [1, 2, 3, 4] }).dev.hew 15).main.stack.length ∧
    ((hewer (word 7 0 0 0 0 0) {}).dev.hew 15).main.stack = [] ∧
    (∀ op ∈ [1, 6, 7, 0x15], ∀ em ∈ [0, 1], hOpc (word op em 0 0 0 0) = op ∧ hEmit (word op em 0 0 0 0) = (em == 1)) ∧
    (((hewer (word 1 1 0 0 0 0) {}).up ∧ (hewer (word 1 1 0 0 0 0) {}).dev.get (K.HEW_STATE 15) = 2 ∧
      (hewer (word 1 1 0 0 0 0) {}).dev.get (K.SEQ_STATE ((hewer (word 1 1 0 0 0 0) {}).dev.get (K.HEW_SEQ 15))) ∈ [1, 2]) ∧
      ((hewer (word 1 1 0 0 0 0) {}).dev.hew 15).main.run = true ∧ ((hewer (word 1 1 0 0 0 0) {}).dev.hew 15).main.waiting = false ∧
      ((hewer (word 1 1 0 0 0 0) {}).dev.hew 15).main.pend = none ∧ ((hewer (word 1 1 0 0 0 0) {}).dev.hew 15).main.pc = 5 ∧
      ((hewer (word 1 1 0 0 0 0) {}).dev.hew 15).main.ops < 64 ∧
      hewInstr (hewer (word 1 1 0 0 0 0) {}).mem (hewer (word 1 1 0 0 0 0) {}).dev 15 5 = word 1 1 0 0 0 0) := by
  simp only [State.up]
  decide +kernel

theorem test_haltEmits : (match exec (.halt 15) (hewer (word 1 1 0 0 0 0) {}) with
    | .next t => (t.dev.hew 15).main.queue.map (fun o => bit o.flags 15) | _ => []) = [true, true] := by
  decide +kernel

/-- The main context after one command. -/
def ctx (c : Instr) (s : State) : Option HewCtx :=
  match exec c s with
  | .next t => some (t.dev.hew 15).main
  | _ => none

theorem test_hewer_jumps : (ctx (.jmp 15) (hewer (word 2 0 0 0 0 9) {})).map (·.pc) = some 9 ∧
    (ctx (.jfs 15) (hewer (word 3 0 0 4 0 9) { flags := 16 })).map (·.pc) = some 9 ∧
    (ctx (.jfc 15) (hewer (word 4 0 0 4 0 9) { flags := 16 })).map (·.pc) = some 6 ∧
    (ctx (.jrz 15) (hewer (word 0x11 0 0 6 0 9) {})).map (·.pc) = some 9 ∧
    (ctx (.jrnz 15) (hewer (word 0x12 0 0 6 0 9) {})).map (·.pc) = some 6 ∧
    (ctx (.jlt 15) (hewer (word 0x13 0 0 6 7 9) { regs := [0, 0, 0, 0, 0, 0, 1, 2, 0, 0] })).map (·.pc) = some 9 := by
  decide +kernel

theorem test_hewer_loop : (ctx (.loop 15) (hewer (word 5 0 0 6 0 9) {})).map (fun c => (c.pc, c.reg 6)) = some (9, 0xFFFFFF) := by
  decide +kernel

theorem test_hewer_calls : (ctx (.call 15) (hewer (word 6 0 0 0 0 9) {})).map (fun c => (c.pc, c.stack)) = some (9, [6]) ∧
    (ctx (.ret 15) (hewer (word 7 0 0 0 0 0) { stack := [77] })).map (fun c => (c.pc, c.stack)) = some (77, []) ∧
    after (.ret 15) (hewer (word 7 0 0 0 0 0) {}) (K.HEW_ERR 15) = some (2 * 2 ^ 24 + 5) := by
  decide +kernel

theorem test_hewer_loads : (ctx (.ldi 15) (hewer (word 8 0 0 7 0 0xABCDEF) {})).map (·.reg 7) = some 0xABCDEF ∧
    (ctx (.ldbl 15) (hewer (0x12345678 + word 9 0 1 0 0 0) {})).map (·.bg1) = some 0x12345678 ∧
    (ctx (.ldbh 15) (hewer (0x12345678 + word 10 0 0 0 0 0) {})).map (·.bg0) = some 0x1234567800000000 ∧
    (ctx (.ldbl 15) (hewer (word 9 0 2 0 0 0) {})).map (·.lfsr) = some 1 := by
  decide +kernel

theorem test_hewer_arithmetic :
    (ctx (.addi 15) (hewer (word 11 0 0 6 0 0xFFFFFF) { regs := [0, 0, 0, 0, 0, 0, 5, 0, 0, 0] })).map (·.reg 6) = some 4 ∧
    (ctx (.mov 15) (hewer (word 12 0 0 7 6 0) { regs := [0, 0, 0, 0, 0, 0, 5, 0, 0, 0] })).map (·.reg 7) = some 5 ∧
    (ctx (.swapbg 15) (hewer (word 13 0 0 0 0 0) { bg0 := 3, bg1 := 4 })).map (fun c => (c.bg0, c.bg1)) = some (4, 3) ∧
    (ctx (.notbg 15) (hewer (word 14 0 1 0 0 0) { bg0 := 3, bg1 := 4 })).map (fun c => (c.bg0, c.bg1)) = some (3, 2 ^ 64 - 5) ∧
    (ctx (.setf 15) (hewer (word 15 0 0 11 0 0) {})).map (·.flags) = some 2048 ∧
    (ctx (.clrf 15) (hewer (word 16 0 0 14 0 0) { flags := 2 ^ 14 + 1 })).map (·.flags) = some 1 ∧
    (ctx (.swxy 15) (hewer (word 0x14 0 0 0 0 0) { regs := [1, 2, 3, 4, 5, 6, 0, 0, 0, 0] })).map (·.regs) =
      some [2, 1, 3, 5, 4, 6, 0, 0, 0, 0] := by
  decide +kernel

theorem test_hewer_ends : after (.halt 15) (hewer (word 1 0 0 0 0 0) {}) (K.HEW_STATE 15) = some 4 ∧
    after (.halt 15) (hewer (word 1 0 0 0 0 0) {}) (K.HEW_FLAGS 15) = some (2 ^ 15) ∧
    after (.wseg 15) (hewer (word 0x15 0 0 0 0 0) {}) (K.HEW_STATE 15) = some 3 ∧ after (.nop 15) (hewer (word 0 0 0 0 0 0) {}) (K.HEW_PC_LAST 15) = some 5 := by
  decide +kernel

theorem witness_HewerRunsPastTheEnd :
    (∀ op ∈ [0, 2, 3, 4, 0x11, 0x12, 0x13],
      let s := dev (mem (hewer 0 {}) (domAt (K.HEW_PROGRAM 15) (8 * 1023)) (toBytes 8 (word op 0 0 6 7 9)))
        (fun d => { d with hewers := [(15, { main := { pc := 1023, run := true, flags := 16 } })] })
      s.up ∧ s.dev.get (K.HEW_STATE 15) = 2 ∧ s.dev.get (K.SEQ_STATE (s.dev.get (K.HEW_SEQ 15))) ∈ [1, 2] ∧
      ((s.dev.hew 15).main.run = true ∧ (s.dev.hew 15).main.waiting = false ∧ (s.dev.hew 15).main.pend = none ∧
        (s.dev.hew 15).main.pc = 1023 ∧ (s.dev.hew 15).main.ops < 64) ∧
      hOpc (hewInstr s.mem s.dev 15 1023) = op ∧ hEmit (hewInstr s.mem s.dev 15 1023) = false) ∧
    (bit 16 (hRa (word 3 0 0 6 7 9)) = false ∧ bit 16 (hRa (word 4 0 0 4 7 9)) = true ∧ ({} : HewCtx).reg 6 = 0 ∧
      ({ regs := [0, 0, 0, 0, 0, 0, 1, 2, 0, 0] } : HewCtx).reg 6 ≠ 0) := by
  simp only [State.up]; decide +kernel

theorem test_hewer_pastTheEnd :
    after (.nop 15) (dev (mem (hewer 0 {}) (domAt (K.HEW_PROGRAM 15) (8 * 1023)) (toBytes 8 0))
      (fun d => { d with hewers := [(15, { main := { pc := 1023, run := true } })] })) (K.HEW_ERR 15) = some (3 * 2 ^ 24 + 1023) := by
  decide +kernel

theorem witness_HewerStepsWrap :
    let c : HewCtx := { regs := [0, 5, 255, 2 ^ 24 - 1, 5, 255, 0, 0, 0, 0] }
    c.regs.length = 10 ∧ (∀ r < 10, c.reg r < 2 ^ (if r = 2 ∨ r = 5 then 8 else 24)) ∧
    (hXstep (2 ^ 46) = 1 ∧ hXstep (2 ^ 47) = 2 ∧ hYstep (2 ^ 44) = 1 ∧ hZstep (2 ^ 43) = 1 ∧ bit 3 0 = true ∧ bit 3 1 = true) := by
  decide +kernel

theorem test_hewer_steps :
    let c : HewCtx := { regs := [0, 0, 255, 2 ^ 24 - 1, 5, 255, 0, 0, 0, 0] }
    (c.steps 0 (2 ^ 47)).reg 0 = 2 ^ 24 - 1 ∧ ((c.steps 1 (2 ^ 47)).reg 1 = 5 ∧ (c.steps 1 (2 ^ 47)).flags = 3 * 2 ^ 12) ∧
    ((c.steps 3 (2 ^ 47)).reg 2 = 254 ∧ (c.steps 0 (2 ^ 43)).reg 2 = 0) := by
  decide +kernel

/-- Assay unit 15 in a state, bound to the running sequencer 0 whose gang is channel 3. -/
def assay (st : Nat) (l : List (Nat × Nat)) (a : Assay) : State :=
  dev (on 3 ([(K.ASY_STATE 15, st), (K.SEQ_STATE 0, 2), (K.ASY_SEQ 15, 0), (K.PD_STATE 48, 2), (K.SEL_COUNT 15, 1), (K.SEL 15 0, 3),
    (K.REDUCE 15, 1), (K.POST_COUNT 15, 1), (K.MASK_LEN 15, 1), (K.REC_COUNT 15, 1)] ++ l))
    (fun d => { d with runs := [(0, { gang := [(3, 0)] })], assays := [(15, a)] })

theorem witness_AssayCommands :
    ((assay 0 [] {}).admits rq (K.ASY_CMD 15) 1 1 ∧ (assay 0 [] {}).dev.loading [K.MASK_TEMPLATE 15] = false ∧
      (assay 0 [] {}).dev.gate [47 + 15 / 8] (some 15) = .ok () ∧ asyArmChecks (assay 0 [] {}).dev 15 = .ok () ∧
      asyArmChecks (assay 2 [] {}).dev 15 = .error .state ∧ asyArmChecks (assay 0 [(K.REDUCE 15, 0)] {}).dev 15 = .error .range) ∧
    (∀ st ∈ [0, 1, 2, 4, 5], (assay st [] {}).admits rq (K.ASY_CMD 15) 1 2 ∧ (assay st [] {}).admits rq (K.ASY_CMD 15) 1 3 ∧
      (assay st [] {}).dev.get (K.ASY_STATE 15) = st) ∧
    (bit ((assay 1 [(K.ASY_STATUS 15, 2)] {}).dev.get (K.ASY_STATUS 15)) 1 = true ∧ ((assay 1 [(K.ASY_STATUS 15, 2)] {}).dev.asy 15).rearm = 0 ∧
      (assay 1 [(K.ASY_STATUS 15, 2)] {}).admits rq (K.ASY_CMD 15) 1 3 ∧ bit ((assay 1 [] {}).dev.get (K.ASY_STATUS 15)) 1 = false ∧ (assay 1 [] {}).up) := by
  simp only [State.admits, State.ready, State.up]; decide +kernel

theorem test_assay : after (.asyArm rq 15) (assay 0 [] {}) (K.ASY_STATE 15) = some 1 ∧ after (.asyArm rq 15) (assay 0 [(K.REDUCE 15, 0)] {}) (K.REC_BYTES 15) = some 64 ∧
    after (.asyDisarm rq 15) (assay 1 [] {}) (K.ASY_STATE 15) = some 0 ∧ aborted (.force rq 15) (assay 2 [] {}) = some 7 ∧
    after (.asyDisarm rq 15) (assay 5 [] {}) (K.ASY_STATE 15) = some 0 := by
  decide +kernel

theorem test_rearmEnd : after (.rearmEnd 15) (assay 1 [(K.ASY_STATUS 15, 6)] {}) (K.ASY_STATUS 15) = some 0 := by decide +kernel

/-- One closed record of 64 bytes to evict. -/
def evicting (l : List (Nat × Nat)) : State :=
  assay 2 ([(K.SPILL_KIB 15, 1), (K.SPILL_BASE 15, 2 ^ 40 - 1024), (K.CAP_WR 15, 64)] ++ l) {}

theorem witness_EvictionCopiesToTheSpill :
    ((evicting [(K.DDR_STATE, 3)]).up ∧
      (evicting []).dev.get (K.SPILL_BASE 15) + 1024 * (evicting []).dev.get (K.SPILL_KIB 15) ≤ 2 ^ 40 ∧
      ((evicting []).dev.asy 15).evicted < min ((evicting []).dev.get (K.CAP_WR 15)) (1024 * (evicting []).dev.get (K.SPILL_KIB 15)) ∧
      ((evicting []).dev.asy 15).skip = []) ∧
    ((evicting [(K.DDR_STATE, 3)]).dev.get K.DDR_STATE = 3 ∧ bit ((evicting [(K.DDR_STATE, 3)]).dev.get (K.ASY_STATUS 15)) 4 = false) ∧
    (evicting []).dev.get K.DDR_STATE ≠ 3 ∧ (evicting []).dev.get K.DDR_STATE ≠ 5 ∧
    ((evicting [(K.DDR_STATE, 5)]).dev.get K.DDR_STATE = 5 ∧ bit ((evicting [(K.DDR_STATE, 5)]).dev.get (K.ASY_STATUS 15)) 4 = false) ∧ bit ((evicting [(K.ASY_STATUS 15, 16)]).dev.get (K.ASY_STATUS 15)) 4 = true := by
  simp only [State.up]; decide +kernel

theorem test_evictionDiscards : after (.eviction 15 64 0) (evicting [(K.DDR_STATE, 5)]) K.WRITES_LOST = some 1 := by decide +kernel

theorem test_eviction : (match exec (.eviction 15 8 0) (mem (evicting [(K.DDR_STATE, 3)]) (assayAt 15 0) [7, 8, 9, 10, 11, 12, 13, 14]) with
    | .next t => Memory.look t.mem (ddrAt (2 ^ 40 - 1024 + 7)) | _ => none) = some 14#8 := by
  decide +kernel

/-- Dowser engine 3 in a state: a one-edge search of channel 3 over timing set 0 of the ARMED sequencer 0, whose image of two
entries is handed over at both. -/
def dowser (st : Nat) (l : List (Nat × Nat)) (w : Dowser) : State :=
  mem (mem (dev (on 3 ([(K.DWS_STATE 3, st), (K.SEQ_STATE 0, 1), (K.DWS_SEQ 3, 0), (K.PD_STATE 49, 2), (K.DWS_CHANS 3 0, 8), (K.X_LO 3, 0),
    (K.X_HI 3, 8), (K.X_RES 3, 1), (K.PASS_ENTRY 3, 0), (K.EXIT_ENTRY 3, 1), (K.ACT_PERIOD 0 0, 156250)] ++ l))
    (fun d => { d with runs := [(0, { gang := [(3, 0)] })], dowsers := [(3, w)] }))
    (domAt (K.PATTERN_IMAGE 0) 0) (toBytes 64 (2 * 2 ^ 32 + 2 * 2 ^ 224))) (poolAt 0) (toBytes 32 (2 ^ 110) ++ toBytes 32 (2 ^ 110))

/-- Engine 3 about to START, with objects. -/
def dstart (l : List (Nat × Nat)) : State := dowser 0 l {}

/-- The checks of START in a state. -/
def dchecks (l : List (Nat × Nat)) : Except Abort Unit := dwsStartChecks (dstart l).mem (dstart l).dev 3

theorem witness_DowserCommands :
    ((dstart []).admits rq (K.DWS_CMD 3) 1 1 ∧ (dstart []).dev.gate [49] none = .ok () ∧ (dstart []).dev.canArm = true ∧
      (dstart []).dev.get (K.DWS_STATE 3) ∉ [2, 3] ∧ (dstart []).dev.domOn 49 = true ∧
      ((dstart []).dev.get (K.DWS_SEQ 3) < 64 ∧ (dstart []).dev.get (K.SEQ_STATE 0) ∈ [1, 2]) ∧ (dstart []).dev.get (K.DWS_TSET 3) < 32 ∧
      (∀ p, p ∈ (Table.at (dstart []).dev.runs {} 0).gang → p.1 < 256) ∧ dchecks [] = .ok ()) ∧
    (dchecks [(K.TSET_SEAL 0, 1)] = .error .sealed ∧ dchecks [(K.PD_STATE 49, 0)] = .error .state ∧
      dchecks [(K.DWS_STATE 3, 2)] = .error .state ∧ dchecks [(K.SEQ_STATE 0, 4)] = .error .state ∧ dchecks [(K.CHIP_STATE, 7)] = .error .state ∧
      dchecks [(K.DWS_STATE 2, 3), (K.DWS_SEQ 2, 0)] = .error .busy ∧ dchecks [(K.DWS_KIND 3, 4)] = .error .range ∧
      dchecks [(K.DWS_CHANS 3 0, 0)] = .error .range ∧ dchecks [(K.DWS_CHANS 3 0, 4)] = .error .range ∧ dchecks [(K.X_HI 3, 0)] = .error .range) ∧
    (dwsStartChecks (dstart []).mem (dev (dstart [(K.DWS_KIND 3, 2), (K.TMU_REF 3, 3)]) (fun d => d.setTmu 0 { holder := 1 })).dev 3 =
      .error .busy ∧ ((dstart [(K.DWS_KIND 3, 2), (K.TMU_REF 3, 3), (K.X_CENTRE 3, 4)]).dev.get (K.DWS_KIND 3) = 2 ∧
      dchecks [(K.DWS_KIND 3, 2), (K.TMU_REF 3, 3), (K.X_CENTRE 3, 4)] = .ok ())) ∧
    (∀ st ∈ [0, 2, 3, 4, 5], (dowser st [] {}).admits rq (K.DWS_CMD 3) 1 2 ∧ (dowser st [] {}).dev.get (K.DWS_STATE 3) = st) := by
  simp only [State.admits, State.ready, State.up]; decide +kernel

theorem witness_DowserSealsTheNextStep :
    let w : Dowser := { sealPend := true, chans := [{ chan := 3, value := 2 ^ 21 - 1 }, { chan := 255, value := 7 }] }
    ((dowser 2 [] w).up ∧ (dowser 2 [] w).dev.get (K.DWS_STATE 3) = 2 ∧ ((dowser 2 [] w).dev.dws 3).sealPend = true ∧
      ((dowser 2 [] w).dev.dws 3).final = false ∧ (dowser 2 [] w).dev.dwsKnown 3 = false ∧ (dowser 2 [] w).dev.seqLive 0 = true ∧
      (dowser 2 [] w).dev.get (K.DWS_SEQ 3) < 64 ∧ (dowser 2 [] w).dev.get (K.DWS_TSET 3) < 32 ∧ (dowser 2 [] w).dev.get (K.DWS_KIND 3) ≠ 3 ∧
      (((dowser 2 [] w).dev.dws 3).chans.map (·.chan)).Nodup ∧
      (∀ c, c ∈ ((dowser 2 [] w).dev.dws 3).chans → c.chan < 256 ∧ c.value < 2 ^ 21)) ∧
    (∀ p ∈ [0, 2, 3, 5, 6], (dowser 2 [(K.DWS_PARAM 3, p)] w).dev.get (K.DWS_PARAM 3) % 16 = p) ∧
    (((dowser 2 [] {}).dev.dws 3).sealPend = false ∧ (dowser 2 [] {}).dev.dwsKnown 3 = false) := by
  simp only [State.up]; decide +kernel

theorem test_dwsStepSeal : after (.dwsStepSeal 3) (dowser 2 [] { sealPend := true, chans := [{ chan := 3, value := 9 }] }) (K.EDGE_B 3 0) = some (9 * 2 ^ 21) ∧
    after (.dwsStepSeal 3) (dowser 2 [] { sealPend := true, chans := [{ chan := 3, value := 9 }] }) (K.TSET_SEAL 0) = some 1 := by
  decide +kernel

theorem test_dowser : after (.dwsStart rq 3) (dowser 0 [] {}) (K.DWS_STATE 3) = some 2 ∧ after (.dwsStart rq 3) (dowser 0 [] {}) (K.TSET_SEAL 0) = some 1 ∧
    aborted (.dwsAbort rq 3) (dowser 0 [] {}) = some 6 ∧ after (.dwsAbort rq 3) (dowser 3 [] {}) (K.DWS_CAUSE 3) = some 1 := by
  decide +kernel

/-! The dictionary, domain transfers, BULK, frames, enumeration. -/

theorem witness_LastAbortNamesTheRefusal : rq.src < 256 ∧ rq.tag < 256 ∧ rq.port < 6 ∧ State.reset.dev.get K.ABORT_COUNT + 1 < 2 ^ 32 ∧ 255 < 256 ∧ 65535 < 65536 := by
  decide

theorem witness_EventsAreRecorded :
    319 < 320 ∧ bits (State.reset.dev.get (K.EVT_ROUTE 319)) 14 2 ≠ 2 ∧ bit (State.reset.dev.get (K.EVT_ENABLE 4)) 63 = false ∧
    (bit ((on 2 [(K.EVT_ENABLE 4, 2 ^ 63)]).dev.get (K.EVT_ENABLE (319 / 64))) (319 % 64) = true ∧
      bit ((on 2 [(K.EVT_ENABLE 4, 2 ^ 63)]).dev.get (K.EVT_STATUS (319 / 64))) (319 % 64) = false ∧
      bits ((on 2 [(K.EVT_ENABLE 4, 2 ^ 63)]).dev.get (K.EVT_ROUTE 319)) 14 2 = 1 ∧ (on 2 [(K.EVT_ENABLE 4, 2 ^ 63)]).dev.notices.length < 64) ∧
    (bit ((on 2 [(K.EVT_STATUS 4, 2 ^ 63)]).dev.get (K.EVT_STATUS (319 / 64))) (319 % 64) = true ∧ bit ((on 2 []).dev.get (K.EVT_ROUTE 319)) 13 = false) := by
  decide +kernel

theorem test_event : (((on 2 [(K.EVT_ENABLE 4, 2 ^ 63)]).dev.event 319 5 6).notices.map (fun x => (x.event, x.cause, x.info, x.seq))) = [(319, 5, 6, 1)] := by
  decide +kernel

/-- Lane 0 has locked, and sequencer 0 has read its directory. -/
def measuring : State := dev State.reset (fun d => { d with lanes := [(0, { linked := true })], dirRead := [0] })

theorem witness_ReadsAnswerTheValue :
    (State.reset.up ∧ ({ rq with bcast := true } : Req).bcast = true ∧ rq.bcast = false) ∧
    State.reset.dev.preRead 0 0 = some .noObject ∧
    (State.reset.dev.preRead (K.CHIP_STATE / 256) (K.CHIP_STATE % 256) = none ∧ State.reset.dev.measured K.CHIP_STATE = false ∧ K.CHIP_STATE ≠ K.STORE_PEAK ∧
      ¬(0x0B00 ≤ K.CHIP_STATE / 256)) ∧
    (State.reset.dev.preRead 0x3FFF 0 = some .noObject ∧ State.reset.dev.preRead 0x0BFF 0x04 = none) ∧ State.reset.ready rq ∧
    (State.reset.dev.preRead (K.STORE_PEAK / 256) (K.STORE_PEAK % 256) = none ∧ State.reset.dev.measured K.STORE_PEAK = false) ∧
    (∀ l ∈ [0, 15], State.reset.dev.preRead (0x220 + l) 2 = none ∧ State.reset.dev.measured ((0x220 + l) * 256 + 2) = false) ∧
    (∀ key ∈ [0x220 * 256 + 7, 0x1200 * 256 + 0x28], measuring.dev.preRead (key / 256) (key % 256) = none ∧ measuring.dev.measured key = true) := by
  simp only [State.ready, State.up]; decide +kernel

/-- Requests of port 0 held: `n` of them. -/
def heldReq (n : Nat) : State := dev State.reset (fun d => { d with held := List.replicate n (0, .chipEnable rq) })

/-- A request of port 1 to switch domain 46 on waits for its ramp. -/
def ramping : State := pwr (on 2 [(K.PD_STATE 46, 1)]) (fun p => { p with pdQueue := [(46, some { rq with port := 1 })] })

theorem witness_RequestsWaitTheirTurn :
    (State.reset.up ∧ (heldReq 0).dev.turn = false ∧ 32 ≤ (heldReq 32).dev.outstanding rq.port ∧ (heldReq 31).dev.outstanding rq.port < 32 ∧
      (heldReq 1).dev.outstanding rq.port ≠ 0) ∧
    (ramping.up ∧ ramping.dev.turn = false ∧ ramping.dev.outstanding rq.port < 32 ∧
      ramping.dev.behind (.dictWrite rq (K.PD_CMD 46 / 256) (K.PD_CMD 46 % 256) 1 2) = true) ∧
    ((dev State.reset (fun d => { d with turn := true })).dev.turn = true ∧
      (dev State.reset (fun d => { d with turn := true })).dev.preRead 0 0 = some .noObject ∧ rq.bcast = false ∧ rowsAt 0 = [] ∧
      0 * 256 + 0 ≠ K.FAULT_CLEAR) := by
  simp only [State.up]; decide +kernel

theorem test_held : aborted (.dictRead rq 0x300 1) (heldReq 32) = some 7 ∧
    (match exec (.dictRead rq 0x300 1) (heldReq 31) with | .next t => t.dev.held.length | _ => 0) = 32 := by
  decide +kernel

theorem test_dictRead : (match exec (.dictRead rq (K.CHIP_STATE / 256) (K.CHIP_STATE % 256)) State.reset with | .next t => t.dev.egress | _ => []) =
    [.response rq 1 0 (K.CHIP_STATE / 256) (K.CHIP_STATE % 256) [2#8]] := by
  decide +kernel

/-- The index, subindex and row of an object. -/
def at_ (k : Nat) : Option Row := rowOf (k / 256) (k % 256)

theorem witness_WritesAreCheckedInOrder :
    (State.reset.ready rq ∧ State.reset.dev.behind (.dictWrite rq 0x300 1 1 0) = false) ∧ rowsAt 0 = [] ∧ (rowsAt 0x300 ≠ [] ∧ rowOf 0x300 0xFF = none) ∧
    -- LOCKED, ACCESS, LENGTH, RANGE, FAULT, SHED, STATE
    ((on 1 []).dev.get K.CHIP_STATE < 2 ∧ reachableLocked 0x0B00 = false ∧ (at_ (K.Q_SIZE 0)).isSome) ∧
    (at_ K.CHIP_STATE).map (·.acc) = some Acc.ro ∧
    ((at_ (K.Q_SIZE 0)).map (·.acc) = some Acc.rws ∧ (at_ (K.Q_SIZE 0)).map (·.ty.len) = some (some 1) ∧
      (at_ (K.Q_SIZE 0)).map (fun r => (r.ok 0 0, r.ok 0 255)) = some (true, false)) ∧
    ((on 6 []).dev.get K.CHIP_STATE = 6 ∧ stopCommand (K.Q_SIZE 0) 0 = false) ∧
    ((on 6 [(K.SHED_LEVEL, 1)]).dev.shedSuspends (K.DWS_CMD 0) 1 = true ∧ (on 5 [(K.SHED_LEVEL, 1)]).dev.shedSuspends (K.DWS_CMD 0) 1 = true ∧
      (at_ (K.DWS_CMD 0)).map (fun r => (r.acc == .ro, r.acc == .const, r.ty.len, r.ok 0 1)) = some (false, false, some 1, true)) ∧
    (on 3 [(K.Q_STATE 0, 1)]).dev.ownerStopped (K.Q_SIZE 0) = false := by
  simp only [State.ready, State.up]; decide +kernel

theorem test_dictWrite : aborted (.dictWrite rq 0 0 1 0) State.reset = some 1 ∧ aborted (.dictWrite rq 0x300 0xFF 1 0) State.reset = some 2 ∧
    aborted (.dictWrite rq (K.Q_SIZE 0 / 256) (K.Q_SIZE 0 % 256) 1 0) (on 1 []) = some 9 ∧
    aborted (.dictWrite rq (K.Q_SIZE 0 / 256) (K.Q_SIZE 0 % 256) 2 0) State.reset = some 4 ∧
    aborted (.dictWrite rq (K.Q_SIZE 0 / 256) (K.Q_SIZE 0 % 256) 1 255) State.reset = some 5 ∧
    aborted (.dictWrite rq (K.Q_SIZE 0 / 256) (K.Q_SIZE 0 % 256) 1 0) (on 3 [(K.Q_STATE 0, 1)]) = some 6 ∧
    after (.dictWrite rq (K.Q_SIZE 0 / 256) (K.Q_SIZE 0 % 256) 1 9) State.reset (K.Q_SIZE 0) = some 9 := by
  decide +kernel

theorem witness_RwcWritesClear :
    ((on 2 [(K.EVT_STATUS 0, 5)]).admits rq (K.EVT_STATUS 0) 8 4 ∧ (∃ row, at_ (K.EVT_STATUS 0) = some row ∧ row.acc = Acc.rwc ∧ ∃ f, row.ty = Ty.bits f)) ∧
    (∀ v ∈ [0, 1], (on 2 [(K.ABORT_COUNT, 5)]).admits rq K.ABORT_COUNT 4 v) ∧
    (∃ row, at_ K.ABORT_COUNT = some row ∧ row.acc = Acc.rwc ∧ ∀ f, row.ty ≠ Ty.bits f) ∧
    ((on 2 []).admits rq (K.Q_PEAK 255) 4 1 ∧ (∃ row, at_ (K.Q_PEAK 255) = some row ∧ row.acc = Acc.rwc ∧ ∀ f, row.ty ≠ Ty.bits f) ∧
      K.Q_PEAK 255 / 256 = 0x0BFF ∧ K.Q_PEAK 255 % 256 = 9) ∧
    ((on 2 []).admits rq (K.LODE_ECC_CORR 63) 4 1 ∧ (∃ row, at_ (K.LODE_ECC_CORR 63) = some row ∧ row.acc = Acc.rwc ∧ ∀ f, row.ty ≠ Ty.bits f) ∧
      K.LODE_ECC_CORR 63 / 256 = 0x123F ∧ K.LODE_ECC_CORR 63 % 256 = 0x28) := by
  refine ⟨⟨by simp only [State.admits, State.ready, State.up]; decide +kernel, _, rfl, rfl, _, rfl⟩, by simp only [State.admits, State.ready, State.up]; decide +kernel,
    ⟨_, rfl, rfl, fun f h => nomatch h⟩, ⟨by simp only [State.admits, State.ready, State.up]; decide +kernel, ⟨_, rfl, rfl, fun f h => nomatch h⟩, by decide, by decide⟩,
    ⟨by simp only [State.admits, State.ready, State.up]; decide +kernel, ⟨_, rfl, rfl, fun f h => nomatch h⟩, by decide, by decide⟩⟩

theorem test_rwc : after (.dictWrite rq (K.EVT_STATUS 0 / 256) (K.EVT_STATUS 0 % 256) 8 4) (on 2 [(K.EVT_STATUS 0, 5)]) (K.EVT_STATUS 0) = some 1 ∧
    after (.dictWrite rq (K.ABORT_COUNT / 256) (K.ABORT_COUNT % 256) 4 7) (on 2 [(K.ABORT_COUNT, 5)]) K.ABORT_COUNT = some 0 := by
  decide +kernel

/-- A transfer of the mask template of Assay unit 15 (131,072 bytes) open, `done` bytes of it carried. -/
def moving (write : Bool) (done : Nat) : State :=
  dev State.reset (fun d => { d with xfers := [⟨K.MASK_TEMPLATE 15, write, 131072, done⟩] })
def tmpl : Nat := K.MASK_TEMPLATE 15

theorem witness_DomainTransfers :
    (State.reset.up ∧ State.reset.dev.preBlock State.reset.mem (tmpl / 256) (tmpl % 256) true true = none ∧ State.reset.dev.loadState tmpl = true ∧
      State.reset.dev.xferRoom tmpl = true ∧ domLenOk tmpl 131072 = true ∧ domLenOk tmpl 131071 = false) ∧
    (moving true 0).dev.xferRoom tmpl = false ∧
    (State.reset.dev.preBlock State.reset.mem (tmpl / 256) (tmpl % 256) true false = none ∧ 1 ≤ 2 ^ 32 ∧
      ∃ l, readContent State.reset.mem State.reset.dev tmpl 1 = .ok l) ∧
    (∀ n ∈ [0, 2 ^ 32 + 1], n = 0 ∨ 2 ^ 32 < n) ∧
    State.reset.dev.preBlock State.reset.mem (tmpl / 256) (tmpl % 256) false false = none ∧
    ((moving true 8).dev.xferOf tmpl = some ⟨tmpl, true, 131072, 8⟩ ∧ ¬(0x2000 ≤ tmpl / 256 ∧ tmpl / 256 ≤ 0x203F) ∧
      (0x2300 ≤ tmpl / 256 ∧ tmpl / 256 ≤ 0x230F) ∧ 8 + 8192 ≤ 131072 ∧ 8 < 131072) ∧
    ((moving true 131072).dev.xferOf tmpl = some ⟨tmpl, true, 131072, 131072⟩ ∧ (moving true 131072).Inv ∧ 131072 ≤ 2 ^ 32) ∧
    (moving false 0).dev.xferOf tmpl = some ⟨tmpl, false, 131072, 0⟩ ∧ State.reset.dev.xferOf tmpl = none ∧
    (∀ c ∈ [0x0B, 0x0E], Table.find (dev State.reset (fun d => { d with endedBy := [(tmpl, c)] })).dev.endedBy tmpl = some c) ∧
    (Table.find State.reset.dev.endedBy tmpl = none ∧ State.reset.ready rq ∧ rq.bcast = false ∧
      (∀ w, (on 1 []).dev.preBlock (on 1 []).mem (K.HEW_PROGRAM 2 / 256) (K.HEW_PROGRAM 2 % 256) true w = some .locked)) := by
  simp only [State.ready, State.up, State.Inv]
  refine ⟨by decide +kernel, by decide +kernel, ⟨by decide +kernel, by decide, _, rfl⟩, by decide, by decide +kernel, by decide +kernel,
    by decide +kernel, by decide +kernel, by decide +kernel, by decide +kernel, by decide +kernel⟩

/-- R294's worked load: the DATA request, its response, and the LAST_ABORT of the OPEN_WRITE at an attached Hewer that is not STOPPED. -/
theorem test_workedLoad :
    (transWords (transHead 8200 0 3 0x2102 0x01 0x11 3 false 0 5) (toBytes 8 0)).take 3 =
      [0x2102011100300005, 0x0000200800000300, 0] ∧
    transWords (transHead 0 0 3 0x2102 0x01 0x11 3 true 5 0) [] = [0x2102011100380140, 0x0000000000000300] ∧
    (match exec (.openWrite { rq with tag := 0x11 } 0x2102 1 8192) (on 3 [(K.HEW_STATE 2, 1), (K.NODE_ID, 5)]) with
      | .next t => t.dev.get K.LAST_ABORT | _ => 0) = 0x0006210201030011 := by
  decide +kernel

theorem test_transfers : after (.openWrite rq (tmpl / 256) (tmpl % 256) 131072) State.reset K.OPEN_BLOCKS = some 1 ∧
    aborted (.openWrite rq (tmpl / 256) (tmpl % 256) 131071) State.reset = some 4 ∧
    aborted (.openWrite rq (tmpl / 256) (tmpl % 256) 131072) (moving true 0) = some 7 ∧
    aborted (.data rq (tmpl / 256) (tmpl % 256) 9 0 [1#8]) (moving true 8) = some 5 ∧
    aborted (.close rq (tmpl / 256) (tmpl % 256)) State.reset = some 6 ∧ aborted (.cancel rq (tmpl / 256) (tmpl % 256)) State.reset = some 6 := by
  decide +kernel

/-- A trained DDR4 of 1 GiB. -/
def ddr (l : List (Nat × Nat)) : State := on 2 ([(K.DDR_STATE, 3), (K.CAPACITY, 2 ^ 30), (K.CHAN_MASK, 1)] ++ l)

/-- The word at 64 was read uncorrectable. -/
def badWord : State := dev (ddr []) (fun d => { d with badDdr := [64] })

theorem witness_BulkReachesDdr4 :
    ((ddr []).up ∧ rq.bcast = false) ∧ bulkCheck (ddr []).mem (ddr []).dev rq (2 ^ 30 - 8192) 8192 true false = .ok () ∧ (2 ^ 30 ≤ 2 ^ 40) ∧
    bulkCheck (ddr []).mem (ddr []).dev rq 0 8193 true false = .error .length ∧
    bulkCheck (ddr []).mem (ddr []).dev rq 0 1 false false = .ok () ∧ bulkCheck State.reset.mem State.reset.dev rq 0 1 false false = .error .state ∧
    (2 ≤ State.reset.dev.get K.CHIP_STATE ∧ State.reset.dev.get K.DDR_STATE ≠ 3 ∧ 8192 ≤ State.reset.dev.bulkMax rq.port) ∧
    ((ddr []).dev.get K.CAPACITY < 2 ^ 30 + 1 ∧ 1 ≤ (ddr []).dev.bulkMax rq.port) ∧ (ddr []).ready rq ∧
    (∀ p, bulkCheck State.reset.mem State.reset.dev rq 0 1 true p = .error .state) ∧
    (bulkCheck (badWord).mem (badWord).dev rq 64 8 false false = .ok () ∧ (badWord).dev.ddrBad 64 8 = true ∧ (badWord).dev.ddrBad 56 8 = false) := by
  simp only [State.ready, State.up]; decide +kernel

theorem test_bulk : (match exec (.bulkWrite rq 100 false [1, 2, 3]) (ddr []) with | .next t => Memory.look t.mem (ddrAt 102) | _ => none) = some 3#8 ∧
    aborted (.bulkRead rq (2 ^ 30) 1) (ddr []) = some 5 ∧ aborted (.bulkRead rq 0 1) State.reset = some 6 := by
  decide +kernel

/-- A TRANS frame of this hop to node 9: FSEQ, whether intact and a response. -/
def frame (fseq : Nat) (intact resp : Bool) : Frame :=
  let f := frameT fseq 1 (transWords (transHead 0 0 0 0x300 2 0 1 resp 0 9) [])
  if intact then f else spoiled f

/-- An intact ACK_ONLY frame. -/
def ackFrame : Frame := frameMade (frameHead 0 0 0 0 0 false 2 1 0) []

/-- The upstream port ACTIVE at a version, with more of its state. -/
def ctrlFrame (op : Nat) : Frame := frameMade (frameHead 0 0 0 0 0 false 2 op 1) [1]
def port0 (ver : Nat) (x : Port) : State := dev (on 2 [(K.NODE_ID, 5), (portKey 0 2, 5), (portKey 0 7, ver)]) (fun d => { d with ports := [(0, x)] })

theorem witness_FramesAreSequenced :
    (State.reset.up ∧ State.reset.dev.turn = false ∧ State.reset.dev.portState 0 ≠ 5 ∧ State.reset.dev.portState 1 ≠ 5) ∧ (port0 0x203 {}).dev.portState 0 = 5 ∧
    (frame 1 false false).intact = false ∧
    (∀ q ∈ [(1, 1), (0, 0), (2, 2), (32767, 32767), (32768, 32768)],
      (frame q.1 true false).intact = true ∧ (frame q.1 true false).badKind = false ∧ (frame q.1 true false).kind = 1 ∧
      ((frame q.1 true false).fseq + 65536 - (((port0 0x203 {}).dev.header 0 (frame q.1 true false)).port 0).ack) % 65536 = q.2) ∧
    ((frameT 1 6 []).intact = true ∧ (frameT 1 6 []).badKind = true) ∧
    (ackFrame.intact = true ∧ ackFrame.badKind = false ∧ ackFrame.kind = 2 ∧ ackFrame.op = 1) ∧
    (((port0 0x203 { replay := [frame 1 true true] }).dev.port 0).replay ≠ [] ∧ ((port0 0x203 { replay := [frame 1 true true] }).dev.port 0).narrow = none ∧
      ((port0 0x203 { replay := [frame 1 true true] }).dev.port 0).resends + 1 < 8 ∧
      ((port0 0x203 { replay := [frame 1 true true], resends := 7 }).dev.port 0).resends + 1 = 8) ∧
    ((port0 0x102 {}).dev.portMajor 0 = 1 ∧ (port0 0x203 {}).dev.portMajor 0 = 2) ∧
    (∀ op ∈ [2, 3, 4, 5, 6, 7], (ctrlFrame op).intact = true ∧ (ctrlFrame op).kind = 2 ∧ (ctrlFrame op).op = op ∧
      ((port0 0x102 {}).dev.header 0 (ctrlFrame op)).portState 0 = 5 ∧ ((port0 0x102 {}).dev.header 0 (ctrlFrame op)).portMajor 0 = 1) ∧
    (((port0 0x203 { fwd := [frame 1 true true] }).dev.port 0).fwd = frame 1 true true :: [] ∧
      (port0 0x203 { fwd := [frame 1 true true] }).dev.mayGo 0 (frame 1 true true).body = true ∧
      (port0 0x203 { fwd := [frame 1 true true] }).dev.canSend 0 (8 * (frame 1 true true).body.length) = true) ∧
    (port0 0x203 { fwd := [frame 1 true false] }).dev.mayGo 0 (frame 1 true false).body = false ∧
    ((dev State.reset (fun d => { d with ports := [(1, { fwd := [frame 1 true true] })] })).dev.portState 1 ≠ 5) ∧
    (State.reset.dev.port 0).fwd = [] := by
  simp only [State.up]; decide +kernel

theorem test_frames : after (.transFrameReceived 0 (frame 1 false false)) (port0 0x203 {}) (portKey 0 0x0F) = some 1 ∧
    (match exec (.transFrameReceived 0 (frame 1 true false)) (port0 0x203 {}) with | .next t => (t.dev.port 0).ack | _ => 0) = 1 ∧
    after (.replayTimeout 0) (port0 0x203 { replay := [frame 1 true true], resends := 7 }) (portKey 0 2) = some 2 ∧
    after (.transFrameReceived 0 (frameT 1 6 [])) (port0 0x203 {}) (portKey 0 0x0F) = some 1 ∧
    (match exec (.pauseOn 0) (port0 0x102 {}) with | .next t => (t.dev.port 0).paused | _ => false) = true := by
  decide +kernel

theorem test_frameForward :
    after (.frameForward 1) (dev State.reset (fun d => { d with ports := [(1, { fwd := [frame 1 true true] })] })) K.FWD_DISCARDED = some 1 := by
  decide +kernel

/-- A notice for node 0 waits at node 5, whose upstream port may send it. -/
def noticing : State :=
  dev (on 2 [(K.NODE_ID, 5), (portKey 0 2, 5), (portKey 0 7, 0x203), (portKey 0 8, 7)])
    (fun d => { d with notices := [⟨0, 3, 1, 2, 1, 0⟩], ports := [(0, { notLim := 1 })] })

theorem witness_EnumerationAndNotices :
    (State.reset.up ∧ State.reset.dev.get K.NODE_ID = 0 ∧ (1 < 63 ∧ 62 < 63) ∧ 63 ≤ 63 ∧ State.reset.dev.portState 1 ≠ 5) ∧
    State.reset.ready rq ∧ State.reset.ready { rq with port := 1 } ∧ rq.port = 0 ∧ State.reset.dev.notices = [] ∧
    (on 2 [(portKey 1 2, 5)]).dev.portState 1 = 5 ∧ (on 2 [(K.NODE_ID, 5)]).dev.get K.NODE_ID ≠ 0 ∧
    (noticing.up ∧ noticing.dev.notices = ⟨0, 3, 1, 2, 1, 0⟩ :: [] ∧ noticing.dev.get K.NODE_ID ≠ 0 ∧ 0 < noticing.dev.get K.NODE_ID ∧
      noticing.dev.canSend 0 48 = true ∧ noticing.dev.mayGo 0 (noticeWords 5 ⟨0, 3, 1, 2, 1, 0⟩) = true) := by
  simp only [State.ready, State.up]; decide +kernel

theorem test_enum : after (.enumAssign rq 62) State.reset K.NODE_ID = some 62 ∧ after (.enumAssign rq 63) State.reset K.ENUM_REFUSED = some 1 ∧
    after (.enumClear rq) (on 2 [(K.NODE_ID, 5)]) K.NODE_ID = some 0 ∧
    (match exec .noticeSend noticing with | .next t => (t.dev.port 0).notSent | _ => 0) = 1 := by
  decide +kernel

/-! Tarn queues, Sump regions, Tram channels, the DDR4 controller. -/

/-- Tarn queue 255 of 4 KiB in a state, with words. -/
def tarn (st : Nat) (w : List (Nat × Bool)) (l : List (Nat × Nat)) : State :=
  dev (on 3 ([(K.Q_STATE 255, st), (K.Q_SIZE 255, 1), (K.PD_STATE 46, 2)] ++ l)) (fun d => { d with tarns := [(255, { drain := w })] })
def full : List (Nat × Bool) := List.replicate 512 (7, false)

theorem witness_QueuesKeepTheirOrder :
    ((tarn 0 [] []).admits rq (K.Q_CMD 255) 1 1 ∧ (tarn 1 [] []).admits rq (K.Q_CMD 255) 1 1 ∧ (tarn 0 [] []).dev.get (K.Q_STATE 255) ≠ 1 ∧
      (tarn 0 [] []).dev.domOn 46 = true ∧ 0 < tarnWords ((tarn 0 [] []).dev.get (K.Q_SIZE 255))) ∧
    ((tarn 0 [] []).dev.poolUsed + tarnWords 1 ≤ 1048576 ∧
      1048576 < (tarn 0 [] ((List.range 8).flatMap (fun q => [(K.Q_STATE q, 1), (K.Q_SIZE q, 9)]))).dev.poolUsed + tarnWords 1) ∧
    ((tarn 1 [] []).admits rq (K.Q_CMD 255) 1 2 ∧ (tarn 1 [] []).admits rq (K.Q_CMD 255) 1 3 ∧ (tarn 0 [] []).admits rq (K.Q_CMD 255) 1 2 ∧
      (tarn 0 [] []).admits rq (K.Q_CMD 255) 1 3 ∧ (tarn 1 [] []).dev.qBinding 255 = 0 ∧
      (tarn 1 [] [(K.STREAM_STATE 0, 1), (K.STREAM_QUEUE 0, 255)]).dev.qBinding 255 ≠ 0) ∧
    ((tarn 1 [] []).admits rq (K.Q_PUSH 255) 8 (2 ^ 64 - 1) ∧ (tarn 1 [] []).admits rq (K.Q_PUSH_END 255) 8 0 ∧ 0 < (tarn 1 [] []).dev.qSpace 255 ∧
      (tarn 1 full []).dev.qSpace 255 = 0 ∧ (tarn 1 [] []).dev.get (K.Q_WEIR 255) = 0 ∧ (tarn 1 [] []).dev.qLogged 255 = false ∧
      (tarn 1 [] []).dev.qGraphOut 255 = false ∧ (tarn 1 [] []).dev.qTram 255 20 = false ∧ (tarn 1 [] []).dev.qStaged 255 = false) ∧
    ((tarn 1 [] []).ready rq ∧ 0 < tarnWords ((tarn 1 [] []).dev.get (K.Q_SIZE 255)) ∧ (tarn 0 [] []).dev.preRead (0x0B00 + 255) 0x10 = none ∧
      (tarn 1 [] []).dev.qSump 255 = false ∧ (tarn 1 [] []).dev.qStream 255 = false ∧ (tarn 1 [] []).dev.qGraphIn 255 = false ∧
      (tarn 1 [] []).dev.qTram 255 16 = false) ∧
    ((tarn 1 [(5, false)] []).up ∧ rq.bcast = false ∧ (tarn 1 [(5, false)] []).dev.preRead (0x0B00 + 255) 0x10 = none ∧
      ((tarn 1 [(5, false)] []).dev.tarn 255).words = (5, false) :: [] ∧ ((tarn 1 [] []).dev.tarn 255).words = [] ∧
      (tarn 1 [] []).dev.get (K.Q_UNDERRUNS 255) + 1 < 2 ^ 32) ∧
    (∀ v ∈ [0, 1, 2], (tarn 1 [(5, false)] []).admits rq (K.Q_WEIR 255) 4 v) ∧ ((tarn 1 [(5, false)] []).dev.tarn 255).count = 1 := by
  simp only [State.admits, State.ready, State.up]; decide +kernel

theorem test_qEnable : after (.qEnable rq 255) (tarn 0 [] []) (K.Q_STATE 255) = some 1 ∧ aborted (.qEnable rq 255) (tarn 1 [] []) = some 6 ∧
    aborted (.qDisable rq 255) (tarn 1 [] [(K.STREAM_STATE 0, 1), (K.STREAM_QUEUE 0, 255)]) = some 7 ∧ aborted (.qFlush rq 255) (tarn 0 [] []) = some 6 := by
  decide +kernel

theorem test_qPush : (match exec (.qPushEnd rq 255 9) (tarn 1 [(5, false)] []) with | .next t => (t.dev.tarn 255).words | _ => []) = [(5, false), (9, true)] ∧
    aborted (.qPush rq 255 9) (tarn 1 full []) = some 7 := by
  decide +kernel

theorem test_qPop : (match exec (.qPop rq 255) (tarn 1 [(5, false), (6, true)] []) with
      | .next t => ((t.dev.tarn 255).words, t.dev.egress) | _ => ([], [])) = ([(6, true)], [.response rq 1 0 0x0BFF 0x10 (toBytes 8 5)]) ∧
    after (.qPop rq 255) (tarn 1 [] []) (K.Q_UNDERRUNS 255) = some 1 ∧ after (.qWeirWrite rq 255 1) (tarn 1 [(5, false)] []) (K.Q_STICKY 255) = some 2 := by
  decide +kernel

/-- Records of a staging buffer and of the home block. -/
def rec_ (q : Nat) : LogRec := ⟨q, 0, 3, 0, false⟩
def staged (n : Nat) (w : List LogRec) (l : List (Nat × Nat)) : State :=
  dev (tarn 1 [] l) (fun d => { d with staging := [(3, { recs := List.replicate n (rec_ 255), wait := w })] })

/-- An ordinary record for which queue 255 lacks room beside the reserve, and a START record of queue `q` behind it. -/
def two (q : Nat) : State :=
  dev (tarn 1 [] [(K.Q_STATE 254, 1), (K.Q_SIZE 254, 1)]) (fun d => { d with staging := [(3, { recs := [rec_ 255, ⟨q, 0, 3, 3, false⟩] })] })

/-- Sump region 15 on queue 255, of 1 KiB at the top of DDR4. -/
def sump (st mode : Nat) (w : List (Nat × Bool)) (l : List (Nat × Nat)) : State :=
  tarn 1 w ([(K.DDR_STATE, 3), (K.SUMP_STATE 15, st), (K.SUMP_QUEUE 15, 255), (K.SUMP_MODE 15, mode), (K.SUMP_BASE 15, 2 ^ 40 - 1024),
    (K.SUMP_KIB 15, 1), (K.SUMP_AREA_BASE, 2 ^ 20 - 1), (K.SUMP_AREA_MIB, 1), (K.Q_SIZE 255, 9)] ++ l)

theorem witness_RecordsReachQueuesAndRegions :
    ((staged 1 [] []).up ∧ (Table.at (staged 1 [] []).dev.staging {} 3).recs = rec_ 255 :: [] ∧ (rec_ 255).kind = 0 ∧
      516 ≤ (staged 1 [] [(K.Q_SIZE 255, 2)]).dev.qSpace 255 ∧ (staged 1 [] []).dev.qSpace 255 = 512) ∧
    (∀ q ∈ [254, 255], (two q).dev.qSpace 255 < 516 ∧ 4 ≤ (two q).dev.qSpace q ∧
      (Table.at (two q).dev.staging {} 3).recs = rec_ 255 :: ⟨q, 0, 3, 3, false⟩ :: []) ∧
    ((Table.at (staged 0 [] []).dev.staging {} 3).wait = [] ∧ (Table.at (staged 0 [rec_ 255] []).dev.staging {} 3).wait = rec_ 255 :: [] ∧
      (Table.at (staged 895 [rec_ 255] []).dev.staging {} 3).ordinary < 896 ∧ 896 ≤ (Table.at (staged 896 [rec_ 255] []).dev.staging {} 3).ordinary ∧
      (Table.at (staged 896 [rec_ 255] []).dev.staging {} 3).reserve < 128) ∧
    (∀ v ∈ [1, 2], (sump 0 0 [] []).admits rq (K.SUMP_CMD 15) 1 v ∧ (sump 1 0 [] []).admits rq (K.SUMP_CMD 15) 1 v) ∧
    ((sump 1 0 [] []).dev.get (K.SUMP_STATE 15) ≠ 0 ∧ (sump 0 0 [] []).dev.get (K.SUMP_STATE 15) = 0 ∧ (sump 0 0 [] []).dev.sumpBindChecks 15 = .ok ()) ∧
    ((sump 1 0 [] []).dev.qLogged 255 = false ∧
      (sump 1 0 [] [(K.LOG_CFG 127, 256 + 255), (K.SITE_SEQ 127, 0), (K.SEQ_STATE 0, 2)]).dev.qLogged 255 = true) ∧
    (∀ v ∈ [0, 8, 16, 17], (sump 1 1 [] [(K.SUMP_WR 15, 16), (K.SUMP_RD 15, 8)]).admits rq (K.SUMP_RD 15) 8 v) ∧
    ((sump 1 1 [] []).dev.get (K.SUMP_MODE 15) = 1 ∧ (sump 1 0 [] []).dev.get (K.SUMP_MODE 15) ≠ 1) ∧
    (∀ q ∈ [(1, 0), (1, 1), (2, 1)], ((sump q.1 q.2 [] []).dev.get (K.SUMP_STATE 15) ≠ 0 ∧
      ¬((sump q.1 q.2 [] []).dev.get (K.SUMP_STATE 15) = 2 ∧ (sump q.1 q.2 [] []).dev.get (K.SUMP_MODE 15) = 0))) ∧
    ((sump 2 0 [] []).dev.get (K.SUMP_STATE 15) = 2 ∧ (sump 2 0 [] []).dev.get (K.SUMP_MODE 15) = 0) ∧
    (firstPacket ((sump 1 0 [] []).dev.tarn 255).words = none ∧
      firstPacket ((sump 1 0 [(1, false), (2, true), (3, true)] []).dev.tarn 255).words = some [(1, false), (2, true)]) ∧
    ((0 + 8 * 2 ≤ 1024 ∧ (2 ^ 40 - 1024) + 1024 ≤ 2 ^ 40) ∧ (sump 1 0 [(1, true)] [(K.SUMP_WR 15, 1024)]).dev.get (K.SUMP_WR 15) + 8 > 1024 ∧
      firstPacket ((sump 1 0 (List.replicate 128 (1, false) ++ [(2, true)]) []).dev.tarn 255).words = some (List.replicate 128 (1, false) ++ [(2, true)]) ∧
      1024 < 8 * (List.replicate 128 ((1 : Nat), false) ++ [(2, true)]).length) ∧
    ((sump 1 1 [] [(K.SUMP_WR 15, 1020), (K.SUMP_RD 15, 1016)]).dev.get (K.SUMP_WR 15) -
        (sump 1 1 [] [(K.SUMP_WR 15, 1020), (K.SUMP_RD 15, 1016)]).dev.get (K.SUMP_RD 15) + 8 * 2 ≤ 1024 ∧
      1024 < (sump 1 1 [] [(K.SUMP_WR 15, 1024)]).dev.get (K.SUMP_WR 15) - (sump 1 1 [] [(K.SUMP_WR 15, 1024)]).dev.get (K.SUMP_RD 15) + 8) ∧
    ((sump 1 0 [] []).dev.get (K.SUMP_DISCARDED 15) + 1 < 2 ^ 32 ∧ (sump 1 0 [] [(K.DDR_STATE, 4)]).dev.get K.DDR_STATE ≠ 5) := by
  simp only [State.admits, State.ready, State.up]; decide +kernel

/-- A reserve that is full too. -/
theorem witness_RecordsReachQueuesAndRegions_reserve :
    128 ≤ (({ recs := List.replicate 896 (rec_ 255) ++ List.replicate 128 { rec_ 255 with resv := true } } : Staging)).reserve ∧
    896 ≤ (({ recs := List.replicate 896 (rec_ 255) ++ List.replicate 128 { rec_ 255 with resv := true } } : Staging)).ordinary := by
  decide +kernel

theorem test_sump : after (.sumpDrain 15) (sump 1 0 [(1, false), (2, true), (3, true)] []) (K.SUMP_WR 15) = some 16 ∧
    (match exec (.sumpDrain 15) (sump 1 0 [(1, false), (2, true), (3, true)] []) with
      | .next t => ((t.dev.tarn 255).words, Memory.look t.mem (ddrAt (2 ^ 40 - 1024 + 8))) | _ => ([], none)) = ([(3, true)], some 2#8) ∧
    after (.sumpDrain 15) (sump 1 0 [(1, true)] [(K.SUMP_WR 15, 1024)]) (K.SUMP_STATE 15) = some 2 ∧
    after (.sumpDrain 15) (sump 2 0 [(1, true)] []) (K.SUMP_WR 15) = some 0 ∧
    aborted (.sumpRdWrite rq 15 7) (sump 1 1 [] [(K.SUMP_WR 15, 16)]) = some 5 ∧ aborted (.sumpUnbind rq 15) (sump 0 0 [] []) = some 6 := by
  decide +kernel

theorem test_staging : (match exec (.stagingDeliver 3) (staged 1 [] [(K.Q_SIZE 255, 2)]) with | .next t => (t.dev.tarn 255).words | _ => []) =
      [(3, false), (0, false), (0, false), (0, true)] ∧
    (match exec (.stagingDeliver 3) (two 254) with | .next t => ((t.dev.tarn 254).words.length, (t.dev.tarn 255).words.length) | _ => (0, 0)) = (4, 0) ∧
    (match exec (.stagingDeliver 3) (two 255) with | .next t => (t.dev.tarn 255).words.length | _ => 1) = 0 := by
  decide +kernel

theorem test_sumpWraps : (match exec (.sumpDrain 15) (sump 1 1 [(1, false), (2, true)] [(K.SUMP_WR 15, 1016), (K.SUMP_RD 15, 512)]) with
      | .next t => (t.dev.get (K.SUMP_WR 15), Memory.look t.mem (ddrAt (2 ^ 40 - 8)), Memory.look t.mem (ddrAt (2 ^ 40 - 1024)))
      | _ => (0, none, none)) = (1032, some 1#8, some 2#8) := by
  decide +kernel

/-- A descriptor (R249): END, element size, one element from DDR4 to DDR4. -/
def desc (end_ elem src dst : Nat) : Nat :=
  end_ + elem * 2 ^ 10 + 4096 * 2 ^ 24 + src * 2 ^ 160 + dst * 2 ^ 208 + 2 ^ 272 + 2 ^ 144 * 2 ^ 144 + 2 ^ 144 * 2 ^ 160

/-- Tram channel 15 in a state over a trained DDR4 of 1 GiB. -/
def tram (st : Nat) (t : Tram) (l : List (Nat × Nat)) : State :=
  dev (on 3 ([(K.TRAM_STATE 15, st), (K.PD_STATE 46, 2), (K.PD_STATE 34, 2), (K.DDR_STATE, 3), (K.CAPACITY, 2 ^ 30), (K.CHAN_MASK, 1)] ++ l))
    (fun d => { d with trams := [(15, t)] })

theorem witness_TramChainsRun :
    (∀ v ∈ [1, 2, 3], ∀ st ∈ [0, 2, 4, 5], (tram st {} []).admits rq (K.TRAM_CMD 15) 1 v ∧ (tram st {} []).dev.get (K.TRAM_STATE 15) = st) ∧
    ((tram 0 {} []).dev.gate [46] none = .ok () ∧ (tram 0 {} []).dev.domOn 46 = true ∧ (tram 0 {} []).dev.get K.DDR_STATE = 3) ∧
    ((tram 2 { desc := some (desc 1 3 0 64, 64) } [(K.CHAIN_STOP_AT 15, 64)]).dev.atTail 15 = true ∧
      (tram 2 { desc := some (desc 0 3 0 64, 128) } [(K.CHAIN_STOP_AT 15, 64)]).dev.atTail 15 = false ∧
      (tram 2 { desc := some (desc 1 3 0 64, 64) } [(K.CHAIN_STOP_AT 15, 64)]).admits rq (K.TRAM_CMD 15) 1 2) ∧
    (∀ v ∈ [3, 4, 5], (tram 4 {} [(K.CHAIN_STOP_AT 15, 64), (K.DDR_STATE, v)]).admits rq (K.TRAM_CMD 15) 1 2 ∧
      (tram 4 {} [(K.CHAIN_STOP_AT 15, 64), (K.DDR_STATE, v)]).dev.get K.DDR_STATE = v ∧
      (tram 4 {} [(K.CHAIN_STOP_AT 15, 64), (K.DDR_STATE, v)]).dev.ddrBad 64 8 = (v == 5) ∧
      (tram 2 { next := some 64 } [(K.DDR_STATE, v)]).dev.ddrBad 64 64 = (v == 5)) ∧
    ((tram 2 { next := some (2 ^ 30 - 64) } []).up ∧ ((tram 2 { next := some (2 ^ 30 - 64) } []).dev.tram 15).desc = none ∧
      ((tram 2 { next := some (2 ^ 30 - 64) } []).dev.tram 15).next = some (2 ^ 30 - 64) ∧
      (tram 2 { next := some (2 ^ 30 - 64) } []).dev.ddrBad (2 ^ 30 - 64) 64 = false ∧ (2 ^ 30 - 64) + 64 ≤ (tram 2 {} []).dev.get K.CAPACITY ∧
      (tram 2 {} []).dev.get K.CAPACITY < (2 ^ 30 - 63) + 64) ∧
    ((tram 2 {} []).dev.descCheck (desc 1 3 0 (2 ^ 30 - 8)) = 0 ∧ (tram 2 {} []).dev.descCheck (desc 1 3 0 (2 ^ 30)) = 3 ∧
      (tram 2 {} []).dev.descCheck (desc 1 7 0 0) = 1) ∧
    (((tram 2 { desc := some (desc 1 3 0 64, 0) } []).dev.tram 15).desc = some (desc 1 3 0 64, 0) ∧
      dSrcEp (desc 1 3 0 64) = 0 ∧ dDstEp (desc 1 3 0 64) = 0 ∧ dSwap (desc 1 3 0 64) = 0 ∧ (∀ i, i < 3 → dCount (desc 1 3 0 64) i = 1) ∧
      (tram 2 {} []).dev.ddrBad 0 8 = false ∧ dEnd (desc 1 3 0 64) = true ∧ dEnd (desc 0 3 0 64) = false) := by
  simp only [State.admits, State.ready, State.up]; decide +kernel

theorem test_tramStart : after (.tramStart rq 15) (tram 0 {} []) (K.TRAM_STATE 15) = some 2 ∧ aborted (.tramStart rq 15) (tram 2 {} []) = some 6 ∧
    aborted (.tramRestart rq 15) (tram 0 {} []) = some 6 ∧ after (.tramAbort rq 15) (tram 2 {} []) (K.TRAM_STATE 15) = some 0 := by
  decide +kernel

theorem test_tramRestart :
    (match exec (.tramRestart rq 15) (mem (tram 4 {} [(K.CHAIN_STOP_AT 15, 64)]) (ddrAt 64) (toBytes 64 (desc 0 3 0 128))) with
      | .next t => (t.dev.tram 15).next | _ => none) = some 4096 ∧
    after (.tramRestart rq 15) (tram 4 {} [(K.CHAIN_STOP_AT 15, 64), (K.DDR_STATE, 5)]) (K.TRAM_STATE 15) = some 5 := by
  decide +kernel

theorem test_descFetch : (match exec (.descFetch 15) (mem (tram 2 { next := some 64 } []) (ddrAt 64) (toBytes 64 (desc 0 3 0 128))) with
    | .next t => (t.dev.tram 15).desc | _ => none) = some (desc 0 3 0 128, 64) := by
  decide +kernel

theorem test_descComplete : (match exec (.descComplete 15 none [] false) (mem (tram 2 { desc := some (desc 0 3 0 128, 64) } []) (ddrAt 0) [1, 2, 3, 4, 5, 6, 7, 8]) with
    | .next t => (Memory.look t.mem (ddrAt 135), (t.dev.tram 15).next) | _ => (none, none)) = (some 8#8, some 4096) := by
  decide +kernel

theorem witness_DdrStates :
    (∀ v ∈ [1, 2, 3, 4], ∀ st ∈ [0, 1, 3, 4, 5], (on 2 [(K.DDR_STATE, st)]).admits rq K.DDR_CMD 1 v ∧ (on 2 [(K.DDR_STATE, st)]).dev.get K.DDR_STATE = st) ∧
    (on 2 [(K.DDR_STATE, 1)]).dev.wndBusy = false ∧ (on 2 [(K.DDR_STATE, 1), (K.WND_STATE, 2)]).dev.wndBusy = true ∧
    (on 2 [(K.DDR_STATE, 3)]).dev.ddrUsers = false ∧ (∀ p ∈ (on 2 [(K.DDR_STATE, 3)]).dev.ddr, ∀ b ∈ p.2.wq, (on 2 [(K.DDR_STATE, 3)]).dev.rmwBad b = false) ∧ (on 3 [(K.DDR_STATE, 3), (K.SEQ_STATE 0, 1)]).dev.ddrUsers = true := by
  simp only [State.admits, State.ready, State.up]; decide +kernel

theorem test_ddr : after (.ddrInit rq) (on 2 [(K.DDR_STATE, 1)]) K.DDR_STATE = some 2 ∧ after (.srEnter rq) (ddr []) K.DDR_STATE = some 4 ∧
    after (.srExit rq) (on 2 [(K.DDR_STATE, 4)]) K.DDR_STATE = some 3 ∧ after (.release rq) (ddr []) K.CAPACITY = some 0 := by
  decide +kernel

/-- Channel 0 of a trained controller. -/
def chan (x : DdrChan) (l : List (Nat × Nat)) : State := dev (ddr l) (fun d => { d with ddr := [(0, x)] })
def rd (port : Nat) : Burst := { port := port, addr := 0, write := false, be := 1 }
def wr (port : Nat) : Burst := { port := port, addr := 0, write := true, be := 1 }

theorem witness_DdrChannelsServeBursts :
    ((chan {} []).up ∧ (chan {} []).dev.inService 0 = true ∧ ¬((chan {} []).dev.get K.DDR_STATE = 5)) ∧
    (∀ p ∈ [0, 1, 2, 3, 4, 5], ((chan { ports := [rd p] } []).dev.ddrCh 0).readPick (chan { ports := [rd p] } []).dev.scrubHeld = some (rd p)) ∧
    (∀ p ∈ [1, 2, 3, 4], ((chan { ports := [wr p] } []).dev.ddrCh 0).writePick = some (wr p) ∧
      ((chan { ports := [wr p] } []).dev.ddrCh 0).readPick (chan { ports := [wr p] } []).dev.scrubHeld = none) ∧
    (∀ b ∈ [false, true], ((chan { rq := [{ rd 0 with seen := b }] } [(K.DDR_STATE, 5)]).dev.ddrCh 0).rq = { rd 0 with seen := b } :: []) ∧
    (((chan { ports := [rd 3] } [(K.DDR_STATE, 5)]).dev.ddrCh 0).ports.find? (fun b => b.port == 3 && !b.write) = some (rd 3) ∧ (rd 3).seen = false) ∧
    (64 ≤ ((chan { rq := List.replicate 64 (rd 0), wq := List.replicate 64 (wr 1) } []).dev.ddrCh 0).rq.length ∧
      64 ≤ ((chan { rq := List.replicate 64 (rd 0), wq := List.replicate 64 (wr 1) } []).dev.ddrCh 0).wq.length) ∧
    (((chan { rq := [rd 0] } []).dev.ddrCh 0).drain = false ∧ (chan { rq := [rd 0] } []).dev.pickRead 0 = some (rd 0, 0) ∧
      ((chan { rq := [rd 0] } []).dev.ddrCh 0).rq.find? (·.port == 0) = some (rd 0) ∧ (chan { rq := [rd 0] } []).dev.rankOpen 0 (rd 0).addr = true) ∧
    ((chan { wq := [wr 1] } []).dev.pickRead 0 = none ∧ (chan { wq := [wr 1] } []).dev.pickWrite 0 = some (wr 1) ∧
      ((chan { wq := [wr 1], drain := true } []).dev.ddrCh 0).drain = true) ∧
    (¬((chan {} [(K.CHAN_MASK, 2)]).dev.inService 0 = true) ∧ (chan { rq := [rd 0] } [(K.DDR_STATE, 5)]).dev.get K.DDR_STATE = 5) ∧
    (0 < (chan {} []).dev.ddrRanks ∧ 1 < (chan {} [(K.DEVICE_CFG, 16)]).dev.ddrRanks ∧ (chan {} []).dev.get (K.REF_DEBT 0) < 2 ^ 16) ∧
    (8 ≤ (chan {} [(K.REF_DEBT 0, 8 * 256)]).dev.refDebt 0 1 ∧ (chan {} []).dev.get (K.REF_URGENT 0) + 1 < 2 ^ 32 ∧
      (chan {} [(K.REF_DEBT 0, 0xF9)]).dev.refDebt 0 0 = -7 ∧ (chan {} [(K.REF_DEBT 0, 0xF8)]).dev.refDebt 0 0 = -8 ∧ (chan {} []).dev.rtPanic = false) ∧
    ((chan {} [(K.SCRUB_INTERVAL, 1)]).dev.get K.SCRUB_INTERVAL ≠ 0 ∧ (chan {} []).dev.get K.SHED_LEVEL = 0 ∧ ((chan {} []).dev.ddrCh 0).rq = [] ∧
      (chan {} []).dev.rankOpen 0 ((chan {} []).dev.byteAddr 0 0) = true ∧ ((chan {} []).dev.ddrCh 0).ports.all (·.write) = true ∧
      ((chan {} []).dev.ddrCh 0).drain = false ∧ (chan {} []).dev.burstBad ((chan {} []).dev.byteAddr 0 0) = false ∧
      (dev (chan {} []) (fun d => { d with badDdr := [(chan {} []).dev.byteAddr 0 0] })).dev.burstBad ((chan {} []).dev.byteAddr 0 0) = true ∧
      ((chan { rq := [rd 1] } []).dev.ddrCh 0).rq ≠ [] ∧ (rd 1).port ≠ 5) ∧
    ((chan {} [(K.SCRUB_INTERVAL, 0)]).dev.get K.SCRUB_INTERVAL = 0 ∧ 1 ≤ (chan {} [(K.SHED_LEVEL, 1)]).dev.get K.SHED_LEVEL) ∧
    ((chan { wq := [{ wr 1 with be := 2 ^ 64 - 1 }] } []).dev.ddrCh 0).queuedBytes 0 = 2 ^ 64 - 1 ∧
    ((tram 2 {} []).dev.get (K.TRAM_STATE 15) = 2 ∧ (on 2 [(K.GRAPH_STATE 1, 2)]).dev.get (K.GRAPH_STATE ((1024 + 1) / 1024)) = 2) ∧
    (chan {} [(K.DDR_FEATURES, 1)]).dev.get K.DDR_FEATURES % 4 ≠ 0 := by
  simp only [State.up]; decide +kernel

theorem test_refresh : after (.trefiTick 0 1) (chan {} [(K.DEVICE_CFG, 16)]) (K.REF_DEBT 0) = some 256 ∧
    after (.refIssue 0 0) (chan {} []) (K.REF_DEBT 0) = some 0xFF ∧ after (.refIssue 0 0) (chan {} [(K.REF_DEBT 0, 8)]) (K.REF_URGENT 0) = some 1 := by
  decide +kernel

theorem test_scrub : (match exec (.scrubIntervalExpiry 0 0) (chan { rq := [rd 1] } [(K.SCRUB_INTERVAL, 1)]) with
    | .next t => (t.dev.ddrCh 0).ports.map (·.port) | _ => []) = [5] := by
  decide +kernel

theorem test_alertN : after (.alertN 0 2 true) (chan {} [(K.DDR_FEATURES, 1)]) (K.ALERT_RETRIES 0) = some 2 := by decide +kernel

theorem test_burstAdmit : (match exec (.burstAdmit 0 4) (chan { ports := [rd 3, rd 4] } []) with | .next t => (t.dev.ddrCh 0).rq.map (·.port) | _ => []) = [4] := by
  decide +kernel

/-! Clusters, graphs, result streams, operations. -/

/-- Graph 63 on cluster 3 in a state, with its image's header of zeros. -/
def graph (st : Nat) (g : Graph) (l : List (Nat × Nat)) : State :=
  mem (dev (on 3 ([(K.GRAPH_STATE 63, st), (K.GRAPH_STATUS 63, 2), (K.CLUSTER_MASK 63, 8), (K.CLUSTER_STATE 3, 1), (K.PD_STATE 46, 2),
    (K.GRAPH_CLASS 63, 0xFF)] ++ l)) (fun d => { d with ovm := { d.ovm with graphs := [(63, g)] } })) (domAt (K.GRAPH_IMAGE 63) 0) (toBytes 64 0)

theorem witness_ClustersGraphsAndStreams :
    (∀ st ∈ [1, 2, 3], (on 2 [(K.CLUSTER_STATE 3, st)]).admits rq (K.CLUSTER_CMD 3) 1 1 ∧ (on 2 [(K.CLUSTER_STATE 3, st)]).admits rq (K.CLUSTER_CMD 3) 1 2 ∧
      (on 2 [(K.CLUSTER_STATE 3, st)]).dev.get (K.CLUSTER_STATE 3) = st) ∧
    ((∃ g ∈ (graph 2 {} []).dev.runGraphs, (graph 2 {} []).dev.maskHas g 3 = true) ∧ (∀ g ∈ (on 2 []).dev.runGraphs, (on 2 []).dev.maskHas g 3 = false)) ∧
    ((on 2 []).dev.underTest [42 + 3] none = false ∧ (∀ f ∈ ((on 2 []).dev.graph 63).flows, f.home = none) ∧ (on 2 []).dev.marked [42 + 3] none = false ∧
      (on 7 [(K.BIST_STATE, 2), (K.BIST_TARGET, 45 + 15 * 256)]).dev.underTest [42 + 3] none = true ∧
      (on 2 [(K.DOMAIN_FAILED, 2 ^ 45)]).dev.marked [42 + 3] none = true) ∧
    ((graph 0 {} []).admits rq (K.GRAPH_CMD 63) 1 1 ∧ graphChecks (graph 0 {} []).mem (graph 0 {} []).dev 63 = .ok () ∧
      graphChecks (graph 2 {} []).mem (graph 2 {} []).dev 63 = .error .state) ∧
    (∀ st ∈ [0, 2, 4], (graph st {} []).admits rq (K.GRAPH_CMD 63) 1 2 ∧ (graph st {} []).admits rq (K.GRAPH_CMD 63) 1 3 ∧
      (graph st {} []).dev.get (K.GRAPH_STATE 63) = st) ∧
    ((∀ i, i < 4 → bits ((graph 2 {} []).dev.get (K.IN_CFG 63 i)) 28 4 ≠ 2) ∧
      bits ((graph 2 {} [(K.IN_CFG 63 3, 2 * 2 ^ 28 + 5)]).dev.get (K.IN_CFG 63 3)) 28 4 = 2 ∧
      (graph 2 {} [(K.LOG_CFG 0, 256 + 5), (K.SITE_SEQ 0, 0), (K.SEQ_STATE 0, 2)]).dev.qLogged 5 = true) ∧
    (((graph 2 { drain := true } []).dev.graph 63).drain = true ∧ ((graph 2 {} []).dev.graph 63).insts = [] ∧
      ((graph 2 { insts := [⟨0, 0, 0, 0, 0, 0, 0, 0, false, false, 0, [], [], [], [], [], []⟩] } []).dev.graph 63).insts ≠ []) ∧
    (∀ st ∈ [0, 1], (on 2 [(K.STREAM_STATE 31, st)]).admits rq (K.STREAM_CMD 31) 1 1 ∧ (on 2 [(K.STREAM_STATE 31, st)]).admits rq (K.STREAM_CMD 31) 1 2 ∧
      (on 2 [(K.STREAM_STATE 31, st)]).dev.get (K.STREAM_STATE 31) = st) ∧
    (256 ≤ (on 2 [(K.STREAM_QUEUE 31, 256)]).dev.get (K.STREAM_QUEUE 31) ∧
      ((on 2 [(K.STREAM_QUEUE 31, 255)]).dev.qSump 255 || (on 2 [(K.STREAM_QUEUE 31, 255)]).dev.qGraphIn 255 || (on 2 [(K.STREAM_QUEUE 31, 255)]).dev.qStream 255) = false ∧
      (on 2 [(K.STREAM_STATE 0, 1), (K.STREAM_QUEUE 0, 255)]).dev.qStream 255 = true) := by
  simp only [State.admits, State.ready, State.up]; decide +kernel

theorem test_clusters : after (.clusterOffline rq 3) (on 2 [(K.CLUSTER_STATE 3, 1)]) (K.CLUSTER_STATE 3) = some 3 ∧
    after (.clusterOnline rq 3) (on 2 [(K.CLUSTER_STATE 3, 3)]) (K.CLUSTER_STATE 3) = some 1 := by
  decide +kernel

theorem test_graphs : after (.graphStart rq 63) (graph 0 {} []) (K.GRAPH_STATE 63) = some 2 ∧ after (.graphStop rq 63) (graph 2 {} []) (K.GRAPH_STATE 63) = some 0 ∧
    after (.graphDrain rq 63) (graph 2 {} []) (K.GRAPH_STATE 63) = some 4 ∧ aborted (.graphDrain rq 63) (graph 2 { drain := true } []) = some 6 := by
  decide +kernel

theorem test_streams : after (.streamBind rq 31) (on 2 [(K.STREAM_QUEUE 31, 255)]) (K.STREAM_STATE 31) = some 1 ∧
    aborted (.streamBind rq 31) (on 2 [(K.STREAM_QUEUE 31, 256)]) = some 5 ∧ aborted (.streamUnbind rq 31) (on 2 []) = some 6 := by
  decide +kernel

/-- Graph 63 RUNNING with one node at input 3, which reads queue 255 as kind `k`. -/
def node3 : Node := ⟨4, 3, 8, 0xFFFF, 0xFFFF, []⟩
def feeding (k : Nat) (w : List (Nat × Bool)) (g : Graph) (l : List (Nat × Nat)) : State :=
  dev (graph 2 { g with nodes := [node3] } ([(K.IN_CFG 63 3, k * 2 ^ 28 + 255), (K.FLOW_QUOTA 63, 1)] ++ l)) (fun d => { d with tarns := [(255, { drain := w })] })

/-- A Flow of graph 63 with an open parcel, and operation 9 of it. -/
def inst9 : Inst := ⟨9, 3, 0, 0, 0, 0, 0, 0, false, false, 0, [1], [], [], [], [], []⟩
def op9 : Op := ⟨9, 63, 9, 0, ⟨[], [], false⟩, [], 15, false, 0, none⟩
def working (ready : List Op) (running : Table Op) (l : List (Nat × Nat)) : State :=
  dev (feeding 1 [] { insts := [inst9] } l) (fun d => { d with ovm := { d.ovm with ready := ready, running := running } })

/-- The same operation of a node that writes its items to output 0, at the head; and one that has computed. -/
def node7 : Node := ⟨7, 3, 0, 0xFFFF, 0xFFFF, []⟩
def emitting : State :=
  dev (working [] [(15, op9)] []) (fun d => d.setGraph 63 { d.graph 63 with nodes := [node7] })
def computed : Op := { op9 with result := some ([], {}) }

/-- Items of an output wait for its queue, which has room for `n` words. -/
def writing (l : List OutItem) (n : Nat) : State :=
  dev (feeding 1 [] { outq := l } [(K.OUT_Q 63 0, 254), (K.Q_STATE 254, 1), (K.Q_SIZE 254, 1)])
    (fun d => { d with tarns := [(254, { drain := List.replicate (512 - n) (1, false) })] })

theorem witness_GraphWorkFlows :
    ((feeding 0 [] {} []).up ∧ bits ((feeding 0 [] {} []).dev.get (K.IN_CFG 63 3)) 28 4 ∉ [1, 2, 3]) ∧
    (bits ((feeding 1 [(1, true)] {} []).dev.get (K.IN_CFG 63 3)) 28 4 = 1 ∧ (feeding 1 [(1, true)] {} []).dev.get (K.GRAPH_STATE 63) = 2 ∧
      3 ∈ usedInputs ((feeding 1 [(1, true)] {} []).dev.graph 63).nodes ∧ 2 ∉ usedInputs ((feeding 1 [(1, true)] {} []).dev.graph 63).nodes ∧
      firstPacket ((feeding 1 [(1, true)] {} []).dev.tarn 255).words = some [(1, true)] ∧ ((feeding 1 [(1, true)] {} []).dev.graph 63).drain = false ∧
      (feeding 1 [(1, true)] {} []).dev.classFree 63 = true ∧
      ((feeding 1 [(1, true)] {} []).dev.graph 63).flows.length < (feeding 1 [(1, true)] {} []).dev.get (K.FLOW_QUOTA 63)) ∧
    (feeding 1 [(1, true)] {} [(K.GRAPH_CLASS 63, 0), (K.WINDOW_SIZE 0, 0)]).dev.classFree 63 = false ∧
    (bit ((feeding 1 [(1, true)] {} [(K.FLOW_QUOTA 63, 0)]).dev.get (K.IN_CFG 63 3)) 27 = false ∧
      (feeding 1 [(1, true)] {} [(K.FLOW_QUOTA 63, 0)]).dev.get (K.FLOW_QUOTA 63) ≤ ((feeding 1 [(1, true)] {} []).dev.graph 63).flows.length ∧
      ((feeding 1 [(1, true)] {} []).dev.graph 63).flows = [] ∧ (feeding 1 [(1, true)] {} [(K.FLOW_QUOTA 63, 0)]).dev.classFree 63 = true ∧
      (feeding 1 [(1, true)] {} [(K.FLOW_QUOTA 63, 0)]).dev.get (K.FLOWS_REFUSED 63) + 1 < 2 ^ 32) ∧
    (bits ((feeding 2 [(0, false), (0, false), (0, false), (0, true)] {} []).dev.get (K.IN_CFG 63 3)) 28 4 = 2 ∧
      4 ≤ ((feeding 2 [(0, false), (0, false), (0, false), (0, true)] {} []).dev.tarn 255).count ∧
      bits (wordsRaw ((((feeding 2 [(0, false), (0, false), (0, false), (0, true)] {} []).dev.tarn 255).words).take 4)) 129 3 ≠ 3 ∧
      ((feeding 2 [] {} []).dev.graph 63).insts = [] ∧ (3, 0) ∉ ((feeding 2 [] {} []).dev.graph 63).refused) ∧
    (((working [] [] []).dev.graph 63).insts.find? (fun x => x.id == 9) = some inst9 ∧ inst9.openP ≠ [] ∧
      ((working [] [] []).dev.graph 63).insts.find? (fun x => x.id == 8) = none) ∧
    (Table.find (working [op9] [] []).dev.ovm.running 15 = none ∧ (working [op9] [] []).dev.get (K.CLUSTER_STATE (15 / 4)) = 1 ∧
      (working [op9] [] []).dev.get K.OVM_STATE ≠ 3 ∧ (working [op9] [] [(K.OVM_STATE, 1)]).dev.pickOp 15 = some (op9, false)) ∧
    (Table.find (working [] [(15, op9)] []).dev.ovm.running 15 = some op9 ∧ op9.graph < 64 ∧
      ((working [] [(15, op9)] []).dev.graph 63).nodes[op9.node]? = some node3 ∧ node3.op ∈ [3, 4, 5, 6, 7] ∧ 8 ≤ node3.out ∧
      (working [] [(15, op9)] []).dev.get (K.OPS_DONE 63) + 1 < 2 ^ 32 ∧
      ((working [] [(15, op9)] []).dev.graph 63).insts.find? (fun x => x.id == op9.inst) = some inst9 ∧ op9.result = none) ∧
    (Table.find (working [] [(15, computed)] []).dev.ovm.running 15 = some computed ∧ computed.result ≠ none ∧ computed.graph < 64) ∧
    (Table.find emitting.dev.ovm.running 15 = some op9 ∧ (emitting.dev.graph 63).nodes[op9.node]? = some node7 ∧ node7.op = 7 ∧ node7.out < 8 ∧
      (emitting.dev.graph 63).insts.find? (fun x => x.id == op9.inst) = some inst9 ∧ emitting.dev.isHead 63 inst9.id = true) ∧
    (pickItem (writing [{ out := 0, words := [7] }] 1).dev 63 [] [] 0 [{ out := 0, words := [7] }] = some 0 ∧
      ((writing [{ out := 0, words := [7] }] 1).dev.graph 63).outq = [{ out := 0, words := [7] }] ∧
      pickItem (writing [{ out := 0, words := [7], by_ := some 15 }, { out := 0, words := [8], by_ := some 15 }] 1).dev 63 [] [] 0
        [{ out := 0, words := [7], by_ := some 15 }, { out := 0, words := [8], by_ := some 15 }] = some 0 ∧
      pickItem (writing [] 1).dev 63 [] [] 0 [] = none) ∧
    ((∃ o ∈ (working [op9] [] []).dev.ovm.ready, o.id = 9 ∧ o.urgent = false) ∧ (working [op9] [] []).dev.get K.AGED_OPS + 1 < 2 ^ 32 ∧
      ∀ o ∈ (working [op9] [] []).dev.ovm.ready, ¬(o.id = 8 ∧ o.urgent = false)) := by
  simp only [State.up]
  refine ⟨by decide +kernel, by decide +kernel, by decide +kernel, by decide +kernel, by decide +kernel, ?_, ?_, ?_, ?_, ?_, ?_, ?_⟩
  · decide +kernel
  · decide +kernel
  · decide +kernel
  · decide +kernel
  · decide +kernel
  · decide +kernel
  · exact ⟨⟨op9, by decide +kernel⟩, by decide +kernel, by decide +kernel⟩

theorem test_operations : after (.agePromotion 9) (working [op9] [] []) K.AGED_OPS = some 1 ∧
    (match exec (.operationDispatch 15) (working [op9] [] [(K.OVM_STATE, 1)]) with | .next t => t.dev.ovm.ready.length | _ => 9) = 0 ∧
    after (.operationComplete 15 0 false []) (working [] [(15, op9)] []) (K.OPS_DONE 63) = some 1 := by
  decide +kernel

theorem test_itemWrite : (match exec (.itemWrite 63) (writing [{ out := 0, words := [7] }] 512) with
      | .next t => (t.dev.tarn 254).words | _ => []) = [(7, true)] ∧
    (match exec (.itemWrite 63) (writing [{ out := 0, words := [7, 8, 9] }] 2) with
      | .next t => ((t.dev.tarn 254).words.drop 510, (t.dev.graph 63).outq)
      | _ => ([], [])) = ([(7, false), (8, false)], [{ out := 0, words := [9], begun := true, head := 0 }]) := by
  decide +kernel

/-! Ports, lanes, widths, loopback and eye scans. -/

/-- Port `p` in PORT_STATE `st` with its link's state `x`; both link domains on. -/
def port (p st : Nat) (x : Port) (l : List (Nat × Nat)) : State :=
  dev (on 2 ([(portKey p 2, st), (K.PD_STATE 50, 2), (K.PD_STATE 51, 2)] ++ l)) (fun d => { d with ports := [(p, x)] })

/-- Capabilities of a partner of major versions `m`, role `role` and, between Gallery ports, a round trip. -/
def caps (m role round : Nat) : Caps := ⟨0, 0, m, 0, 2, 0, role, 0, round⟩

/-- Lane 3 of the ACTIVE upstream port retrains, or waits out its own backoff of 600 ms. -/
def waitingLane (w : Bool) : State :=
  dev (port 0 5 { locked := 7 } [(K.LANE_STATE 3, 5)]) (fun d => { d with lanes := [(3, { wait := w, next := 600 })] })

theorem witness_PortsComeUp :
    (∀ p ∈ [0, 5],
      ((port p 0 {} []).admits rq (portKey p 1) 1 1 ∧ (port p 0 {} []).dev.portState p = 0 ∧ (port p 0 {} []).dev.domOn (portDomain p) = true ∧
        (port p 0 {} [(K.PD_STATE (portDomain p), 0)]).dev.domOn (portDomain p) = false ∧ (port p 6 {} []).dev.portState p ≠ 0) ∧
      ((port p 5 {} []).admits rq (portKey p 1) 1 2 ∧ (port p 5 {} []).admits rq (portKey p 1) 1 3 ∧ (port p 5 {} []).dev.portState p = 5 ∧
        (port p 4 {} []).dev.portState p ≠ 5)) ∧
    (rq.port = 0 ∧ rq.port ≠ 1 ∧ (port 1 5 {} []).admits rq (portKey 1 1) 1 2 ∧
      (port 5 5 {} [(K.SEQ_STATE 63, 3)]).dev.syncStopped = false ∧ (port 5 5 {} [(K.SEQ_STATE 63, 3)]).admits rq (portKey 5 1) 1 2) ∧
    ((port 5 1 {} [(K.LANE_STATE 14, 1), (K.LANE_STATE 15, 1)]).up ∧
      (∀ st ∈ [1, 3], (port 5 st {} [(K.LANE_STATE 14, 1), (K.LANE_STATE 15, 1)]).dev.shedMask 5 (maskOf ((setBits (laneCount 5) 3).filter
        (fun j => (port 5 st {} [(K.LANE_STATE 14, 1), (K.LANE_STATE 15, 1)]).dev.get (K.LANE_STATE (laneBase 5 + j)) == 1 ||
          (port 5 st {} [(K.LANE_STATE 14, 1), (K.LANE_STATE 15, 1)]).dev.get (K.LANE_STATE (laneBase 5 + j)) == 0 && st == 1))) ≠ 0) ∧
      (port 5 1 {} []).dev.shedMask 5 (maskOf ((setBits (laneCount 5) 3).filter
        (fun j => (port 5 1 {} []).dev.get (K.LANE_STATE (laneBase 5 + j)) == 1 ||
          (port 5 1 {} []).dev.get (K.LANE_STATE (laneBase 5 + j)) == 0 && 1 == 1))) ≠ 0 ∧
      (port 5 1 {} []).dev.shedMask 5 (maskOf ((setBits (laneCount 5) 0).filter
        (fun j => (port 5 1 {} []).dev.get (K.LANE_STATE (laneBase 5 + j)) == 1))) = 0) ∧
    ((waitingLane true).up ∧ (waitingLane true).dev.portState 0 = 5 ∧ 3 ∈ laneList 0 ∧ (waitingLane true).dev.get (K.LANE_STATE 3) = 5 ∧
      (Table.at (waitingLane true).dev.lanes {} 3).wait = true ∧ (Table.at (waitingLane false).dev.lanes {} 3).wait = false) ∧
    (∀ st ∈ [0, 1, 2, 3, 4, 5, 6], (port 5 st {} []).dev.portState 5 = st ∧ (port 5 st {} []).up) ∧
    (widthMask 5 ((port 5 3 { locked := 1 } []).dev.port 5).locked = 0 ∧ widthMask 5 ((port 5 3 { locked := 3 } []).dev.port 5).locked ≠ 0) ∧
    (port 5 6 {} [(K.SHED_LEVEL, 3)]).dev.get K.SHED_LEVEL < 4 ∧
    (bit (caps 1 3 0).majors 1 = false ∧ bit (caps 1 3 0).majors 2 = false ∧ bit (caps 4 3 0).majors 2 = true ∧ (caps 4 3 0).role ∈ [1, 3] ∧
      (caps 4 1 0).role ∈ [1, 3] ∧ (caps 4 2 0).role = 2 ∧ (caps 4 4 224000001).role = 4 ∧ (caps 4 4 224000001).round / 2 ≤ 112000000) := by
  simp only [State.admits, State.ready, State.up]; decide +kernel

theorem test_portCommands : after (.portEnable rq 5) (port 5 0 {} []) (portKey 5 2) = some 1 ∧
    aborted (.portDisable rq 0) (port 0 5 {} []) = some 6 ∧ after (.portDisable rq 1) (port 1 5 {} []) (portKey 1 2) = some 0 ∧
    after (.portRetrain rq 5) (port 5 5 {} []) (portKey 5 2) = some 2 := by
  decide +kernel

/-- From reset the upstream port goes from DETECT to TRAIN. -/
theorem test_upstreamFromReset : State.reset.dev.portState 0 = 1 ∧ after (.receiverDetect 0 15) State.reset (portKey 0 2) = some 2 := by
  decide +kernel

theorem test_laneBackoff : (match exec (.stageTimeout 0) (waitingLane false) with | .next t => (Table.at t.dev.lanes {} 3).wait | _ => false) = true ∧
    (match exec (.backoffExpiry 0) (waitingLane true) with
      | .next t => ((Table.at t.dev.lanes {} 3).wait, (Table.at t.dev.lanes {} 3).next, t.dev.get (K.TX_TAPS 3))
      | _ => (true, 0, 0)) = (false, 1000, 8 * 1024 + 55 * 16) := by
  decide +kernel

theorem test_portStages : after (.receiverDetect 5 3) (port 5 1 {} [(K.LANE_STATE 14, 1), (K.LANE_STATE 15, 1)]) (portKey 5 2) = some 2 ∧
    after (.stageTimeout 5) (port 5 2 {} []) (portKey 5 0x10) = some 513 ∧
    after (.backoffExpiry 5) (port 5 6 {} [(portKey 5 0x0B, 600)]) (portKey 5 0x0B) = some 1000 ∧
    after (.capabilitiesFrame 0 (caps 4 3 0)) (port 0 4 {} []) (portKey 0 7) = some 514 := by
  decide +kernel

/-- Lane 14 is lane 0 of port 5. -/
theorem witness_LanesTrainAndLock :
    ((port 5 2 {} []).up ∧ (port 5 2 {} []).dev.laneTrains 14 = false ∧ (port 5 2 {} [(K.LANE_STATE 14, 2)]).dev.laneTrains 14 = true ∧
      (port 5 2 {} [(K.LANE_STATE 14, 5)]).dev.laneTrains 14 = true) ∧
    (bits (2 ^ 38) 33 3 = 0 ∧ bits (2 ^ 38) 38 2 = 1 ∧ bits (2 ^ 38) 36 2 = 0 ∧ bits (3 * 2 ^ 33) 33 3 = 3) ∧
    ((port 5 2 {} [(K.TX_TAPS 14, 25 * 16 + 14)]).dev.get (K.TX_TAPS 14) % 16 < 15 ∧
      24 < bits ((port 5 2 {} [(K.TX_TAPS 14, 25 * 16 + 14)]).dev.get (K.TX_TAPS 14)) 4 6 ∧
      (port 5 2 {} [(K.TX_TAPS 14, 25 * 16 + 15)]).dev.get (K.TX_TAPS 14) % 16 = 15 ∧
      bits ((port 5 2 {} [(K.TX_TAPS 14, 24 * 16)]).dev.get (K.TX_TAPS 14)) 4 6 ≤ 24) ∧
    ((port 5 3 { detected := 3, locked := 2 } [(K.LANE_STATE 14, 3)]).dev.portState (portOfLane 14) = 3 ∧ laneBase 5 = 14 ∧
      (port 5 3 { detected := 3, locked := 2 } [(K.LANE_STATE 14, 3)]).dev.get (K.LANE_STATE 14) = 3 ∧ 3 &&& setBit 2 0 = 3 ∧
      widthMask 5 (setBit 2 0) ≠ 0 ∧ ((port 5 3 { detected := 3, locked := 2, retrain := true } []).dev.port 5).retrain = true ∧
      ((port 5 3 { detected := 3, locked := 2 } []).dev.port 5).retrain = false ∧ 3 &&& setBit 0 0 ≠ 3) ∧
    ((port 5 5 {} [(K.LANE_STATE 14, 5)]).dev.portState (portOfLane 14) = 5 ∧ (port 5 5 {} [(K.LANE_STATE 14, 5)]).dev.get (K.LANE_STATE 14) = 5 ∧
      (port 5 6 {} []).dev.portState (portOfLane 14) ∉ [3, 4, 5]) ∧
    (∀ w ∈ [false, true], (waitingLane w).dev.portState (portOfLane 3) ∈ [4, 5] ∧ (Table.at (waitingLane w).dev.lanes {} 3).wait = w) := by
  simp only [State.up]; decide +kernel

theorem test_laneTraining : after (.trainingFrame 14 (2 ^ 38)) (port 5 2 {} [(K.LANE_STATE 14, 2), (K.TX_TAPS 14, 25 * 16 + 14)]) (K.TX_TAPS 14) = some (24 * 16 + 15) ∧
    after (.trainingFrame 14 (2 ^ 38)) (port 5 2 {} [(K.LANE_STATE 14, 2), (K.TX_TAPS 14, 25 * 16 + 15)]) (K.TX_TAPS 14) = some (25 * 16 + 15) ∧
    (match exec (.laneAdapt 14 1 2 3) (port 5 2 {} [(K.LANE_STATE 14, 2)]) with | .next t => t.dev.egress.length | _ => 0) = 1 := by
  decide +kernel

theorem test_laneLock : after (.laneLock 14) (port 5 3 { detected := 3, locked := 2 } [(K.LANE_STATE 14, 3), (K.LANE_STATE 15, 3)]) (portKey 5 4) = some 3 ∧
    after (.laneLock 14) (port 5 3 { detected := 3, locked := 2 } [(K.LANE_STATE 14, 3), (K.LANE_STATE 15, 3)]) (portKey 5 2) = some 4 := by
  decide +kernel

theorem witness_WidthFollowsTheLanes :
    ((port 1 5 { locked := 7 } []).up ∧ portOfLane 7 = 1 ∧ laneBase 1 = 4 ∧ bit ((port 1 5 { locked := 7 } []).dev.port 1).locked 3 = false ∧
      bit ((port 1 5 { locked := 15 } []).dev.port 1).locked 3 = true ∧ (port 1 5 { locked := 15 } []).dev.portState 1 = 5 ∧
      (port 1 5 { locked := 15 } [(K.LANE_STATE 7, 6)]).dev.get (K.LANE_STATE 7) = 6 ∧ (port 1 5 { locked := 15 } []).dev.get (K.LANE_STATE 7) ≠ 6 ∧
      widthMask 1 (clrBit 8 3) = 0 ∧ widthMask 1 (clrBit 15 3) ≠ 0 ∧ (port 1 4 { locked := 15 } []).dev.portState 1 ≠ 5 ∧
      bit ((port 1 4 { locked := 15 } []).dev.port 1).locked 3 = true ∧ (port 1 4 { locked := 15 } []).dev.get (K.LANE_STATE 7) ≠ 6) ∧
    (((port 1 5 { locked := 15 } [(portKey 1 4, 3)]).dev.port 1).narrow = none ∧
      (port 1 5 { locked := 15 } [(portKey 1 4, 3)]).dev.get (portKey 1 4) &&& (7 &&& 15) = 3 ∧
      (port 1 5 { locked := 15 } [(portKey 1 4, 3)]).dev.get (portKey 1 4) &&& (1 &&& 15) ≠ 3 ∧
      ((port 1 5 { locked := 15, narrow := some 3 } []).dev.port 1).narrow = some 3) ∧
    (widthMask 1 (15 &&& 15) = 15 ∧ (15 : Nat) ≠ 0 ∧ widthMask 1 (15 &&& 7) ≠ 15 ∧ (port 1 5 { locked := 15 } []).dev.get (portKey 1 0x0D) + 1 < 2 ^ 32 ∧
      ((port 1 5 { locked := 15, rejoin := some 15 } []).dev.port 1).rejoin = some 15 ∧ ((port 1 5 { locked := 15 } []).dev.port 1).rejoin ≠ some 15) ∧
    ((port 1 5 { locked := 15 } [(K.LANE_STATE 7, 6), (portKey 1 3, 2)]).dev.get (K.LANE_STATE 7) = 6 ∧
      (port 1 5 { locked := 15 } [(K.LANE_STATE 7, 6), (portKey 1 3, 2)]).dev.get (portKey 1 3) < popCount 4 (widthMask 1 15) ∧ 2 ≤ portOfLane 15) := by
  simp only [State.up]; decide +kernel

theorem test_lockLost : (match exec (.blockLockLost 7) (port 1 5 { locked := 15 } []) with | .next t => (t.dev.port 1).narrow | _ => none) = some 7 ∧
    after (.blockLockLost 7) (port 1 5 { locked := 8 } []) (portKey 1 2) = some 6 := by
  decide +kernel

theorem test_widths : after (.widthReq 1 1) (port 1 5 { locked := 15 } [(portKey 1 4, 3), (portKey 1 3, 2)]) (portKey 1 4) = some 1 ∧
    after (.widthAck 1 3) (port 1 5 { locked := 7, narrow := some 7 } [(portKey 1 4, 15), (portKey 1 3, 4)]) (portKey 1 3) = some 2 := by
  decide +kernel

theorem test_rejoin : after (.rejoinReq 1 15) (port 1 5 { locked := 15 } [(portKey 1 4, 3), (portKey 1 3, 2)]) (portKey 1 3) = some 4 ∧
    after (.rejoinAck 1 15) (port 1 5 { locked := 15, rejoin := some 15 } [(portKey 1 4, 3)]) (portKey 1 4) = some 15 ∧
    (match exec (.stabilityHoldEnd 7) (port 1 5 { locked := 15 } [(K.LANE_STATE 7, 6), (portKey 1 3, 2)]) with
      | .next t => (t.dev.port 1).rejoin | _ => none) = some 15 := by
  decide +kernel

theorem witness_LoopbackAndEyeScans :
    ((port 5 0 {} []).admits rq (K.LANE_CMD 15) 1 1 ∧ (port 5 0 {} []).dev.domOn (portDomain (portOfLane 15)) = true ∧
      (port 5 0 {} []).dev.portState (portOfLane 15) = 0 ∧ (port 5 1 {} []).dev.portState (portOfLane 15) ∉ [0, 5] ∧
      ((port 1 5 {} [(K.LANE_STATE 7, 6)]).admits rq (K.LANE_CMD 7) 1 1 ∧ (port 1 5 {} [(K.LANE_STATE 7, 6)]).dev.domOn (portDomain (portOfLane 7)) = true ∧
        (port 1 5 {} [(K.LANE_STATE 7, 6)]).dev.portState (portOfLane 7) = 5 ∧ portOfLane 7 < 2) ∧
      (port 5 0 {} [(K.PD_STATE 51, 0)]).admits rq (K.LANE_CMD 15) 1 1 ∧ (port 5 0 {} [(K.PD_STATE 51, 0)]).dev.domOn (portDomain (portOfLane 15)) = false) ∧
    (∀ st ∈ [0, 4, 6, 7], (port 5 0 {} [(K.LANE_STATE 15, st)]).admits rq (K.LANE_CMD 15) 1 2 ∧ (port 5 0 {} [(K.LANE_STATE 15, st)]).admits rq (K.LANE_CMD 15) 1 3 ∧
      (port 5 0 {} [(K.LANE_STATE 15, st)]).admits rq (K.LANE_CMD 15) 1 5 ∧ (port 5 0 {} [(K.LANE_STATE 15, st)]).dev.get (K.LANE_STATE 15) = st ∧
      (port 5 0 {} [(K.LANE_STATE 15, st)]).up) ∧
    (∀ e ∈ [0, 2, 3, 4, 5], (port 5 5 {} [(K.LANE_STATE 15, 4), (K.EYE_STATE 15, e)]).admits rq (K.LANE_CMD 15) 1 4 ∧
      (port 5 5 {} [(K.LANE_STATE 15, 4), (K.EYE_STATE 15, e)]).dev.get (K.EYE_STATE 15) = e) ∧
    (bit ((port 5 0 {} [(K.LOOP_CFG 15, 1)]).dev.get (K.LOOP_CFG 15)) 0 = true ∧ bit ((port 5 0 {} [(K.LOOP_CFG 15, 0)]).dev.get (K.LOOP_CFG 15)) 0 = false ∧
      (port 5 0 {} [(K.PRBS_LOCKED 15, 1)]).dev.get (K.PRBS_LOCKED 15) = 1 ∧ (port 5 0 {} []).dev.get (K.PRBS_LOCKED 15) ≠ 1) ∧
    (bits ((port 5 0 {} [(K.EYE_CFG 15, 0)]).dev.get (K.EYE_CFG 15)) 16 2 = 0 ∧ bits ((port 5 0 {} [(K.EYE_CFG 15, 65536)]).dev.get (K.EYE_CFG 15)) 16 2 = 1 ∧
      (port 5 0 {} [(K.EYE_BITS 15, 5), (K.EYE_DWELL 15, 3)]).dev.get (K.EYE_BITS 15) + 1000000 *
        (port 5 0 {} [(K.EYE_BITS 15, 5), (K.EYE_DWELL 15, 3)]).dev.get (K.EYE_DWELL 15) < 2 ^ 64 ∧
      (port 5 0 {} []).dev.get (K.EYE_ERRS 15) + 9 < 2 ^ 32 ∧ Table.at (port 5 0 {} []).dev.eyes {} 15 = {} ∧
      (port 5 0 {} [(K.EYE_THRESH 15, 8)]).dev.get (K.EYE_THRESH 15) < 9 ∧ (port 5 0 {} []).dev.get K.SHED_LEVEL = 0) := by
  simp only [State.admits, State.ready, State.up]; decide +kernel

theorem test_loopback : after (.loopEnter rq 15) (port 5 0 {} [(K.PRBS_BITS 15, 7)]) (K.PRBS_BITS 15) = some 0 ∧
    after (.loopEnter rq 15) (port 5 0 {} []) (K.LANE_STATE 15) = some 7 ∧ after (.loopExit rq 15) (port 5 2 {} [(K.LANE_STATE 15, 7)]) (K.LANE_STATE 15) = some 1 ∧
    after (.prbsCheckerLock 15 true) (port 5 0 {} [(K.LANE_STATE 15, 7)]) (K.PRBS_LOCKED 15) = some 1 := by
  decide +kernel

theorem test_inject : after (.inject rq 15) (port 5 0 {} [(K.LANE_STATE 15, 7)]) (K.INJECTED 15) = some 1 ∧
    after (.periodicInject 15) (port 5 0 {} [(K.LANE_STATE 15, 7), (K.LOOP_CFG 15, 1), (K.PRBS_LOCKED 15, 1), (K.INJ_PERIOD 15, 4096)]) (K.PRBS_BITS 15) = some 4096 := by
  decide +kernel

theorem test_eye : after (.eyeStart rq 15) (port 5 5 {} [(K.LANE_STATE 15, 4)]) (K.EYE_STATE 15) = some 2 ∧
    after (.eyeAbort rq 15) (port 5 5 {} [(K.EYE_STATE 15, 2)]) (K.EYE_STATE 15) = some 5 ∧
    after (.eyePointDone 15 9) (port 5 5 {} [(K.EYE_STATE 15, 2), (K.EYE_BITS 15, 5), (K.EYE_DWELL 15, 3)]) (K.EYE_BITS 15) = some 3000005 := by
  decide +kernel

/-! The whole block. -/

/-- The state after reset with commands waiting. -/
def pendingOf (l : List Instr) : State := { State.reset with pending := l }

/-- The state of a chip held in reset by its pin. -/
def held : State := pwr State.reset (fun p => { p with resetLow := true })

theorem witness_StepRunsTheFrontCommand :
    (pendingOf [.chipEnable rq, .serviceEnter rq]).pending = .chipEnable rq :: [.serviceEnter rq] ∧ State.reset.pending = [] ∧ State.reset.dev.takeHeld = none ∧
    ((heldReq 1).pending = [] ∧ ((heldReq 1).dev.takeHeld.map (·.1)) = some (.chipEnable rq)) := by
  decide

theorem test_heldIsServed : (match step (heldReq 1) with | .next t => (t.dev.get K.CHIP_STATE, t.dev.held) | _ => (0, [])) = (3, []) := by
  decide +kernel

theorem test_step : (match step (pendingOf [.chipEnable rq, .serviceEnter rq]) with
    | .next t => some (t.dev.get K.CHIP_STATE, t.pending) | _ => none) = some (3, [.serviceEnter rq]) := by
  decide +kernel

/-- Base 3 has a jump waiting: to a value, or by a step. -/
def jumping (set : Bool) : State := dev State.reset (fun d => { d with exch := [(3, { jump := some (set, 1024000000) })] })

theorem witness_IdleStepsRunTheTimeBases :
    (State.reset.pending = [] ∧ State.reset.up) ∧
    ((dev State.reset (fun d => { d with tb1Sub := 3 })).dev.pwr.refLost = false ∧ (dev State.reset (fun d => { d with tb1Sub := 3 })).dev.tb1Sub = 3 ∧
      (dev State.reset (fun d => { d with tb1Sub := 3 })).dev.tb1 + 1 < 2 ^ 64) ∧
    (dev State.reset (fun d => { d with tb1Sub := 2 })).dev.tb1Sub ≠ 3 ∧ (pwr State.reset (fun p => { p with refLost := true })).dev.pwr.refLost = true ∧
    State.reset.dev.takeHeld = none ∧
    (∀ b ∈ [0, 2, 3], State.reset.dev.get (K.RATE b) = 0 ∧ (State.reset.dev.exchOf b).jump = none) ∧
    ((State.reset.dev.clk + 1) % 400 ≠ 0 ∧ State.reset.dev.wnd.therm = none ∧ State.reset.dev.wnd.adapts = []) ∧
    ((on 2 [(K.WND_STATE, 2)]).dev.get K.WND_STATE = 2 ∧ (on 2 [(K.RATE 3, 2 ^ 64 - 1)]).dev.get (K.RATE 3) ≠ 0) ∧
    (∀ n ∈ [true, false], ((jumping n).dev.exchOf 3).jump = some (n, 1024000000) ∧ (jumping n).dev.get (K.RATE 3) = 0 ∧
      (0 : Int) ≤ 1024000000 * 2 ^ 41 / 1024000000 ∧ (1024000000 * 2 ^ 41 / 1024000000 : Int) < 2 ^ 48 * 1000000000 * 2 ^ 41 ∧
      Table.at (jumping n).dev.tbs 0 3 = 0) := by
  simp only [State.up]; decide +kernel

theorem witness_ResetIsTheDefault : State.reset.dev.seqLive 63 = false ∧ 64 ≤ 64 := by decide

theorem witness_EveryStepKeepsTheMemoryForm : State.reset.Inv ∧ (mem State.reset (domAt (K.GRAPH_IMAGE 63) 0) (toBytes 8 255)).Inv ∧
    (match step State.reset with | .next _ => true | _ => false) = true := by
  simp only [State.Inv]; decide +kernel

/-- A running image of ROLLBACK 2 over fuses at 0: the command blows them. -/
theorem witness_OnlyCommitBlowsFuses :
    (match step { on 2 [(K.IMAGE_ROLLBACK, 2)] with pending := [.commitRollback rq] } with | .next t => some t.fuses.rollback | _ => none) = some 2 ∧
    (match step { on 2 [(K.IMAGE_ROLLBACK, 2)] with pending := [.dictWrite rq 0x0700 1 1 2] } with | .next t => some t.fuses.rollback | _ => none) = some 2 := by
  decide +kernel

theorem witness_EveryCommandCompletes : (pendingOf [.chipEnable rq, .serviceEnter rq]).pending.length = 2 := by decide

theorem witness_ResetHoldsTheChip : held.dev.pwr.resetLow = true ∧ takenInReset (.chipEnable rq) = false ∧ held.pending = [] := by
  decide

/-- The highest of each kind of object a command names is among the commands that are writes, and the next is not. -/
theorem witness_CommandsAreDictionaryWrites :
    asWrite (.seqArm rq 63) = some (rq, K.SEQ_CMD 63, 1, 1) ∧ asWrite (.seqArm rq 64) = none ∧
    asWrite (.pdOff rq 51) = some (rq, K.PD_CMD 51, 1, 2) ∧ asWrite (.pdOff rq 52) = none ∧
    asWrite (.chipEnable rq) = some (rq, K.CHIP_CMD, 1, 1) := by
  decide

end Sys2Proof.Tests
end

namespace Sys2Proof.Machine

/-- R102's floor as an adjunction, at twice the scale so that the half is whole: `p` units fit under the converted period
exactly when they fit under the period plus half a unit. -/
theorem le_periodP_iff (fs p : Nat) : p ≤ periodP fs ↔ 2000 * p ≤ 512 * fs + 1000 := by
  rw [periodP, Nat.le_div_iff_mul_le (by decide)]
  omega

/-- Settles O19: both bounds are `le_periodP_iff`, at the converted period and at the unit after it. -/
theorem periodsRoundHalfUp : Obligations.PeriodsRoundHalfUp := by
  unfold Obligations.PeriodsRoundHalfUp
  refine ⟨fun fs => ⟨?lower, ?upper⟩, ?worked⟩
  case lower => exact (le_periodP_iff fs _).1 le_rfl
  case upper => exact not_le.1 (mt (le_periodP_iff fs _).2 (Nat.not_succ_le_self _))
  case worked => decide

end Sys2Proof.Machine

/-! LAST_ABORT (R281): the layout of the record, and what a refusal leaves in the two objects that keep it. -/

namespace Sys2Proof.Machine

/-- R281's layout, field by field. -/
def abortRecord (code idx sub type src tag : Nat) : Nat :=
  fld 48 16 code + fld 32 16 idx + fld 24 8 sub + fld 16 8 type + fld 8 8 src + fld 0 8 tag

/-- No field of the record reaches into another: each is read back where it fits. -/
theorem bits_abortRecord {code idx sub type src tag : Nat} (hcode : code < 65536) (hidx : idx < 65536) (hsub : sub < 256)
    (htype : type < 256) (hsrc : src < 256) (htag : tag < 256) :
    let v := abortRecord code idx sub type src tag
    bits v 48 16 = code ∧ bits v 32 16 = idx ∧ bits v 24 8 = sub ∧ bits v 16 8 = type ∧ bits v 8 8 = src ∧ v % 256 = tag := by
  simp only [abortRecord, fld, bits, Nat.reducePow]
  omega

theorem Abort.code_lt (a : Abort) : a.code < 65536 := by
  cases a <;> decide

/-- The low byte of a port object's key is its subindex. -/
theorem portKey_mod {p sub : Nat} (hsub : sub < 256) : portKey p sub % 256 = sub := by
  rw [portKey, Nat.mul_add_mod_of_lt hsub]

theorem ne_portKey_of_mod {key p sub : Nat} (hsub : sub < 256) (h : key % 256 ≠ sub) : key ≠ portKey p sub :=
  fun e => h (e ▸ portKey_mod hsub)

/-- ABORT_COUNT is a U32 object (R280). -/
theorem objWidth_abortCount : objWidth K.ABORT_COUNT = 32 := by
  decide

/-- Answering a refusal does not touch what it recorded: every object but the answering port's FRAMES_TX holds what recording
and counting it left. -/
theorem Dev.refuse_get_recorded (d : Dev) (r : Req) (type idx sub : Nat) (a : Abort) (phase : Nat) {key : Nat}
    (hkey : key ≠ portKey r.port 0x11) :
    (d.refuse r type idx sub a phase).get key =
      ((d.set K.LAST_ABORT (abortRecord a.code idx sub type r.src r.tag)).bump K.ABORT_COUNT).get key := by
  unfold Dev.refuse
  split
  case isTrue => rfl
  case isFalse => exact Dev.linkSend_get_ne _ _ _ _ _ hkey

/-- A refusal overwrites LAST_ABORT, whatever it held (R281). -/
theorem Dev.refuse_get_lastAbort (d : Dev) (r : Req) (type idx sub : Nat) (a : Abort) (phase : Nat) :
    (d.refuse r type idx sub a phase).get K.LAST_ABORT = abortRecord a.code idx sub type r.src r.tag := by
  rw [d.refuse_get_recorded r type idx sub a phase (ne_portKey_of_mod (by decide) (by decide)), Dev.bump_get_ne _ _ _ (by decide),
    Dev.get_set_same]

/-- A refusal is counted once, up to the counter's width (R279). -/
theorem Dev.refuse_get_abortCount (d : Dev) (r : Req) (type idx sub : Nat) (a : Abort) (phase : Nat)
    (h : d.get K.ABORT_COUNT + 1 < 2 ^ 32) :
    (d.refuse r type idx sub a phase).get K.ABORT_COUNT = d.get K.ABORT_COUNT + 1 := by
  have get_recorded : ∀ v, (d.set K.LAST_ABORT v).get K.ABORT_COUNT = d.get K.ABORT_COUNT :=
    fun v => d.get_set_ne _ v _ (by decide)
  rw [d.refuse_get_recorded r type idx sub a phase (ne_portKey_of_mod (by decide) (by decide)), Dev.bump_get_same, get_recorded]
  rwa [get_recorded, objWidth_abortCount]

/-- A refusal is answered with its abort code, and to a broadcast not at all (R279, R290). -/
theorem Dev.refuse_egress (d : Dev) (r : Req) (type idx sub : Nat) (a : Abort) (phase : Nat) :
    (d.refuse r type idx sub a phase).egress =
      if r.bcast then d.egress else d.egress ++ [.response r type a.code idx sub []] := by
  obtain ⟨_, _, _, _, h⟩ := d.refuse_shape r type idx sub a phase
  rw [h]

/-- Settles O38: LAST_ABORT is read back field by field from the record the refusal left there. -/
theorem lastAbortNamesTheRefusal : Obligations.LastAbortNamesTheRefusal := by
  unfold Obligations.LastAbortNamesTheRefusal
  intro d r type idx sub a htype hidx hsub hsrc htag _ hcount e
  obtain ⟨fcode, fidx, fsub, ftype, fsrc, ftag⟩ := bits_abortRecord a.code_lt hidx hsub htype hsrc htag
  rw [show e.get K.LAST_ABORT = _ from d.refuse_get_lastAbort r type idx sub a 0]
  exact ⟨fcode, fidx, fsub, ftype, fsrc, ftag, d.refuse_get_abortCount r type idx sub a 0 hcount,
    d.refuse_egress r type idx sub a 0, fun key => d.refuse_get_ne r type idx sub a 0 key⟩

end Sys2Proof.Machine

/-! The exchange of a disciplined base (R342 to R347): what steering one base may change, each kind of message at one base, and
the fold over the bases a domain binds. -/

namespace Sys2Proof.Machine

/-- The objects of the time bases (R338) are none of those an event writes. -/
theorem not_eventKey_of_timeBase {key : Nat} (hlo : 0x401 * 256 ≤ key) (hhi : key < 0x405 * 256) : ¬eventKey key := by
  simp only [eventKey, K.NOTICE_SEQ, K.NOTICE_DROPS, K.ROUTE_DROPS]
  omega

/-- What steering base `b` leaves: the clock, the value of every base, the exchanges of the other bases, the base's own path
delay and last FOLLOW_UP, and every object but those of `keys` and of events. -/
structure Dev.Steered (b : Nat) (keys : List Nat) (d e : Dev) : Prop where
  clk : e.clk = d.clk
  tbs : e.tbs = d.tbs
  others : ∀ c, c ≠ b → e.exchOf c = d.exchOf c
  path : (e.exchOf b).path = (d.exchOf b).path
  fup : (e.exchOf b).fup = (d.exchOf b).fup
  get : ∀ k, k ∉ keys → ¬eventKey k → e.get k = d.get k

namespace Dev.Steered

variable {b : Nat} {keys : List Nat} {d e e' : Dev}

theorem refl (d : Dev) : Steered b keys d d := ⟨rfl, rfl, fun _ _ => rfl, rfl, rfl, fun _ _ _ => rfl⟩

theorem trans (h : Steered b keys d e) (h' : Steered b keys e e') : Steered b keys d e' where
  clk := h'.clk.trans h.clk
  tbs := h'.tbs.trans h.tbs
  others c hc := (h'.others c hc).trans (h.others c hc)
  path := h'.path.trans h.path
  fup := h'.fup.trans h.fup
  get k hk hev := (h'.get k hk hev).trans (h.get k hk hev)

theorem mono {keys' : List Nat} (h : Steered b keys d e) (hsub : keys ⊆ keys') : Steered b keys' d e :=
  { h with get := fun k hk => h.get k (fun hmem => hk (hsub hmem)) }

/-- An operation on the objects alone steers as far as it writes them. -/
theorem of_exch (hclk : e.clk = d.clk) (htbs : e.tbs = d.tbs) (hexch : e.exch = d.exch)
    (hget : ∀ k, k ∉ keys → ¬eventKey k → e.get k = d.get k) : Steered b keys d e := by
  have exchOf_eq (c : Nat) : e.exchOf c = d.exchOf c := by rw [Dev.exchOf, hexch, Dev.exchOf]
  exact ⟨hclk, htbs, fun c _ => exchOf_eq c, by rw [exchOf_eq], by rw [exchOf_eq], hget⟩

theorem set (h : Steered b keys d e) {k : Nat} (v : Nat) (hk : k ∈ keys) : Steered b keys d (e.set k v) :=
  h.trans (of_exch rfl rfl rfl fun _ hj _ => Dev.get_set_ne _ _ _ _ fun hjk => hj (hjk ▸ hk))

theorem setB (h : Steered b keys d e) {k : Nat} (i : Nat) (on : Bool) (hk : k ∈ keys) : Steered b keys d (e.setB k i on) :=
  h.set _ hk

theorem bump (h : Steered b keys d e) {k : Nat} (hk : k ∈ keys) : Steered b keys d (e.bump k) := by
  obtain ⟨_, _, heq⟩ := e.bump_shape k
  exact h.trans (of_exch (by rw [heq]) (by rw [heq]) (by rw [heq]) fun _ hj _ => Dev.bump_get_ne _ _ _ fun hjk => hj (hjk ▸ hk))

theorem wellEvent (h : Steered b keys d e) (cause what : Nat) : Steered b keys d (e.wellEvent cause what) := by
  obtain ⟨_, _, _, _, heq⟩ := e.event_shape 288 cause what
  exact h.trans (of_exch (by rw [Dev.wellEvent, heq]) (by rw [Dev.wellEvent, heq]) (by rw [Dev.wellEvent, heq])
    fun _ _ hev => Dev.event_get_ne _ _ _ _ _ (by decide) hev)

theorem setExch (h : Steered b keys d e) (x : Exch) (hpath : x.path = (e.exchOf b).path) (hfup : x.fup = (e.exchOf b).fup) :
    Steered b keys d (e.setExch b x) where
  clk := h.clk
  tbs := h.tbs
  others c hc := (e.exchOf_setExch_ne b c x hc).trans (h.others c hc)
  path := by rw [Dev.exchOf_setExch_same, hpath, h.path]
  fup := by rw [Dev.exchOf_setExch_same, hfup, h.fup]
  get := h.get

theorem egress (h : Steered b keys d e) (out : List Out) : Steered b keys d { e with egress := out } :=
  ⟨h.clk, h.tbs, h.others, h.path, h.fup, h.get⟩

end Dev.Steered

@[simp] theorem Dev.exchOf_set (d : Dev) (k v b : Nat) : (d.set k v).exchOf b = d.exchOf b := rfl

@[simp] theorem Dev.exchOf_setB (d : Dev) (k i : Nat) (on : Bool) (b : Nat) : (d.setB k i on).exchOf b = d.exchOf b := rfl

@[simp] theorem Dev.exchOf_wellEvent (d : Dev) (cause what b : Nat) : (d.wellEvent cause what).exchOf b = d.exchOf b := by
  obtain ⟨_, _, _, _, h⟩ := d.event_shape 288 cause what
  rw [Dev.wellEvent, h, Dev.exchOf, Dev.exchOf]

/-! The parts of an exchange (R344, R345, R347). -/

theorem Dev.stepSoon_steered (d : Dev) (b : Nat) (abs : Bool) (v : Int) :
    Steered b [K.TB_STATUS b] d (d.stepSoon b abs v) :=
  ((Steered.refl d).setExch { d.exchOf b with jump := some (abs, v) } rfl rfl).setB _ _ (List.mem_singleton_self _)

theorem Dev.stepSoon_jump (d : Dev) (b : Nat) (abs : Bool) (v : Int) : ((d.stepSoon b abs v).exchOf b).jump = some (abs, v) := by
  rw [Dev.stepSoon, Dev.exchOf_setB, Dev.exchOf_setExch_same]

/-- Judging LOCKED counts the good exchanges and writes its bit of TB_STATUS (R347). -/
theorem Dev.lockNote_cases (d : Dev) (b : Nat) (o : Int) : ∃ n,
    let e := d.setExch b { d.exchOf b with good := n }
    d.lockNote b o = e ∨ ∃ on cause, d.lockNote b o = (e.setB (K.TB_STATUS b) 1 on).wellEvent cause b := by
  unfold Dev.lockNote
  dsimp only
  generalize (if decide (o.natAbs ≤ d.get (K.LOCK_WINDOW b)) = true then (d.exchOf b).good + 1 else 0) = n
  refine ⟨n, ?_⟩
  generalize d.setExch b _ = e
  split
  · exact .inr ⟨_, _, rfl⟩
  · split
    · exact .inr ⟨_, _, rfl⟩
    · exact .inl rfl

theorem Dev.lockNote_steered (d : Dev) (b : Nat) (o : Int) : Steered b [K.TB_STATUS b] d (d.lockNote b o) := by
  obtain ⟨n, h⟩ := d.lockNote_cases b o
  have counted : Steered b [K.TB_STATUS b] d (d.setExch b { d.exchOf b with good := n }) :=
    (Steered.refl d).setExch _ (by rfl) (by rfl)
  obtain h | ⟨on, cause, h⟩ := h
  · rw [h]
    exact counted
  · rw [h]
    exact (counted.setB _ _ (List.mem_singleton_self _)).wellEvent _ _

/-- A step that waits goes on waiting while LOCKED is judged. -/
theorem Dev.lockNote_jump (d : Dev) (b : Nat) (o : Int) : ((d.lockNote b o).exchOf b).jump = (d.exchOf b).jump := by
  obtain ⟨n, h | ⟨on, cause, h⟩⟩ := d.lockNote_cases b o <;> simp [h]

/-- The servo sets RATE and RATE_CLAMPED (R347). -/
theorem Dev.servo_steered (d : Dev) (b : Nat) (o t : Int) : Steered b [K.RATE b, K.TB_STATUS b] d (d.servo b o t) := by
  unfold Dev.servo
  dsimp only
  generalize hed : (if t = 0 then (toSigned 64 (d.free 64).1, (d.free 64).2) else ((o * 2 ^ 40).tdiv t, d)) = ed
  have opened : Steered b [K.RATE b, K.TB_STATUS b] d ed.2 := by
    rw [← hed]
    split
    · exact .of_exch rfl rfl rfl fun _ _ _ => rfl
    · exact .refl d
  have tuned (integral : Int) (rate : Nat) (on : Bool) : Steered b [K.RATE b, K.TB_STATUS b] d
      (((ed.2.setExch b { ed.2.exchOf b with integral := integral }).set (K.RATE b) rate).setB (K.TB_STATUS b) 2 on) :=
    ((opened.setExch _ (by rfl) (by rfl)).set _ List.mem_cons_self).setB _ _ (List.mem_cons_of_mem _ List.mem_cons_self)
  split
  · exact (tuned _ _ _).wellEvent _ _
  · exact tuned _ _ _

/-! A completed exchange (R342 to R345, R347). -/

/-- The offset an exchange measures, in 1/1024 fs (R344). -/
def Dev.offsetOf (d : Dev) (b : Nat) (f : Int × Int) : Int :=
  f.1 - (d.exchOf b).path.getD 0 - toSigned 64 (d.get (K.PATH_ASYM b)) * fsU

/-- An exchange noted: its t1, LAST_OFFSET and the count of exchanges. -/
def Dev.noted (d : Dev) (b : Nat) (f : Int × Int) : Dev :=
  ((d.setExch b { d.exchOf b with prevT1 := some f.2 }).set (K.LAST_OFFSET b) (satI64 (d.offsetOf b f / fsU))).bump (K.EXCHANGES b)

theorem Dev.noted_steered (d : Dev) (b : Nat) (f : Int × Int) : Steered b [K.LAST_OFFSET b, K.EXCHANGES b] d (d.noted b f) :=
  (((Steered.refl d).setExch { d.exchOf b with prevT1 := some f.2 } rfl rfl).set _ (by simp)).bump (by simp)

theorem Dev.noted_lastOffset (d : Dev) (b : Nat) (f : Int × Int) :
    (d.noted b f).get (K.LAST_OFFSET b) = satI64 (d.offsetOf b f / fsU) := by
  rw [Dev.noted, Dev.bump_get_ne _ _ _ (by simp [K.LAST_OFFSET, K.EXCHANGES]), Dev.get_set_same]

/-- TB_STATE is what it was when an exchange has been noted. -/
theorem Dev.noted_state (d : Dev) (b : Nat) (f : Int × Int) : (d.noted b f).get (K.TB_STATE b) = d.get (K.TB_STATE b) := by
  rw [Dev.noted, Dev.bump_get_ne _ _ _ (by simp [K.TB_STATE, K.EXCHANGES]),
    Dev.get_set_ne _ _ _ _ (by simp [K.TB_STATE, K.LAST_OFFSET]), Dev.get_setExch]

/-- The exchange of an ARMED base asks for the step and makes it RUNNING (R345). -/
theorem Dev.exchange_armed {d : Dev} {b : Nat} (f : Int × Int) (h : d.get (K.TB_STATE b) = 1) :
    d.exchange b f = ((((d.noted b f).stepSoon b false (-d.offsetOf b f)).set (K.TB_STATE b) 2).wellEvent 8 b).lockNote b
      (d.offsetOf b f / fsU) :=
  if_pos ((d.noted_state b f).trans h)

/-- Any other exchange judges LOCKED and, in AUTO mode and after an earlier one, runs the servo (R347). -/
theorem Dev.exchange_running {d : Dev} {b : Nat} (f : Int × Int) (h : d.get (K.TB_STATE b) ≠ 1) :
    let e := (d.noted b f).lockNote b (d.offsetOf b f / fsU)
    d.exchange b f = e ∨ ∃ t, d.exchange b f = e.servo b (d.offsetOf b f / fsU) t := by
  intro e
  have heq : d.exchange b f = match (d.exchOf b).prevT1 with
      | some p => if e.get (K.SERVO_MODE b) = 1 then e.servo b (d.offsetOf b f / fsU) (f.2 / fsU - p / fsU) else e
      | none => e := if_neg fun h' => h ((d.noted_state b f).symm.trans h')
  rw [heq]
  split
  · split
    · exact .inr ⟨_, rfl⟩
    · exact .inl rfl
  · exact .inl rfl

/-- What completes an exchange once it is noted. -/
theorem Dev.exchange_steered_noted (d : Dev) (b : Nat) (f : Int × Int) :
    Steered b [K.TB_STATE b, K.TB_STATUS b, K.RATE b] (d.noted b f) (d.exchange b f) := by
  have locked (e : Dev) (o : Int) : Steered b [K.TB_STATE b, K.TB_STATUS b, K.RATE b] e (e.lockNote b o) :=
    (e.lockNote_steered b o).mono (by simp)
  by_cases h : d.get (K.TB_STATE b) = 1
  · rw [Dev.exchange_armed f h]
    exact ((((Dev.stepSoon_steered _ b _ _).mono (by simp)).set _ (by simp)).wellEvent _ _).trans (locked _ _)
  · obtain heq | ⟨t, heq⟩ := Dev.exchange_running f h
    · rw [heq]
      exact locked _ _
    · rw [heq]
      exact (locked _ _).trans ((Dev.servo_steered _ b _ t).mono (by simp))

/-- The objects a completed exchange writes. -/
def exchangeKeys (b : Nat) : List Nat := [K.LAST_OFFSET b, K.EXCHANGES b, K.TB_STATE b, K.TB_STATUS b, K.RATE b]

theorem Dev.exchange_steered (d : Dev) (b : Nat) (f : Int × Int) : Steered b (exchangeKeys b) d (d.exchange b f) :=
  ((d.noted_steered b f).mono (by simp [exchangeKeys])).trans ((d.exchange_steered_noted b f).mono (by simp [exchangeKeys]))

theorem meanPath_not_mem_exchangeKeys (b c : Nat) : K.MEAN_PATH b ∉ exchangeKeys c := by
  simp only [exchangeKeys, List.mem_cons, List.not_mem_nil, or_false, K.MEAN_PATH, K.LAST_OFFSET, K.EXCHANGES, K.TB_STATE,
    K.TB_STATUS, K.RATE]
  omega

theorem meanPath_not_eventKey {b : Nat} (hb : b ≤ 3) : ¬eventKey (K.MEAN_PATH b) :=
  not_eventKey_of_timeBase (by simp only [K.MEAN_PATH]; omega) (by simp only [K.MEAN_PATH]; omega)

theorem Dev.exchange_lastOffset {d : Dev} {b : Nat} (f : Int × Int) (hb : b ≤ 3) :
    (d.exchange b f).get (K.LAST_OFFSET b) = satI64 (d.offsetOf b f / fsU) := by
  rw [(d.exchange_steered_noted b f).get _ (by simp [K.LAST_OFFSET, K.TB_STATE, K.TB_STATUS, K.RATE])
    (not_eventKey_of_timeBase (by simp only [K.LAST_OFFSET]; omega) (by simp only [K.LAST_OFFSET]; omega)), d.noted_lastOffset]

theorem Dev.exchange_armed_state {d : Dev} {b : Nat} (f : Int × Int) (hb : b ≤ 3) (h : d.get (K.TB_STATE b) = 1) :
    (d.exchange b f).get (K.TB_STATE b) = 2 := by
  have hev : ¬eventKey (K.TB_STATE b) :=
    not_eventKey_of_timeBase (by simp only [K.TB_STATE]; omega) (by simp only [K.TB_STATE]; omega)
  rw [Dev.exchange_armed f h, (Dev.lockNote_steered _ b _).get _ (by simp [K.TB_STATE, K.TB_STATUS]) hev,
    ((Steered.refl (b := b) (keys := []) _).wellEvent 8 b).get _ (by simp) hev, Dev.get_set_same]

theorem Dev.exchange_armed_jump {d : Dev} {b : Nat} (f : Int × Int) (h : d.get (K.TB_STATE b) = 1) :
    ((d.exchange b f).exchOf b).jump = some (false, -d.offsetOf b f) := by
  rw [Dev.exchange_armed f h, Dev.lockNote_jump, Dev.exchOf_wellEvent, Dev.exchOf_set, Dev.stepSoon_jump]

/-! Frames sent, and frames passed on (R320, R346), leave the exchanges. -/

@[simp] theorem Dev.timeSend_exch (d : Dev) (p : Nat) (words : List Nat) : (d.timeSend p words).exch = d.exch := by
  obtain ⟨_, _, _, h⟩ := d.transmit_shape p (d.frameOf p 3 0 0 false words)
  rw [Dev.timeSend, h]

@[simp] theorem Dev.bump_exch (d : Dev) (key : Nat) : (d.bump key).exch = d.exch := by
  obtain ⟨_, _, h⟩ := d.bump_shape key
  rw [h]

theorem Dev.forwardEvent_exch (d : Dev) (m : TimeMsg) (req : Bool) : (d.forwardEvent m req).exch = d.exch := by
  unfold Dev.forwardEvent
  dsimp only
  split
  · split <;> simp
  · split <;> simp

theorem Dev.forwardGeneral_exch (d : Dev) (m : TimeMsg) (req : Bool) : (d.forwardGeneral m req).exch = d.exch := by
  unfold Dev.forwardGeneral
  dsimp only
  split
  · split <;> simp
  · split
    · simp
    · split <;> simp

theorem Dev.exchOf_forwardEvent (d : Dev) (m : TimeMsg) (req : Bool) (b : Nat) : (d.forwardEvent m req).exchOf b = d.exchOf b := by
  rw [Dev.exchOf, Dev.forwardEvent_exch, Dev.exchOf]

theorem Dev.exchOf_forwardGeneral (d : Dev) (m : TimeMsg) (req : Bool) (b : Nat) :
    (d.forwardGeneral m req).exchOf b = d.exchOf b := by
  rw [Dev.exchOf, Dev.forwardGeneral_exch, Dev.exchOf]

theorem Dev.timeSend_steered (b : Nat) (d : Dev) (words : List Nat) : Steered b [portKey 0 0x11] d (d.timeSend 0 words) := by
  obtain ⟨_, _, _, h⟩ := d.transmit_shape 0 (d.frameOf 0 3 0 0 false words)
  exact .of_exch (by rw [Dev.timeSend, h]) (by rw [Dev.timeSend, h]) (by rw [Dev.timeSend, h])
    fun k hk _ => Dev.transmit_get_ne _ _ _ _ (List.mem_singleton.not.1 hk)

/-- A DELAY_REQ sent for one base (R342 step 3). -/
theorem Dev.delayReqSend_steered (d : Dev) (b : Nat) (f : Int × Int) (eg : Int) :
    Steered b [portKey 0 0x11] d (d.delayReqSend b f eg) := by
  unfold Dev.delayReqSend
  dsimp only
  split_ifs
  · refine .trans (.egress ?_ _) (Dev.timeSend_steered b _ _)
    exact (Steered.refl d).setExch _ (by rfl) (by rfl)
  · exact .refl d

/-! One message at one base: what `sync`, `followUp` and `delayResp` do at each of the bases the domain binds. -/

/-- A SYNC is stamped (R342 step 1). -/
def syncAt (m : TimeMsg) (d : Dev) (b : Nat) : Dev :=
  d.setExch b { d.exchOf b with
    syncs := (d.exchOf b).syncs.filter (fun y => decide (d.clk ≤ y.2.2 + 4000000) && y.1 != m.seqId) ++
      [(m.seqId, d.ingress b 0 m.raw, d.clk)] }

/-- A FOLLOW_UP gives t1 and c1 of the SYNC it follows (R342 steps 2 and 3, R343). -/
def followUpAt (m : TimeMsg) (d : Dev) (b : Nat) : Dev :=
  match (d.exchOf b).syncs.find? (fun y => y.1 == m.seqId && decide (d.clk ≤ y.2.2 + 4000000)) with
  | some y =>
    let f := (y.2.1 - (ofStamp80 m.t : Int) - m.corr * 15625, (ofStamp80 m.t : Int))
    let e := d.setExch b { d.exchOf b with fup := some f }
    (if (d.exchOf b).path.isSome then e.exchange b f else e).delayReqSend b f m.eg
  | none => d.bump (K.TIME_DISCARDS b)

/-- The mean path delay a DELAY_RESP gives with the DELAY_REQ it answers (R344). -/
def pathOf (m : TimeMsg) (y : Nat × Int × Nat × (Int × Int)) : Int :=
  (y.2.2.2.1 + ((ofStamp80 m.t : Int) - y.2.1 - m.corr * 15625)) / 2

/-- A base takes its mean path delay. -/
def Dev.takePath (d : Dev) (b : Nat) (path : Int) : Dev :=
  (d.setExch b { d.exchOf b with path := some path }).set (K.MEAN_PATH b) (satI64 (path / fsU))

/-- A DELAY_RESP gives the mean path delay, and the first one completes the exchange (R342 step 4, R343, R344). -/
def delayRespAt (m : TimeMsg) (d : Dev) (b : Nat) : Dev :=
  match (d.exchOf b).dreqs.find? (fun y => y.1 == m.seqId && decide (d.clk ≤ y.2.2.1 + 40000000)) with
  | some y => if (d.exchOf b).path.isNone then (d.takePath b (pathOf m y)).exchange b y.2.2.2 else d.takePath b (pathOf m y)
  | none => d.bump (K.TIME_DISCARDS b)

/-! A message at the base `b` itself. -/

theorem syncAt_self (m : TimeMsg) (d : Dev) (b : Nat) : (m.seqId, d.ingress b 0 m.raw, d.clk) ∈ ((syncAt m d b).exchOf b).syncs := by
  rw [syncAt, Dev.exchOf_setExch_same]
  exact List.mem_append_right _ (List.mem_singleton_self _)

theorem followUpAt_self {m : TimeMsg} {d : Dev} {b : Nat} {y : Nat × Int × Nat}
    (hy : (d.exchOf b).syncs.find? (fun y => y.1 == m.seqId && decide (d.clk ≤ y.2.2 + 4000000)) = some y)
    (hpath : (d.exchOf b).path = none) :
    ((followUpAt m d b).exchOf b).fup = some (y.2.1 - (ofStamp80 m.t : Int) - m.corr * 15625, (ofStamp80 m.t : Int)) := by
  simp [followUpAt, hy, hpath, (Dev.delayReqSend_steered _ b _ _).fup]

theorem delayRespAt_self {m : TimeMsg} {d : Dev} {b : Nat} {y : Nat × Int × Nat × (Int × Int)} (hb : b ≤ 3)
    (hy : (d.exchOf b).dreqs.find? (fun y => y.1 == m.seqId && decide (d.clk ≤ y.2.2.1 + 40000000)) = some y) :
    ((delayRespAt m d b).exchOf b).path = some (pathOf m y) ∧
      (delayRespAt m d b).get (K.MEAN_PATH b) = satI64 (pathOf m y / fsU) := by
  have taken : ((d.takePath b (pathOf m y)).exchOf b).path = some (pathOf m y) ∧
      (d.takePath b (pathOf m y)).get (K.MEAN_PATH b) = satI64 (pathOf m y / fsU) := by
    simp [Dev.takePath]
  have completed := (d.takePath b (pathOf m y)).exchange_steered b y.2.2.2
  simp only [delayRespAt, hy]
  split
  · rw [completed.path, completed.get _ (meanPath_not_mem_exchangeKeys b b) (meanPath_not_eventKey hb)]
    exact taken
  · exact taken

/-! A message at another base `c`. -/

theorem syncAt_other (m : TimeMsg) (d : Dev) {b c : Nat} (hcb : c ≠ b) : (syncAt m d c).exchOf b = d.exchOf b :=
  d.exchOf_setExch_ne c b _ hcb.symm

theorem followUpAt_other (m : TimeMsg) (d : Dev) {b c : Nat} (hcb : c ≠ b) :
    (followUpAt m d c).exchOf b = d.exchOf b ∧ (followUpAt m d c).clk = d.clk := by
  unfold followUpAt
  split
  case h_1 y _ =>
    dsimp only
    generalize (y.2.1 - (ofStamp80 m.t : Int) - m.corr * 15625, (ofStamp80 m.t : Int)) = f
    have noted := d.exchOf_setExch_ne c b { d.exchOf c with fup := some f } hcb.symm
    generalize he : d.setExch c { d.exchOf c with fup := some f } = e at noted ⊢
    have hclk : e.clk = d.clk := he ▸ rfl
    have completed := e.exchange_steered c f
    split
    · have sent := Dev.delayReqSend_steered (e.exchange c f) c f m.eg
      exact ⟨((sent.others b hcb.symm).trans (completed.others b hcb.symm)).trans noted, (sent.clk.trans completed.clk).trans hclk⟩
    · have sent := e.delayReqSend_steered c f m.eg
      exact ⟨(sent.others b hcb.symm).trans noted, sent.clk.trans hclk⟩
  case h_2 =>
    have discarded := (Dev.Steered.refl (b := c) (keys := [K.TIME_DISCARDS c]) d).bump (List.mem_singleton_self _)
    exact ⟨discarded.others b hcb.symm, discarded.clk⟩

/-- A DELAY_RESP at base `c` leaves the exchange and the mean path delay of base `b`. -/
theorem delayRespAt_other (m : TimeMsg) (d : Dev) {b c : Nat} (hcb : c ≠ b) (hb : b ≤ 3) :
    (delayRespAt m d c).exchOf b = d.exchOf b ∧ (delayRespAt m d c).clk = d.clk ∧
      (delayRespAt m d c).get (K.MEAN_PATH b) = d.get (K.MEAN_PATH b) := by
  have taken (path : Int) : (d.takePath c path).exchOf b = d.exchOf b ∧ (d.takePath c path).clk = d.clk ∧
      (d.takePath c path).get (K.MEAN_PATH b) = d.get (K.MEAN_PATH b) :=
    ⟨d.exchOf_setExch_ne c b _ hcb.symm, rfl, Dev.get_set_ne _ _ _ _ (by simp only [K.MEAN_PATH]; omega)⟩
  unfold delayRespAt
  split
  case h_1 y _ =>
    split
    · have completed := (d.takePath c (pathOf m y)).exchange_steered c y.2.2.2
      rw [completed.others b hcb.symm, completed.clk, completed.get _ (meanPath_not_mem_exchangeKeys b c) (meanPath_not_eventKey hb)]
      exact taken _
    · exact taken _
  case h_2 =>
    have discarded := (Dev.Steered.refl (b := c) (keys := [K.TIME_DISCARDS c]) d).bump (List.mem_singleton_self _)
    exact ⟨discarded.others b hcb.symm, discarded.clk,
      d.bump_get_ne _ _ (by simp only [K.MEAN_PATH, K.TIME_DISCARDS]; omega)⟩

/-! The message at every base its domain binds. -/

/-- A fold over different elements reaches `After` at `b`, where the steps at the others keep what `b` starts from and what it
leaves. -/
theorem foldl_reaches {α β : Type} {f : α → β → α} {l : List β} {b : β} (Before After : α → Prop) (hnodup : l.Nodup) (hb : b ∈ l)
    (hself : ∀ a, Before a → After (f a b)) (hbefore : ∀ a c, c ≠ b → Before a → Before (f a c))
    (hafter : ∀ a c, c ≠ b → After a → After (f a c)) {a : α} (ha : Before a) : After (l.foldl f a) := by
  obtain ⟨pre, post, rfl⟩ := List.append_of_mem hb
  have hne : ∀ c, c ∈ pre ∨ c ∈ post → c ≠ b := by
    rintro c hc rfl
    simp only [List.nodup_append, List.nodup_cons] at hnodup
    grind
  rw [List.foldl_append, List.foldl_cons]
  exact List.foldlRecOn post f (hself _ (List.foldlRecOn pre f ha fun a ih c hc => hbefore a c (hne c (.inl hc)) ih))
    fun a ih c hc => hafter a c (hne c (.inr hc)) ih

theorem Dev.basesOf_nodup (d : Dev) (domain : Nat) : (d.basesOf domain).Nodup :=
  List.Nodup.filter _ (by decide)

theorem le_of_mem_disciplined : ∀ b ∈ [0, 2, 3], b ≤ 3 := by
  decide

theorem Dev.le_of_mem_basesOf {d : Dev} {domain b : Nat} (hb : b ∈ d.basesOf domain) : b ≤ 3 :=
  le_of_mem_disciplined b (List.mem_of_mem_filter hb)

/-- A whole TIME frame from an ACTIVE port at 2.x, of the command's MSG, is taken up after its header has acted. -/
theorem Dev.timeFrame_taken {d : Dev} {m : TimeMsg} {msg : Nat} (hport : m.port = 0) (hactive : d.portState 0 = 5)
    (hintact : m.frame.intact = true) (hkind : m.frame.kind = 3) (hok : m.frame.timeOk = true)
    (hmajor : (d.header 0 m.frame).portMajor 0 = 2) (hmsg : m.frame.msg = msg) :
    d.timeFrame m msg = (d.header 0 m.frame, true) := by
  simp [Dev.timeFrame, hport, hactive, hintact, Frame.badKind, hkind, hmajor, hok, hmsg]

theorem exec_sync {s : State} (h : s.up) (m : TimeMsg) : exec (.sync m) s = .next (s.withDev (sync s.dev m)) :=
  onDev_up h fun _ d => sync d m

theorem exec_followUp {s : State} (h : s.up) (m : TimeMsg) : exec (.followUp m) s = .next (s.withDev (followUp s.dev m)) :=
  onDev_up h fun _ d => followUp d m

theorem exec_delayResp {s : State} (h : s.up) (m : TimeMsg) : exec (.delayResp m) s = .next (s.withDev (delayResp s.dev m)) :=
  onDev_up h fun _ d => delayResp d m

section

variable {d e : Dev} {m : TimeMsg} (hport : m.port = 0) (hmine : e.timeMine m = true)
include hport hmine

theorem sync_taken (h : d.timeFrame m 0 = (e, true)) :
    sync d m = ((e.basesOf m.domain).foldl (syncAt m) e).forwardEvent m false := by
  simp only [sync, h, hport, hmine]
  rfl

theorem followUp_taken (h : d.timeFrame m 8 = (e, true)) :
    followUp d m = ((e.basesOf m.domain).foldl (followUpAt m) e).forwardGeneral m false := by
  simp only [followUp, h, hport, hmine]
  rfl

omit hport in
theorem delayResp_taken (h : d.timeFrame m 9 = (e, true)) (hnode : m.node = e.get K.NODE_ID) :
    delayResp d m = (e.basesOf m.domain).foldl (delayRespAt m) e := by
  simp only [delayResp, h, hmine, hnode, beq_self_eq_true, Bool.and_self, if_true]
  rfl

end

/-- Each base of the domain keeps its own stamp of the SYNC. -/
theorem foldl_syncAt {m : TimeMsg} {e : Dev} {b : Nat} (hb : b ∈ e.basesOf m.domain) :
    (m.seqId, e.ingress b 0 m.raw, e.clk) ∈ (((e.basesOf m.domain).foldl (syncAt m) e).exchOf b).syncs := by
  refine foldl_reaches (fun a : Dev => a.ingress b 0 m.raw = e.ingress b 0 m.raw ∧ a.clk = e.clk)
    (fun a : Dev => (m.seqId, e.ingress b 0 m.raw, e.clk) ∈ (a.exchOf b).syncs) (e.basesOf_nodup _) hb ?_ ?_ ?_ ⟨rfl, rfl⟩
  · rintro a ⟨hin, hclk⟩
    exact hin ▸ hclk ▸ syncAt_self m a b
  · exact fun a c _ h => h
  · intro a c hcb h
    rwa [syncAt_other m a hcb]

/-- Each base of the domain without a path delay keeps t2 − t1 − c1 of its own SYNC and t1. -/
theorem foldl_followUpAt {m : TimeMsg} {e : Dev} {b : Nat} {y : Nat × Int × Nat} (hb : b ∈ e.basesOf m.domain)
    (hy : (e.exchOf b).syncs.find? (fun y => y.1 == m.seqId && decide (e.clk ≤ y.2.2 + 4000000)) = some y)
    (hpath : (e.exchOf b).path = none) :
    (((e.basesOf m.domain).foldl (followUpAt m) e).exchOf b).fup =
      some (y.2.1 - (ofStamp80 m.t : Int) - m.corr * 15625, (ofStamp80 m.t : Int)) := by
  refine foldl_reaches (fun a : Dev => a.exchOf b = e.exchOf b ∧ a.clk = e.clk)
    (fun a : Dev => (a.exchOf b).fup = some (y.2.1 - (ofStamp80 m.t : Int) - m.corr * 15625, (ofStamp80 m.t : Int)))
    (e.basesOf_nodup _) hb ?_ ?_ ?_ ⟨rfl, rfl⟩
  · rintro a ⟨hexch, hclk⟩
    exact followUpAt_self (by rw [hexch, hclk, hy]) (by rw [hexch, hpath])
  · rintro a c hcb ⟨hexch, hclk⟩
    obtain ⟨hexch', hclk'⟩ := followUpAt_other m a hcb
    exact ⟨hexch'.trans hexch, hclk'.trans hclk⟩
  · intro a c hcb h
    rwa [(followUpAt_other m a hcb).1]

/-- Each base of the domain takes the mean path delay of its own DELAY_REQ. -/
theorem foldl_delayRespAt {m : TimeMsg} {e : Dev} {b : Nat} {y : Nat × Int × Nat × (Int × Int)} (hb : b ∈ e.basesOf m.domain)
    (hy : (e.exchOf b).dreqs.find? (fun y => y.1 == m.seqId && decide (e.clk ≤ y.2.2.1 + 40000000)) = some y) :
    let a := (e.basesOf m.domain).foldl (delayRespAt m) e
    (a.exchOf b).path = some (pathOf m y) ∧ a.get (K.MEAN_PATH b) = satI64 (pathOf m y / fsU) := by
  have hle := Dev.le_of_mem_basesOf hb
  refine foldl_reaches (fun a : Dev => a.exchOf b = e.exchOf b ∧ a.clk = e.clk)
    (fun a : Dev => (a.exchOf b).path = some (pathOf m y) ∧ a.get (K.MEAN_PATH b) = satI64 (pathOf m y / fsU))
    (e.basesOf_nodup _) hb ?_ ?_ ?_ ⟨rfl, rfl⟩
  · rintro a ⟨hexch, hclk⟩
    exact delayRespAt_self hle (by rw [hexch, hclk, hy])
  · rintro a c hcb ⟨hexch, hclk⟩
    obtain ⟨hexch', hclk', _⟩ := delayRespAt_other m a hcb hle
    exact ⟨hexch'.trans hexch, hclk'.trans hclk⟩
  · rintro a c hcb ⟨hpath, hmean⟩
    obtain ⟨hexch', _, hmean'⟩ := delayRespAt_other m a hcb hle
    exact ⟨by rw [hexch', hpath], hmean'.trans hmean⟩

/-- Settles O29: each message acts at base `b` while the other bases of the domain and the forwarding leave its exchange, and a
completed exchange writes nothing that takes back its offset, its step or the value of a base. -/
theorem exchangesSteerTheBase : Obligations.ExchangesSteerTheBase := by
  unfold Obligations.ExchangesSteerTheBase
  refine ⟨?messages, ?completion⟩
  case messages =>
    intro f b s hport hup hactive hintact hkind hok e hmajor hmine hb x
    have taken {msg : Nat} (hmsg : f.frame.msg = msg) : s.dev.timeFrame f msg = (e, true) :=
      Dev.timeFrame_taken hport hactive hintact hkind hok hmajor hmsg
    refine ⟨fun hmsg => ⟨_, exec_sync hup f, ?sync⟩, fun y hmsg hy hpath => ⟨_, exec_followUp hup f, ?followUp⟩,
      fun y hmsg hy hnode => ⟨_, exec_delayResp hup f, ?delayResp⟩⟩
    case sync =>
      rw [sync_taken hport hmine (taken hmsg), Dev.exchOf_forwardEvent]
      exact foldl_syncAt hb
    case followUp =>
      rw [followUp_taken hport hmine (taken hmsg), Dev.exchOf_forwardGeneral]
      exact foldl_followUpAt hb hy hpath
    case delayResp =>
      rw [delayResp_taken hmine (taken hmsg) hnode]
      exact foldl_delayRespAt hb hy
  case completion =>
    intro d b f hmem off e
    have hb := le_of_mem_disciplined b hmem
    exact ⟨Dev.exchange_lastOffset f hb, (d.exchange_steered b f).tbs,
      fun h => ⟨Dev.exchange_armed_state f hb h, Dev.exchange_armed_jump f h⟩⟩

end Sys2Proof.Machine

/-! Reset (R375): what the reset of a table, of the memories and of the objects leaves, and where a boot path begins. -/

namespace Sys2Proof.Machine

theorem Table.find_filter {α : Type} (keep : Nat → Bool) (t : Table α) (k : Nat) :
    Table.find (t.filter fun p => keep p.1) k = if keep k then Table.find t k else none := by
  induction t with
  | nil => simp [Table.find]
  | cons p t ih =>
    obtain ⟨j, w⟩ := p
    by_cases hj : j = k
    · subst hj
      cases hkeep : keep j <;> simp [hkeep, Table.find, ih]
    · rw [Table.find, if_neg hj, ← ih, List.filter_cons]
      split
      · rw [Table.find, if_neg hj]
      · rfl

theorem Table.at_filter {α : Type} (keep : Nat → Bool) (t : Table α) (v : α) (k : Nat) :
    Table.at (t.filter fun p => keep p.1) v k = if keep k then Table.at t v k else v := by
  rw [Table.at, Table.find_filter]
  split <;> rfl

/-- A reset leaves the flash, and every other byte as if never written. -/
theorem look_memReset (m : Memory) (a : Nat) :
    Memory.look (memReset m) a = if a / 2 ^ 64 = 8 then Memory.look m a else unwritten a := by
  split
  case isTrue h => exact Memory.look_filter_keep _ a (fun _ => by simpa using h) m
  case isFalse h => exact Memory.look_filter_out _ a (fun _ => by simpa using h) m

/-! The objects after a reset that keeps some of them. -/

/-- The objects a reset itself writes: the chip is in BOOT without an image, and the fuses are read anew. -/
def resetKeys : List Nat := [K.CHIP_STATE, K.FW_VERSION, K.IMAGE_ROLLBACK, K.ROLLBACK_FUSE, K.KEY_REVOKED]

section
variable (f : Fuses) (d : Dev) (keep : Table Nat)

theorem Dev.afterReset_get_chipState : (d.afterReset f keep).get K.CHIP_STATE = 0 := by
  simp [Dev.afterReset, Dev.setAll_cons, Dev.setAll_nil, Dev.get_set, K.CHIP_STATE, K.FW_VERSION, K.IMAGE_ROLLBACK,
    K.ROLLBACK_FUSE, K.KEY_REVOKED]

theorem Dev.afterReset_get_rollbackFuse : (d.afterReset f keep).get K.ROLLBACK_FUSE = f.rollback := by
  simp [Dev.afterReset, Dev.setAll_cons, Dev.setAll_nil, Dev.get_set, K.ROLLBACK_FUSE, K.KEY_REVOKED]

theorem Dev.afterReset_get_keyRevoked : (d.afterReset f keep).get K.KEY_REVOKED = f.revoked :=
  Dev.get_set_same _ _ _

/-- An object the reset does not write is as the kept objects have it, and at its default where they do not list it. -/
theorem Dev.afterReset_get_of_not_mem {key : Nat} (h : key ∉ resetKeys) :
    (d.afterReset f keep).get key = Table.at keep (dfltOf key) key := by
  simp only [resetKeys, List.mem_cons, List.not_mem_nil, or_false, not_or] at h
  obtain ⟨hchip, hversion, himage, hfuse, hkeys⟩ := h
  simp only [Dev.afterReset, Dev.setAll_cons, Dev.setAll_nil, Dev.get_set, hchip, hversion, himage, hfuse, hkeys, if_false]
  rfl

end

/-! The boot path (R391, R396). -/

theorem Dev.bootPath_get_ne (d : Dev) (mode : Nat) {key : Nat} (h : key ≠ K.BOOT_STATUS) :
    (d.bootPath mode).get key = d.get key := by
  rw [Dev.bootPath, Dev.get_set_ne _ _ _ _ h, Dev.get_setPwr]

/-- BOOT_STATUS where a boot path begins, as a sum of LOCK_CAUSE, SOURCE and BOOT_MODE. -/
def bootStatusOf (mode : Nat) : Nat :=
  (if 3 ≤ mode then 2 * 2 ^ 16 else 0) + (if mode = 0 ∨ mode = 2 then 0 else 2 ^ 8) + mode

theorem Dev.bootPath_eq (d : Dev) (mode : Nat) :
    d.bootPath mode = (d.setPwr { d.pwr with bootMode := mode }).set K.BOOT_STATUS (bootStatusOf mode) := by
  have hcause : fld 16 8 (if 3 ≤ mode then 2 else 0) = if 3 ≤ mode then 2 * 2 ^ 16 else 0 := by split <;> rfl
  have hsource : fld 8 8 (bootSource mode) = if mode = 0 ∨ mode = 2 then 0 else 2 ^ 8 := by unfold bootSource; split <;> rfl
  rw [Dev.bootPath, bootStatusOf, hcause, hsource]

/-! The reset pin. -/

theorem exec_resetNAssert (s : State) :
    exec .resetNAssert s = .next (s.withBoth (resetAssert s.fuses s.mem s.dev)) := rfl

theorem exec_resetNRelease (mode : Nat) (s : State) :
    exec (.resetNRelease mode) s = .next (s.withBoth (resetRelease s.fuses s.mem s.dev mode)) := rfl

/-- The TAP when RESET_N rises: an instruction decoded only in reset acts as BYPASS from then on (R424). -/
def Jtag.released (j : Jtag) : Jtag := if 3 ≤ j.instr then { j with instr := 0, dr := 0 } else j

theorem resetRelease_low {f : Fuses} {m : Memory} {d : Dev} {mode : Nat} (hlow : d.pwr.resetLow = true) (hmode : mode < 8) :
    resetRelease f m d mode =
      (m, (({ d with jtag := d.jtag.released } : Dev).setPwr { d.pwr with resetLow := false, bootMode := mode }).set
        K.BOOT_STATUS (bootStatusOf mode)) := by
  simp only [resetRelease, if_pos hlow, Nat.mod_eq_of_lt hmode, Dev.bootPath_eq, Jtag.released]
  split <;> rfl

theorem resetRelease_up {f : Fuses} {m : Memory} {d : Dev} {mode : Nat} (hup : d.pwr.resetLow = false) :
    resetRelease f m d mode = (m, d) := by
  simp [resetRelease, hup]

/-! REBOOT. -/

/-- The objects REBOOT keeps: NODE_ID, and those of the upstream port and its four lanes. -/
def keptByReboot (key : Nat) : Bool :=
  key == K.NODE_ID || key / 256 == 0x201 || (decide (0x220 ≤ key / 256) && decide (key / 256 ≤ 0x223))

section
variable (f : Fuses) (d : Dev)

theorem Dev.rebooted_get_bootStatus : (d.rebooted f).get K.BOOT_STATUS = bootStatusOf d.pwr.bootMode := by
  rw [Dev.rebooted, Dev.bootPath_eq, Dev.get_set_same]

theorem Dev.rebooted_get_resetCause : (d.rebooted f).get K.RESET_CAUSE = 2 := by
  rw [Dev.rebooted, Dev.bootPath_get_ne _ _ (by decide), Dev.get_set_same]

/-- Beside BOOT_STATUS and RESET_CAUSE the objects are those of a reset that keeps the surviving ones. -/
theorem Dev.rebooted_get_ne {key : Nat} (hstatus : key ≠ K.BOOT_STATUS) (hcause : key ≠ K.RESET_CAUSE) :
    (d.rebooted f).get key = (d.afterReset f (d.objs.filter fun p => keptByReboot p.1)).get key := by
  rw [Dev.rebooted, Dev.bootPath_get_ne _ _ hstatus, Dev.get_set_ne _ _ _ _ hcause]
  rfl

/-- An object REBOOT does not write holds what it held if it survives, and else its default. -/
theorem Dev.rebooted_get_of_not_mem {key : Nat} (hstatus : key ≠ K.BOOT_STATUS) (hcause : key ≠ K.RESET_CAUSE)
    (hreset : key ∉ resetKeys) : (d.rebooted f).get key = if keptByReboot key then d.get key else dfltOf key := by
  rw [d.rebooted_get_ne f hstatus hcause, Dev.afterReset_get_of_not_mem f d _ hreset, Table.at_filter]
  rfl

/-- REBOOT keeps an object of the upstream port or of its lanes. -/
theorem Dev.rebooted_get_of_upstream {key : Nat}
    (h : key / 256 = 0x201 ∨ (0x220 ≤ key / 256 ∧ key / 256 ≤ 0x223)) : (d.rebooted f).get key = d.get key := by
  have hkept : keptByReboot key = true := by
    simp only [keptByReboot, Bool.or_eq_true, Bool.and_eq_true, beq_iff_eq, decide_eq_true_eq]
    omega
  have hlocal : ∀ k ∈ K.BOOT_STATUS :: K.RESET_CAUSE :: resetKeys,
      ¬(k / 256 = 0x201 ∨ (0x220 ≤ k / 256 ∧ k / 256 ≤ 0x223)) := by decide
  have hwritten : key ∉ K.BOOT_STATUS :: K.RESET_CAUSE :: resetKeys := fun hmem => hlocal key hmem h
  simp only [List.mem_cons (l := K.RESET_CAUSE :: resetKeys), List.mem_cons (l := resetKeys), not_or] at hwritten
  obtain ⟨hstatus, hcause, hreset⟩ := hwritten
  rw [d.rebooted_get_of_not_mem f hstatus hcause hreset, if_pos hkept]

theorem Dev.rebooted_get_of_not_kept {key : Nat} (hstatus : key ≠ K.BOOT_STATUS) (hcause : key ≠ K.RESET_CAUSE)
    (hreset : key ∉ resetKeys) (hnode : key ≠ K.NODE_ID) (hport : key / 256 ≠ 0x201)
    (hlane : key / 256 < 0x220 ∨ 0x223 < key / 256) : (d.rebooted f).get key = dfltOf key := by
  have hlost : ¬keptByReboot key = true := by
    simp only [keptByReboot, Bool.or_eq_true, Bool.and_eq_true, beq_iff_eq, decide_eq_true_eq]
    omega
  rw [d.rebooted_get_of_not_mem f hstatus hcause hreset, if_neg hlost]

theorem Dev.rebooted_port (p : Nat) : (d.rebooted f).port p = if p = 0 then d.port p else {} := by
  calc (d.rebooted f).port p
    _ = Table.at (d.ports.filter fun e => e.1 == 0) {} p := rfl
    _ = if p = 0 then d.port p else {} := by rw [Table.at_filter (· == 0)]; simp only [beq_iff_eq]; rfl

end

theorem exec_reboot {r : Req} {s : State} (h : s.admits r K.BOOT_CMD 1 1) :
    exec (.reboot r) s = .next (s.withBoth (reboot s.fuses s.mem s.dev r)) := by
  obtain ⟨hready, hbehind, -⟩ : s.ready r ∧ s.dev.behind (.dictWrite r 0x0700 1 1 1) = false ∧ _ := h
  calc exec (.reboot r) s
    _ = execReboot r s := rfl
    _ = onLoad s (fun f m d => reboot f m d r) := by rw [execReboot, taken_ready hready hbehind]
    _ = .next (s.withBoth (reboot s.fuses s.mem s.dev r)) := onLoad_up hready.1 _

theorem reboot_accepted {f : Fuses} {m : Memory} {d : Dev} {r : Req} (hpre : d.preWrite 0x700 1 1 1 = none)
    (hstate : d.get K.CHIP_STATE ∈ [1, 2, 6, 7]) :
    reboot f m d r = (memReset m, (d.respond r 2 0x700 1 []).rebooted f) := by
  have hstate' : d.get K.CHIP_STATE = 2 ∨ d.get K.CHIP_STATE = 1 ∨ d.get K.CHIP_STATE = 6 ∨ d.get K.CHIP_STATE = 7 := by
    simp only [List.mem_cons, List.not_mem_nil, or_false] at hstate
    omega
  simp only [reboot, hpre, if_pos hstate']

theorem reboot_refused {f : Fuses} {m : Memory} {d : Dev} {r : Req} (hpre : d.preWrite 0x700 1 1 1 = none)
    (hstate : d.get K.CHIP_STATE ∈ [0, 3, 4, 5]) : reboot f m d r = (m, d.refuse r 2 0x700 1 .state) := by
  have hstate' : ¬(d.get K.CHIP_STATE = 2 ∨ d.get K.CHIP_STATE = 1 ∨ d.get K.CHIP_STATE = 6 ∨ d.get K.CHIP_STATE = 7) := by
    simp only [List.mem_cons, List.not_mem_nil, or_false] at hstate
    omega
  simp only [reboot, hpre, if_neg hstate']

/-- Settles O2: each object is read from the table a reset starts from, empty for the pin and filtered for REBOOT, and the
answer to REBOOT touches nothing that survives but the port it leaves by. -/
theorem resetsKeepWhatSurvives : Obligations.ResetsKeepWhatSurvives := by
  unfold Obligations.ResetsKeepWhatSurvives
  refine ⟨⟨?assert, ?release, ?alreadyHigh⟩, ?reboot⟩
  case assert =>
    intro s
    have get_default {key : Nat} (h : key ∉ resetKeys) : (s.dev.afterReset s.fuses []).get key = dfltOf key :=
      Dev.afterReset_get_of_not_mem _ _ _ h
    exact ⟨_, _, exec_resetNAssert s, rfl, Dev.afterReset_get_chipState _ _ _, get_default (key := K.RESET_CAUSE) (by decide),
      Dev.afterReset_get_rollbackFuse _ _ _, Dev.afterReset_get_keyRevoked _ _ _, fun _ => get_default, rfl,
      look_memReset s.mem⟩
  case release =>
    intro mode s hlow hmode j
    rw [exec_resetNRelease, resetRelease_low hlow hmode]
    rfl
  case alreadyHigh =>
    intro mode s hup
    rw [exec_resetNRelease, resetRelease_up hup]
    rfl
  case reboot =>
    intro r s e mode
    refine ⟨fun hadm hstate => ?accepted, fun hadm hstate => ?refused⟩
    case accepted =>
      obtain ⟨_, _, _, _, hshape⟩ := s.dev.respond_shape r 2 0x700 1 [] 0
      have hmode : e.pwr.bootMode = mode := congrArg (·.pwr.bootMode) hshape
      refine ⟨memReset s.mem, e.rebooted s.fuses, ?next, ?chip, e.rebooted_get_resetCause s.fuses, ?fuse, ?revoked, ?status,
        ?node, fun _ => e.rebooted_get_of_upstream s.fuses, ?lost, e.rebooted_port s.fuses 0,
        fun p hp => (e.rebooted_port s.fuses p).trans (if_neg hp), ?fields, look_memReset s.mem⟩
      case next => rw [exec_reboot hadm, reboot_accepted hadm.2.2 hstate]
      case chip => rw [e.rebooted_get_ne s.fuses (by decide) (by decide), Dev.afterReset_get_chipState]
      case fuse => rw [e.rebooted_get_ne s.fuses (by decide) (by decide), Dev.afterReset_get_rollbackFuse]
      case revoked => rw [e.rebooted_get_ne s.fuses (by decide) (by decide), Dev.afterReset_get_keyRevoked]
      case status => rw [e.rebooted_get_bootStatus, hmode]; rfl
      case node =>
        rw [e.rebooted_get_of_not_mem s.fuses (by decide) (by decide) (by decide)]
        exact s.dev.respond_get_ne r 2 0x700 1 [] 0 _ (ne_portKey_of_mod (by decide) (by decide))
      case lost =>
        intro key hkey
        simp only [List.mem_cons, List.not_mem_nil, or_false, not_or] at hkey
        obtain ⟨hchip, hversion, himage, hfuse, hrevoked, hcause, hstatus, hnode⟩ := hkey
        exact e.rebooted_get_of_not_kept s.fuses hstatus hcause
          (by simp [resetKeys, hchip, hversion, himage, hfuse, hrevoked]) hnode
      case fields =>
        simp only [e, mode, hshape]
        rfl
    case refused =>
      rw [exec_reboot hadm, reboot_refused hadm.2.2 hstate]
      rfl

end Sys2Proof.Machine
